-- ==== Sys2Proof/Word.lean ====
section
/-! DEFINITION. The words of the TC-610: bytes, 16-bit fields, 24-bit host addresses, 32-bit counters. -/

namespace Sys2Proof

/-- A byte of host memory or of a record (spec 11, section 12). -/
abbrev Byte := BitVec 8

/-- A 16-bit register or record field (spec 00, section 1.2: 16-bit data). -/
abbrev Half := BitVec 16

/-- A 24-bit byte address on the host memory bus (spec 00, section 1.2). -/
abbrev Addr := BitVec 24

/-- A 32-bit counter or field (R104, R111, R173). -/
abbrev Long := BitVec 32

/-- The 16-bit little-endian field whose bytes are `lo`, `hi` (spec 00, section 1.5.1). -/
def half (lo hi : Byte) : Half := hi ++ lo

/-- The low byte of a 16-bit field. -/
def loByte (h : Half) : Byte := h.extractLsb' 0 8

/-- The high byte of a 16-bit field. -/
def hiByte (h : Half) : Byte := h.extractLsb' 8 8

end Sys2Proof
end

