-- ==== Sys2Proof/Syntax.lean ====
section
/-! DEFINITION. The commands of the TC-610: one constructor of `Instr` per row of spec/opcode_table.json. -/

namespace Sys2Proof

/-- The three Motion Channels (R131). -/
inductive Channel where
  | carriage
  | film
  | turret
  deriving DecidableEq, Repr

/-- The owners of the three notice records (TABLE 2-6). -/
inductive Owner where
  | photoUnit
  | film
  | proof
  deriving DecidableEq, Repr

/-- The steps of the part that access the host bus, as a `busError` names the one whose access is not acknowledged (R19). -/
inductive BusStep where
  /-- START's reads of the header, the Grant Table and the tables. -/
  | start
  /-- RELOAD's reads of the same. -/
  | reload
  /-- SEQUENCE's read of the presets. -/
  | sequence
  /-- An operation held by a Desk fault, made again at RESUME. -/
  | resume
  /-- CANCEL's write of NONE into the resume slot, or an access of the steps that follow a cancelled flash. -/
  | cancel (operand : Byte)
  /-- A Tray access of a scan, or an access of the steps the scan leads to. -/
  | scan
  /-- The result write in flight. -/
  | resultWrite
  /-- The read of the next take code, or an access of what the code does. -/
  | takeCode
  /-- The width table read in flight. -/
  | widthTableLoad
  /-- The dictionary lookup in flight. -/
  | dictionaryLookup
  /-- An access after a BLOCKED Composer has drawn its item. -/
  | itemDraw
  /-- An access after a BLOCKED Composer has appended its group. -/
  | groupAppend
  /-- The notice record write in flight of one owner. -/
  | noticeWrite (owner : Owner)
  /-- The step `during`, of which one more access fails after the failing one told before it: `acked` bytes are acknowledged between
  the two, and `landed` says of a failing write of TAKEN whether it reached its slot. -/
  | further (during : BusStep) (acked : Nat) (landed : Bool)
  deriving DecidableEq, Repr

/-- The commands of the TC-610: what the host, the photo-unit, the printer and the passing of time can do to it, and the
steps its blocks take. The table gives its rows no operand fields; an operand here is what the step's rule names. -/
inductive Instr where
  /-- Write of COMMAND 0x01; the operand byte is ignored (R6, R8). -/
  | start (operand : Byte)
  /-- Write of COMMAND 0x02 (R10). -/
  | halt (operand : Byte)
  /-- Write of COMMAND 0x03 (R12). -/
  | resume (operand : Byte)
  /-- Write of COMMAND 0x04 (R13). -/
  | reload (operand : Byte)
  /-- Write of COMMAND 0x05 (R14). -/
  | sequence (operand : Byte)
  /-- Write of COMMAND 0x06; the operand names a Tray slot (R15). -/
  | cancel (operand : Byte)
  /-- Write of COMMAND 0x07 (R16). -/
  | reset (operand : Byte)
  /-- Write of COMMAND with a code that is none of the seven (R6, R176). -/
  | unknownCommand (code operand : Byte)
  /-- Write of DESKBASE (R1). -/
  | deskbaseWrite (value : Half)
  /-- Write of NUDGE (R4). -/
  | nudge (value : Half)
  /-- Write of EVENTS (R5). -/
  | eventsClear (value : Half)
  /-- Write of EVENTMASK (R4, R176). -/
  | eventmaskWrite (value : Half)
  /-- Write of STATUS (R4). -/
  | registerWriteIgnored (value : Half)
  /-- Power-on, or the RESET pin asserted and released (R17). -/
  | powerOn
  /-- A bus access of the step `during` is not acknowledged, after `acked` bytes of the step's accesses have been;
  `landed` says, of a failing write of TAKEN in a locked sequence, whether it reached its slot all the same (R26, R27), and says
  nothing of any other access (R19). Where more of the step's accesses fail, `during` tells them (`BusStep.further`). -/
  | busError (during : BusStep) (acked : Nat) (landed : Bool)
  /-- The rescan timer would count from 1 to 0 (R24). -/
  | rescanTimerExpiry
  /-- The scan in flight reads the Tray to its end (R25). -/
  | scan
  /-- The result write in flight completes (R34). -/
  | resultWrite
  /-- The Composer reads a code 0x00 to 0x6F (R54). -/
  | character
  /-- The Composer reads 0x70 (R55). -/
  | wordSpace
  /-- The Composer reads 0x71, 0x72 or 0x73 (R55). -/
  | fixedSpace
  /-- The Composer reads 0x74 (R55). -/
  | discretionaryHyphen
  /-- The Composer reads 0x75 to 0x78 (R61). -/
  | endLine
  /-- The Composer reads 0x79 (R61). -/
  | endParagraph
  /-- The Composer reads 0x7F (R52). -/
  | endOfTake
  /-- The Composer would read a byte at the take length (R53). -/
  | takeOverrun
  /-- The Composer reads 0x7A (R62). -/
  | markColumnTop
  /-- The Composer reads 0x7B (R62). -/
  | returnToMark
  /-- The Composer reads 0x84 (R62). -/
  | reverseLead
  /-- The Composer reads 0x8D (R62). -/
  | leadNow
  /-- The Composer reads 0x7C (R59). -/
  | hyphenationOff
  /-- The Composer reads 0x7D (R59). -/
  | hyphenationOn
  /-- The Composer reads 0x7E (R55). -/
  | fill
  /-- The Composer reads 0x80 (R56). -/
  | font
  /-- The width table read in flight completes (R106). -/
  | widthTableLoad
  /-- The Composer reads 0x81 (R57). -/
  | pointSize
  /-- The Composer reads 0x82 (R57). -/
  | setSize
  /-- The Composer reads 0x83 (R58). -/
  | leading
  /-- The Composer reads 0x85 (R59). -/
  | measure
  /-- The Composer reads 0x86 (R59). -/
  | indentLeft
  /-- The Composer reads 0x87 (R59). -/
  | indentRight
  /-- The Composer reads 0x88 (R60). -/
  | tabStopSet
  /-- The Composer reads 0x89 (R60). -/
  | tabTo
  /-- The Composer reads 0x8A (R60). -/
  | moveTo
  /-- The Composer reads 0x8B (R60). -/
  | moveBy
  /-- The Composer reads 0x8C (R59). -/
  | letterspaceLimit
  /-- The Composer reads 0x8E to 0xFF (R65). -/
  | badCode
  /-- The dictionary lookup in flight ends (R93). -/
  | dictionaryLookup
  /-- A BLOCKED Composer draws the item it waited for (R101). -/
  | itemDraw
  /-- A BLOCKED Composer appends the group it waited to append (R122). -/
  | groupAppend
  /-- The Exposure Sequencer takes or skips the record before its cursor (R129). -/
  | exposureTakeRecord
  /-- A move of a channel ends; `home` is the level of the channel's home input at that moment (R132, R133). -/
  | motionComplete (channel : Channel) (home : Bool)
  /-- The drum track's settle time runs out (R135). -/
  | trackSettled
  /-- A filtered MARK rising edge, `elapsed` microseconds after the last drum event, with the filtered INDEX level then (R139, R114). -/
  | mark (elapsed : Nat) (indexHigh : Bool)
  /-- A filtered INDEX rising edge, `elapsed` microseconds after the last drum event (R139). -/
  | index (elapsed : Nat)
  /-- The interval counter reaches 0 (R140). -/
  | drumWatch
  /-- The flash delay ends (R137). -/
  | flashDelayExpiry
  /-- The FLASH pulse ends (R137). -/
  | flashEnd
  /-- The lamp-ready timer runs out (R138). -/
  | lampReady
  /-- The drum-wait timer runs out (R142). -/
  | drumWaitTimeout
  /-- COVER changes from closed to open (R143). -/
  | coverOpen
  /-- COVER changes from open to closed (R118). -/
  | coverClose
  /-- A notice record write completes (R20). -/
  | noticeWriteDone (owner : Owner)
  /-- CASSETTE changes from absent to present (R154). -/
  | cassetteInsertion
  /-- CASSETTE changes from present to absent (R154). -/
  | cassetteRemoval
  /-- TAKEUP shows absent (R155). -/
  | takeupAbsent
  /-- TAKEUP shows present (R148). -/
  | takeupPresent
  /-- KNIFE DONE changes from deasserted to asserted (R156). -/
  | knifeDone
  /-- 500 ms have passed since KNIFE was asserted (R157). -/
  | knifeTimeout
  /-- The Proof Renderer takes, skips or passes the record before its cursor (R161). -/
  | proofTakeRecord
  /-- The printer takes a byte; `busy` says whether it raises PBUSY within 2 microseconds of it (R168). -/
  | printerByte (busy : Bool)
  /-- The printer timer expires (R170). -/
  | proofDrop
  /-- PBUSY has been high for 100 ms (R169). -/
  | printerBusyTimeout
  /-- PFAULT is asserted (R169). -/
  | printerFault
  /-- PFAULT is deasserted with PBUSY low (R171). -/
  | printerReady
  deriving DecidableEq, Repr

end Sys2Proof
end

