-- ==== Sys2Proof/Config.lean ====
section
/-! DEFINITION. What the specification leaves to the implementation, and the free values: constants with no body, so that no
proof can rest on what they are. -/

namespace Sys2Proof

/-- FREE VALUE (R34: "Two entries due at once are written one after the other, either first"). Applied to the model's
free-value counter, it picks which of several due entries is written next. Log entry 5. -/
opaque Config.resultOrder : Nat → Nat

/-- FREE VALUE (R16: "A Desk write cut short may have written some of its bytes"). Applied to the model's free-value counter,
it says how many bytes of a Desk write in flight have reached host memory when a reset stops it. Log entry 6. -/
opaque Config.cutShort : Nat → Nat

/-- FREE VALUE (R132: a reset stops a move "at whatever point of its step it has reached"). Applied to the model's free-value counter, it
says whether a home input is asserted where a reset has stopped its channel's move. Log entry 48. -/
opaque Config.homeLevel : Nat → Bool

/-- The longest reverse lead above the deepest point of the galley, in ticks (R151). -/
def Config.reverseReach : Nat := 12000

/-- The items of the pool (R120). -/
def Config.poolItems : Nat := 1536

/-- The places of the Line Store's ring (R121). -/
def Config.ringPlaces : Nat := 16

/-- The greatest measure and indent, in ticks (TABLE 2-2, R59). -/
def Config.maxMeasure : Nat := 17280

end Sys2Proof
end

