-- ==== Sys2Proof/Machine/State.lean ====
section
/-! DEFINITION. The state of the TC-610 as plain data: everything the specification names, block by block (TABLE 1-1), the
host memory the part reads and writes, the levels of the input lines, and the queue of waiting commands. -/

namespace Sys2Proof.Machine

/-! ### Stops -/

/-- No step of the TC-610 ends in a fault: the part reports bus errors, homing failures, knife timeouts and drum waits by its
own registers and goes on (R7, R11, R19), so this type has no constructor. -/
inductive Fault where
  deriving DecidableEq, Repr

/-- The refusals of the model. -/
inductive Refusal where
  /-- Raised by an arm of `exec` for a command that has no meaning yet. Safe: the model stops where the part would go on.
  No arm raises it. -/
  | notModelled (mnemonic : String)
  deriving DecidableEq, Repr

/-! ### The Desk Interface (spec 01) -/

/-- Controller states (section 2.4). -/
inductive Controller where
  | stopped
  | running
  | halted
  deriving DecidableEq, Repr

/-- Halt causes (TABLE 2-4). -/
inductive HaltCause where
  | none
  | command
  | setup
  | deskFault
  | home
  | knife
  | drum
  deriving DecidableEq, Repr

/-- The last-command result (R4, TABLE 12-16). -/
inductive CmdResult where
  | none
  | accepted
  | refusedBusy
  | refusedState
  | refusedSetup
  | refusedOperand
  deriving DecidableEq, Repr

/-- The steps of START that wait for something (R9): homing, the clearing cut, and the writing of the notice records. -/
inductive StartStep where
  | homing
  | clearingCut
  | notices
  deriving DecidableEq, Repr

/-- A command in progress between two steps, and what it waits for (R6, R9, R12, R14, R15, R47). -/
inductive Busy where
  /-- START, at the step `startStep` names. -/
  | start
  /-- A RESUME that carries out START's remaining steps (R12). -/
  | resume
  /-- SEQUENCE with its presets read, waiting for a scan in flight to end (R14). -/
  | sequence (routine flash : Half)
  /-- CANCEL, waiting for the load, the lookup or the result write of the entry it cancels (R15, R47). -/
  | cancel (entry : Fin 8)
  deriving DecidableEq, Repr

/-- An entry of the Grant Table copy (TABLE 12-6, R18). -/
structure Grant where
  base : Nat
  length : Nat
  read : Bool
  write : Bool
  deriving DecidableEq, Repr

/-- The part's copy of the five area offsets (TABLE 2-1). -/
structure Areas where
  tray : Half
  fontDirectory : Half
  grantTable : Half
  notices : Half
  context : Half
  deriving DecidableEq, Repr

/-- The motion parameters of one channel in Setup (TABLE 2-2). -/
structure MotionSetup where
  rate : Nat
  high : Nat
  low : Nat
  deriving DecidableEq, Repr

/-- The part's copy of Setup, clamped (TABLE 2-2, R3), with the Lens Table (R110). -/
structure Setup where
  font : Nat
  pointSize : Nat
  leading : Nat
  measure : Nat
  indentLeft : Nat
  indentRight : Nat
  letterspace : Nat
  hyphenation : Bool
  minWord : Nat
  minPrefix : Nat
  minSuffix : Nat
  ladderLimit : Nat
  lens : Vector Nat 8
  flashLength : Vector Nat 8
  lampRecharge : Nat
  flashDelay : Nat
  markInterval : Nat
  carriage : MotionSetup
  film : MotionSetup
  turret : MotionSetup
  leader : Nat
  trailer : Nat
  spoilGap : Nat
  cassetteLength : Nat
  proofEnable : Bool
  proofMirror : Bool
  highlightMask : Half
  proofTimeout : Nat
  rescan : Nat
  deriving DecidableEq, Repr

/-- The Desk Interface (TABLE 1-1). The interrupt line follows from EVENTS and EVENTMASK (R5). -/
structure Desk where
  /-- DESKBASE (R1). -/
  base : Byte
  /-- EVENTS: TICKET, NOTICE, HALT, COMMAND in bits 0 to 3 (R5). -/
  events : BitVec 4
  /-- EVENTMASK, the four enables (R4). -/
  mask : BitVec 4
  /-- EVENTMASK bit 15, the STATUS page (R176). -/
  page : Bool
  controller : Controller
  cause : HaltCause
  result : CmdResult
  /-- The command in progress (R6). -/
  busy : Option Busy
  /-- The step START stands at, or held at (R9, R12). -/
  startStep : Option StartStep
  /-- Step 5 of START has been made since the last reset (R24). -/
  started : Bool
  areas : Areas
  grants : List Grant
  /-- A Setup copy is in use (R17). -/
  setupInUse : Bool
  setup : Setup
  /-- The Proof Glyph Table pointer of the header copied last is not 0 (R3). -/
  glyphsGiven : Bool
  deriving DecidableEq, Repr

/-! ### Tickets, the Ticket Scanner and the Flight Table (spec 02) -/

/-- Ticket classes (TABLE 3-1). -/
inductive Class where
  | routine
  | flash
  deriving DecidableEq, Repr

/-- Ticket kinds (TABLE 3-1). -/
inductive Kind where
  | take
  | cut
  deriving DecidableEq, Repr

/-- Reasons other than NONE (TABLE 3-2). -/
inductive Reason where
  | stale
  | kind
  | destination
  | length
  | access
  | masked
  | fontUnavailable
  | busError
  | takeOverrun
  deriving DecidableEq, Repr

/-- Final states of a ticket in flight (R34). -/
inductive Final where
  | set
  | held
  | cancelled
  deriving DecidableEq, Repr

/-- Scanner states (TABLE 3-3). -/
inductive ScanState where
  | idle
  | watch
  | locked
  deriving DecidableEq, Repr

/-- The Tray access a Desk fault holds, to be made again at RESUME (R25 to R28). -/
inductive HeldTray where
  /-- A read of the scan: the scan is made again from slot 0 (R25). -/
  | read
  /-- The locked sequence of a stale refusal (R26). -/
  | staleLock (slot : Nat)
  /-- The take (R27). -/
  | take (slot : Nat) (cls : Class) (seq : Half)
  /-- The read of a taken ticket's host fields (R28). -/
  | body (slot : Nat) (cls : Class)
  /-- The writes of a refusal, stale or after validation (R26, R28). -/
  | refusal (slot : Nat) (reason : Reason)
  deriving DecidableEq, Repr

/-- The Ticket Scanner (section 3.2). -/
structure Scanner where
  state : ScanState
  nextRoutine : Half
  nextFlash : Half
  pendingFlag : Bool
  /-- A scan has started and has not ended (R23). -/
  inFlight : Bool
  held : Option HeldTray
  /-- The rescan timer in 10 ms steps; 0 is stopped (R24). -/
  timer : Nat
  /-- The timer holds at 1 until the scan in flight ends (R24). -/
  timerAtOne : Bool
  deriving DecidableEq, Repr

/-- An entry of the Flight Table (R29, R31). -/
structure Entry where
  slot : Nat
  cls : Class
  kind : Kind
  toFilm : Bool
  toProof : Bool
  stopMask : Half
  fresh : Bool
  takePtr : Addr
  takeLength : Nat
  logPtr : Addr
  /-- Capacity of the line log in entries; 0 is no log (R28). -/
  logCapacity : Nat
  finished : Bool
  outstanding : Nat
  conditions : Half
  firstLine : Nat
  linesSet : Nat
  hyphenated : Nat
  logWritten : Nat
  logIndex : Nat
  firstGalley : Nat
  lastGalley : Nat
  depth : Long
  held : Option Reason
  maskedBit : Option Nat
  stopOffset : Nat
  cancelMark : Bool
  /-- The line number the ticket's composition gives its next line (R38, R119). -/
  lineNumber : Nat
  /-- The final state fell due, or was taken up at RESUME, with the controller RUNNING (R10, R34). -/
  due : Bool
  deriving DecidableEq, Repr

/-- The result write in flight (R34): its entry, the final state being written, and whether a Desk fault holds it. -/
structure ResultWrite where
  entry : Fin 8
  final : Final
  held : Bool
  deriving DecidableEq, Repr

/-! ### The Composer (spec 03, 04, 05) -/

/-- The composition state (TABLE 4-1). -/
structure CompState where
  font : Nat
  pointSize : Nat
  lens : Fin 8
  setSize : Nat
  leading : Nat
  measure : Nat
  indentLeft : Nat
  indentRight : Nat
  /-- The 16 tab stops, each undefined or a position in ticks. -/
  tabs : List (Option Nat)
  letterspace : Nat
  hyphenation : Bool
  ladder : Nat
  deriving DecidableEq, Repr

/-- Measure words (TABLE 5-2). -/
inductive MeasureWord where
  | num (fine : Int)
  | overPlus
  | overMinus
  | void
  deriving DecidableEq, Repr

/-- Quad modes (R61). -/
inductive Quad where
  | left
  | center
  | right
  | justify
  deriving DecidableEq, Repr

/-- Item kinds (TABLE 8-2). -/
inductive ItemKind where
  | char
  | hyphen
  deriving DecidableEq, Repr

/-- A character or hyphen placed in the line being built, with the values kept for a hyphen after it (R54, R109). -/
structure Glyph where
  kind : ItemKind
  font : Nat
  lens : Fin 8
  code : Nat
  width : Nat
  setSize : Nat
  hyphenCode : Nat
  hyphenUnits : Nat
  strip : Half
  deriving DecidableEq, Repr

/-- The elements of a line (section 5.1). -/
inductive Element where
  | glyph (g : Glyph)
  | fixed (width : Nat)
  | space (min opt max : Nat)
  /-- A tab to, or a move to (R70). -/
  | place (w : MeasureWord)
  /-- A move by (R70). -/
  | shift (w : MeasureWord)
  deriving DecidableEq, Repr

/-- LEAD sub-kinds with their amounts (section 4.9). -/
inductive Lead where
  | mark
  | toMark
  | reverse (ticks : Nat)
  | advance (ticks : Nat)
  deriving DecidableEq, Repr

/-- One code read into the line being built: its take offset, the composition state before it (R96), the element it places,
whether it is a discretionary hyphen, the film code it holds, and the conditions it raised (R63, R65). -/
structure LineCode where
  offset : Nat
  before : CompState
  element : Option Element
  discretionary : Bool
  film : Option Lead
  conditions : Half
  deriving DecidableEq, Repr

/-- The line settings as fixed, with the effective measure and origin in fine (R48, R72). -/
structure Settings where
  leading : Nat
  measure : Nat
  indentLeft : Nat
  indentRight : Nat
  letterspace : Nat
  setSize : Nat
  effective : Int
  origin : Int
  deriving DecidableEq, Repr

/-- The line being built. The figures of TABLE 5-1 other than the settings follow from its elements (R66). -/
structure Line where
  codes : List LineCode
  settings : Option Settings
  /-- Conditions of the line that belong to no code of it (R65, R72, R98, R100). -/
  conditions : Half
  deriving DecidableEq, Repr

/-- Break candidates (section 6.5): a point after character `after` and its weight. -/
structure Candidate where
  after : Nat
  preferred : Bool
  deriving DecidableEq, Repr

/-- A code at which the line is tested with the word that ends there (section 6.2). -/
inductive Trigger where
  | space (offset min opt max : Nat)
  | endCode (offset : Nat) (quad : Quad)
  | endParagraph (offset : Nat)
  | endOfTake (offset : Nat)
  deriving DecidableEq, Repr

/-- What the Composer does once an ended line has been appended (R61, R52, R87, R99). -/
inductive After where
  | readOn
  | retest (t : Trigger)
  | place (c : LineCode)
  | finishTake (offset : Nat)
  deriving DecidableEq, Repr

/-- An item of a TEXT record (TABLE 8-2). -/
structure Item where
  kind : ItemKind
  font : Nat
  lens : Fin 8
  code : Nat
  position : MeasureWord
  tick : Nat
  deriving DecidableEq, Repr

/-- A line set, tested against the stop mask, and formed into its group, with what follows its append (R102). -/
structure EndedLine where
  items : List Item
  fonts : List (Nat × Half)
  conditions : Half
  leadTicks : Nat
  leads : List Lead
  quad : Quad
  natural : MeasureWord
  firstSpace : Int
  hyphenated : Bool
  /-- The codes that pass to the next line (R87). -/
  carried : List LineCode
  /-- The line start after the append: the break offset, or the byte after the end code (R64). -/
  nextStart : Nat
  /-- The composition state at that line start, but for the ladder count (R64). -/
  snapshot : CompState
  after : After
  deriving DecidableEq, Repr

/-- A hyphenation break settled but for the draw of its hyphen (R96). -/
structure HyphenPlan where
  hyphen : Glyph
  breakOffset : Nat
  trigger : Trigger
  deriving DecidableEq, Repr

/-- What a font selection is made for (R103). -/
inductive Purpose where
  /-- A font code. -/
  | code
  /-- The take-up of a starting state. -/
  | takeUp
  /-- The take-up of the state read back from the Context Record. -/
  | restore
  deriving DecidableEq, Repr

/-- A font selection with its width table load in flight (R105, R106). -/
structure Selection where
  font : Nat
  revision : Byte
  strip : Half
  table : Addr
  target : Fin 8
  purpose : Purpose
  deriving DecidableEq, Repr

/-- What the Composer is at. STATUS shows the state of TABLE 6-1 that follows from it and from the controller (R84, R85). -/
inductive Phase where
  | idle
  /-- A ticket is handed over and its composition is to begin; BLOCKED when its CUT record finds no room. -/
  | begin
  | reading
  /-- LOADING. -/
  | loading (sel : Selection)
  /-- The fit test at a trigger is to be made (R86, R87). -/
  | testing (t : Trigger)
  /-- SEARCHING, for the word that ends at the trigger. -/
  | searching (t : Trigger)
  /-- The choice of point is to be made (R95). -/
  | choosing (t : Trigger) (candidates : List Candidate)
  /-- The hyphen of a hyphenation break is to be drawn; BLOCKED when the pool is empty. -/
  | hyphen (p : HyphenPlan)
  /-- A character is to be placed; BLOCKED when the pool is empty. -/
  | placing (c : LineCode)
  /-- A line's group is to be appended; BLOCKED when the ring has too few places. -/
  | group (g : EndedLine)
  /-- The LEAD record of a film code at an empty line is to be appended; BLOCKED when no record is free. -/
  | lead (l : Lead) (nextStart : Nat)
  /-- The Context Record is to be written (R39). -/
  | contextWrite
  /-- The FLASH-OPEN cut is to be appended, if one is needed (R40). -/
  | openCut
  /-- The FLASH-CLOSE cut is to be appended (R41). -/
  | closeCut
  /-- The flash-only scan is to be made (R42). -/
  | flashScan
  /-- The Context Record is to be read back (R43). -/
  | readback
  /-- Valid 0 is to be written; a reason if the take-up of the state read back failed (R43). -/
  | validWrite (failed : Option Reason)
  deriving DecidableEq, Repr

/-- The Composer (section 6.1). -/
structure Composer where
  phase : Phase
  /-- The ticket being composed. -/
  ticket : Option (Fin 8)
  /-- A flash ticket entered and waiting for a load or lookup in flight to complete, or for RESUME (R38). -/
  preempt : Option (Fin 8)
  /-- The routine ticket suspended, or being resumed (R38, R43). -/
  suspended : Option (Fin 8)
  /-- Line start of the suspended ticket, and the state saved with it (R39). -/
  savedOffset : Nat
  saved : CompState
  /-- The resume take offset as read back (R43). -/
  resumeOffset : Nat
  current : CompState
  snapshot : CompState
  /-- The carried state (R50); none after power-on and RESET. -/
  carried : Option CompState
  lineStart : Nat
  readPosition : Nat
  line : Line
  /-- Items drawn from the pool for the line being built (R101, R120). -/
  drawn : Nat
  galleyContent : Bool
  /-- A write of NONE into the resume slot held by a Desk fault (R15, R46). -/
  cancelWriteHeld : Bool
  deriving DecidableEq, Repr

/-- The Hyphenation Unit's copies (R8, R92). -/
structure Hyphenation where
  letters : List Byte
  pairs : List Byte
  dictionary : Addr
  deriving DecidableEq, Repr

/-! ### Font Control (spec 06) -/

/-- The copied contents of a width table (TABLE 7-2). -/
structure WidthTable where
  spaceMin : Nat
  spaceOpt : Nat
  spaceMax : Nat
  hyphenCode : Nat
  widths : List Byte
  deriving DecidableEq, Repr

/-- A FILLED slot of the Width Store (TABLE 7-3). -/
structure FontSlot where
  font : Nat
  revision : Byte
  strip : Half
  table : WidthTable
  stamp : Long
  deriving DecidableEq, Repr

/-- A position of the Mount Table; no strip is UNKNOWN (TABLE 7-4). -/
structure MountPosition where
  strip : Option Half
  stamp : Long
  deriving DecidableEq, Repr

/-- Font Control. The Lens Table is in the Setup copy. -/
structure FontControl where
  store : Vector (Option FontSlot) 8
  compositionCounter : Long
  mount : Vector MountPosition 8
  flashCount : Long
  confirmed : Bool
  deriving DecidableEq, Repr

/-! ### The Line Store (spec 07) -/

/-- Cut classes (R119). -/
inductive CutClass where
  | routine
  | flash
  | flashOpen
  | flashClose
  deriving DecidableEq, Repr

/-- What a record asks for, by its kind (TABLE 8-1). -/
inductive Work where
  | text (leading : Nat) (items : List Item) (fonts : List (Nat × Half))
  | lead (l : Lead)
  | cut (c : CutClass)
  deriving DecidableEq, Repr

/-- A line record (TABLE 8-1). -/
structure Record where
  entry : Fin 8
  lineNumber : Nat
  toFilm : Bool
  toProof : Bool
  withdrawn : Bool
  conditions : Half
  work : Work
  deriving DecidableEq, Repr

/-- An output's cursor (section 8.2): how many records from the head it has passed, and whether it stands at the next one. -/
structure Cursor where
  passed : Nat
  holding : Bool
  deriving DecidableEq, Repr

/-- The Line Store: the ring from head to tail, the free items of the pool, and the two output cursors. -/
structure LineStore where
  records : List Record
  free : Nat
  film : Cursor
  proof : Cursor
  deriving DecidableEq, Repr

/-! ### Exposure (spec 08) and the Film Transport (spec 09) -/

/-- Homing of one channel (R133). -/
inductive Homing where
  | none
  | moving
  | found
  | failed
  deriving DecidableEq, Repr

/-- A Motion Channel (section 9.3): the parameters in use, the direction (true is toward higher ticks, toward the take-up,
or toward higher lens positions), the steps requested, the down-counter and the busy flag. -/
structure MotionChannel where
  rate : Nat
  high : Nat
  low : Nat
  forward : Bool
  steps : Nat
  counter : Nat
  busy : Bool
  homing : Homing
  deriving DecidableEq, Repr

/-- What a need check is made for, with the amount of its forward lead (R152). -/
inductive FilmGoal where
  | text (ticks : Nat)
  | advance (ticks : Nat)
  | spoil (ticks : Nat)
  deriving DecidableEq, Repr

/-- What a forward lead is made for (R150). -/
inductive LeadFor where
  | text
  | advance
  | spoil
  | toMark
  deriving DecidableEq, Repr

/-- What a cut is made for (R156). -/
inductive CutFor where
  | record
  | split (goal : FilmGoal)
  deriving DecidableEq, Repr

/-- A film movement (R148). -/
inductive Movement where
  /-- The leader, then a lead of `next` ticks (R149). -/
  | leader (ticks next : Nat) (lead : LeadFor)
  /-- A forward lead and its new film (R150). -/
  | lead (ticks newFilm : Nat) (lead : LeadFor)
  /-- A backward move to a target (R151). -/
  | back (ticks target : Nat)
  /-- The run-out of a cut (R156). -/
  | runOut (ticks trailer : Nat) (cut : CutFor)
  deriving DecidableEq, Repr

/-- Stages of FLASHING (R137). -/
inductive FlashStage where
  | awaiting
  | delay
  | pulse
  deriving DecidableEq, Repr

/-- What a record goes on to after its mount check passes (R130, R143). -/
inductive MountNext where
  | leading
  | items
  | spoilGap
  deriving DecidableEq, Repr

/-- What the Exposure Sequencer is at. STATUS shows the state of TABLE 9-1 that follows from it and from the controller
(R129, R145). The phases marked "at once" are left in the step that enters them. -/
inductive EsPhase where
  | idle
  /-- The need check is to be made (at once). -/
  | need (g : FilmGoal)
  /-- FILM WAIT, for a cassette. -/
  | needWait (g : FilmGoal)
  /-- The mount check is to be made (at once). -/
  | mount
  /-- MOUNT WAIT, or COVER OPEN while the cover is open. -/
  | mountWait
  /-- A mount wait ended during a halt, to go on at RESUME (R145). -/
  | mountReady
  /-- The galley is to be opened if it is closed, and the lead made (at once). -/
  | openLead (ticks : Nat) (lead : LeadFor)
  /-- A film movement is to be started (at once). -/
  | startMove (m : Movement)
  /-- FILM WAIT, for the take-up. -/
  | takeupWait (m : Movement)
  /-- LEADING, or CUTTING for a run-out. -/
  | moving (m : Movement)
  /-- A film movement is complete (at once). -/
  | moved (m : Movement)
  /-- Step 4 of R130 is to begin (at once). -/
  | items
  /-- The next exposable item is to be positioned, or the record finished (at once). -/
  | nextItem
  /-- POSITIONING. -/
  | positioning
  /-- FLASHING. -/
  | flashing (stage : FlashStage)
  /-- POSITIONING still, the cover having opened: moves in flight run to completion (R143; the state shown meanwhile is log entry 40's
  DESIGN CHOICE). -/
  | coverHold
  /-- DRUM WAIT. -/
  | drumWait
  /-- The knife step of a cut is to be made (at once). -/
  | knifeStep (c : CutFor)
  /-- CUTTING, waiting for KNIFE DONE. -/
  | knife (c : CutFor)
  /-- CUTTING, the knife step held by a knife timeout (R157). -/
  | knifeHeld (c : CutFor)
  /-- The record is to be finished on film (at once). -/
  | finish
  deriving DecidableEq, Repr

/-- The Exposure Sequencer (section 9.1), with the carriage and turret positions it keeps (R132); none is unknown. Its
record is the one at the film cursor. -/
structure Exposure where
  phase : EsPhase
  item : Nat
  /-- Track positions fixed at the mount check, by font (R116). -/
  tracks : List (Nat × Fin 8)
  begun : Bool
  mountNext : MountNext
  /-- The cover has opened since the mount check of the record passed, at a step before step 4 (R143). -/
  coverSeen : Bool
  carriageAt : Option Nat
  turretAt : Option (Fin 8)
  /-- The drum track selected, and whether it is settled (R135). -/
  track : Option (Fin 8)
  settled : Bool
  /-- The lamp-ready timer in microseconds; 0 is ready (R138). -/
  lampTimer : Nat
  /-- The flash delay or flash length running, in microseconds (R137). -/
  flashTimer : Nat
  /-- The drum-wait timer in milliseconds; 0 is stopped (R142). -/
  drumTimer : Nat
  deriving DecidableEq, Repr

/-- The Motion Channels. -/
structure Motion where
  carriage : MotionChannel
  film : MotionChannel
  turret : MotionChannel
  deriving DecidableEq, Repr

/-- Drum states (TABLE 9-2). -/
inductive DrumState where
  | stopped
  | syncing
  | running
  | scanning
  deriving DecidableEq, Repr

/-- The Drum Monitor (section 9.6), with the drum track select output and its band-read qualifier (R135). -/
structure Drum where
  state : DrumState
  markLevel : Bool
  indexLevel : Bool
  markCount : Nat
  intervalCounter : Nat
  /-- The nominal mark interval; none before the first START. -/
  nominal : Option Nat
  /-- Every drum event since the last index has been in step (R141). -/
  qualifying : Bool
  /-- The scan is in its second revolution (R114). -/
  secondRevolution : Bool
  /-- The eight readings of the scan in flight or last made (R114). -/
  readings : Vector Half 8
  trackOut : Fin 8
  bandRead : Bool
  deriving DecidableEq, Repr

/-- The Film Transport (TABLE 10-1), with the KNIFE output and its time allowance in milliseconds (R156, R157). Its request in
hand is the phase of the Exposure Sequencer, or the step of START. TAKE-UP ABSENT follows from the TAKEUP line (R155). -/
structure Film where
  position : Nat
  deepest : Nat
  galleyOpen : Bool
  galleyNumber : Nat
  mark : Option Nat
  supply : Nat
  unknown : Bool
  inserted : Bool
  filmOut : Bool
  knife : Bool
  knifeTimer : Nat
  deriving DecidableEq, Repr

/-! ### The Proof Renderer (spec 10) -/

/-- States of a band buffer (TABLE 11-1). -/
inductive BandState where
  | free
  | opened (k : Nat)
  | ready (k : Nat)
  | printing (k : Nat)
  deriving DecidableEq, Repr

/-- One plane of a band buffer: 16 rows of 1,152 cells, bit c of a row being column c. -/
abbrev Plane := Vector (BitVec 1152) 16

/-- A band buffer (section 11.3). -/
structure Band where
  state : BandState
  ink : Plane
  invert : Plane
  deriving DecidableEq, Repr

/-- One thing to be drawn or moved for a record (R161, R162, R171). -/
inductive DrawOp where
  /-- A baseline rise (R161). -/
  | rise (rows : Nat)
  /-- Solid rows at these distances below the baseline. -/
  | solid (below : List Nat)
  /-- The glyphs and the highlight of the record in hand (R163, R164). -/
  | glyphs
  /-- The rise of a proof cut (R162). -/
  | cutRise
  /-- Separator due clears (R171). -/
  | separatorDone
  deriving DecidableEq, Repr

/-- The record in hand, waiting in WAIT BAND: what is left to draw, and whether a drop during a halt lost it (R170, R172). -/
structure Drawing where
  ops : List DrawOp
  lost : Bool
  deriving DecidableEq, Repr

/-- A band being sent, its advance in rows, and the number of its bytes taken by the printer (R167, R168); the proof mirror it is sent
by, and the printer timer's interval for its bytes, both as Setup gave them when they came into use (R13; log entry 36). -/
structure Sending where
  band : Nat
  advance : Nat
  sent : Nat
  mirror : Bool
  timeout : Nat
  deriving DecidableEq, Repr

/-- The Proof Renderer (TABLE 11-1). PROOF DROPPING stands in its notice set while the dropping flag is set (R170, R171). -/
structure ProofRenderer where
  baseline : Nat
  printerRow : Nat
  bandA : Band
  bandB : Band
  drawing : Option Drawing
  sending : Option Sending
  dropping : Bool
  separatorDue : Bool
  /-- The printer timer in 100 ms steps; 0 is stopped (R168). -/
  timer : Nat
  /-- PRINTER stands in the notice set (R169). -/
  printer : Bool
  /-- The glyph store, empty after power-on (R160). -/
  glyphs : List Byte
  /-- The byte driven onto PD0-7 (R168). -/
  port : Byte
  deriving DecidableEq, Repr

/-! ### Notices (section 2.8) -/

/-- What a notice record shows (TABLE 2-6). -/
inductive Notice where
  | none
  | mount (font : Nat) (strip : Half) (position : Fin 8)
  | coverOpen
  | drum
  | filmOut
  | takeupAbsent
  | printer
  | proofDropping
  deriving DecidableEq, Repr

/-- The writing of one owner's record: what was last written, the write in flight, and whether a Desk fault holds it (R20). -/
structure NoticeWriter where
  written : Option Notice
  inFlight : Option Notice
  held : Bool
  deriving DecidableEq, Repr

/-- The three notice records' writers, and the DRUM and MOUNT conditions of the Exposure Sequencer's set (R117, R142).
COVER OPEN follows from the COVER line (R118, R146). -/
structure Notices where
  photoUnit : NoticeWriter
  film : NoticeWriter
  proof : NoticeWriter
  drum : Bool
  mount : Option (Nat × Half × Fin 8)
  deriving DecidableEq, Repr

/-! ### Input lines -/

/-- The levels of the part's input lines, which belong to the photo-unit and the printer and not to the part: no reset
changes them. `busyLong`: PBUSY has been high for 100 ms without a break (R169). -/
structure Pins where
  coverOpen : Bool
  cassette : Bool
  takeup : Bool
  home : Bool
  turretIndex : Bool
  pbusy : Bool
  busyLong : Bool
  pfault : Bool
  deriving DecidableEq, Repr

/-- The next bus access that will not be acknowledged, while a `busError` runs its step: the bytes still acknowledged before it,
whether a failing write of TAKEN reaches its slot all the same, and the failing accesses after it. None in every state between two steps. The MODEL's own field. -/
structure BusFault where
  acked : Nat
  landed : Bool
  /-- The failing accesses of the step after this one. -/
  later : List (Nat × Bool)
  deriving DecidableEq, Repr

/-! ### The whole machine -/

/-- The TC-610, the host memory it shares, its input lines and the queue of waiting commands. -/
structure State where
  mem : List Host.Cell
  desk : Desk
  scanner : Scanner
  flight : Vector (Option Entry) 8
  resultWrite : Option ResultWrite
  composer : Composer
  hyphenation : Hyphenation
  fonts : FontControl
  store : LineStore
  exposure : Exposure
  motion : Motion
  drum : Drum
  film : Film
  proof : ProofRenderer
  notices : Notices
  pins : Pins
  bus : Option BusFault
  freeCounter : Nat
  pending : List Instr
  deriving DecidableEq, Repr

/-! ### Named updates of one component -/

namespace State

/-- Changes host memory. -/
def modMem (f : List Host.Cell → List Host.Cell) (s : State) : State := { s with mem := f s.mem }
/-- Changes the Desk Interface. -/
def modDesk (f : Desk → Desk) (s : State) : State := { s with desk := f s.desk }
/-- Changes the Ticket Scanner. -/
def modScanner (f : Scanner → Scanner) (s : State) : State := { s with scanner := f s.scanner }
/-- Changes the Flight Table. -/
def modFlight (f : Vector (Option Entry) 8 → Vector (Option Entry) 8) (s : State) : State := { s with flight := f s.flight }
/-- Sets the result write in flight. -/
def setResultWrite (r : Option ResultWrite) (s : State) : State := { s with resultWrite := r }
/-- Changes the Composer. -/
def modComposer (f : Composer → Composer) (s : State) : State := { s with composer := f s.composer }
/-- Changes the Hyphenation Unit. -/
def modHyphenation (f : Hyphenation → Hyphenation) (s : State) : State := { s with hyphenation := f s.hyphenation }
/-- Changes Font Control. -/
def modFonts (f : FontControl → FontControl) (s : State) : State := { s with fonts := f s.fonts }
/-- Changes the Line Store. -/
def modStore (f : LineStore → LineStore) (s : State) : State := { s with store := f s.store }
/-- Changes the Exposure Sequencer. -/
def modExposure (f : Exposure → Exposure) (s : State) : State := { s with exposure := f s.exposure }
/-- Changes the Motion Channels. -/
def modMotion (f : Motion → Motion) (s : State) : State := { s with motion := f s.motion }
/-- Changes the Drum Monitor. -/
def modDrum (f : Drum → Drum) (s : State) : State := { s with drum := f s.drum }
/-- Changes the Film Transport. -/
def modFilm (f : Film → Film) (s : State) : State := { s with film := f s.film }
/-- Changes the Proof Renderer. -/
def modProof (f : ProofRenderer → ProofRenderer) (s : State) : State := { s with proof := f s.proof }
/-- Changes the notices. -/
def modNotices (f : Notices → Notices) (s : State) : State := { s with notices := f s.notices }
/-- Changes the input lines. -/
def modPins (f : Pins → Pins) (s : State) : State := { s with pins := f s.pins }
/-- Arms or disarms the bus. -/
def setBus (b : Option BusFault) (s : State) : State := { s with bus := b }
/-- Takes the next free value. -/
def drawFree (s : State) : State := { s with freeCounter := s.freeCounter + 1 }
/-- Sets the queue of waiting commands. -/
def setPending (q : List Instr) (s : State) : State := { s with pending := q }

end State

/-! ### Initial values -/

/-- Area offsets before any START (R17: no copy in use). -/
def Areas.initial : Areas := ⟨0, 0, 0, 0, 0⟩

/-- A Setup copy before any START (R17: not in use). -/
def Setup.initial : Setup where
  font := 0
  pointSize := 0
  leading := 0
  measure := 0
  indentLeft := 0
  indentRight := 0
  letterspace := 0
  hyphenation := false
  minWord := 0
  minPrefix := 0
  minSuffix := 0
  ladderLimit := 0
  lens := Vector.replicate 8 0
  flashLength := Vector.replicate 8 0
  lampRecharge := 0
  flashDelay := 0
  markInterval := 0
  carriage := ⟨0, 0, 0⟩
  film := ⟨0, 0, 0⟩
  turret := ⟨0, 0, 0⟩
  leader := 0
  trailer := 0
  spoilGap := 0
  cassetteLength := 0
  proofEnable := false
  proofMirror := false
  highlightMask := 0
  proofTimeout := 0
  rescan := 0

/-- The Desk Interface after power-on (R17). -/
def Desk.initial : Desk where
  base := 0
  events := 0
  mask := 0
  page := false
  controller := .stopped
  cause := .none
  result := .none
  busy := none
  startStep := none
  started := false
  areas := Areas.initial
  grants := []
  setupInUse := false
  setup := Setup.initial
  glyphsGiven := false

/-- The Ticket Scanner after power-on (section 3.2). -/
def Scanner.initial : Scanner where
  state := .idle
  nextRoutine := 0
  nextFlash := 0
  pendingFlag := false
  inFlight := false
  held := none
  timer := 0
  timerAtOne := false

/-- A composition state before any ticket. -/
def CompState.initial : CompState where
  font := 0
  pointSize := 0
  lens := 0
  setSize := 0
  leading := 0
  measure := 0
  indentLeft := 0
  indentRight := 0
  tabs := List.replicate 16 none
  letterspace := 0
  hyphenation := false
  ladder := 0

/-- A line at its start (TABLE 5-1). -/
def Line.empty : Line := ⟨[], none, 0⟩

/-- The Composer after power-on and RESET (R50, R66, R84). -/
def Composer.initial : Composer where
  phase := .idle
  ticket := none
  preempt := none
  suspended := none
  savedOffset := 0
  saved := CompState.initial
  resumeOffset := 0
  current := CompState.initial
  snapshot := CompState.initial
  carried := none
  lineStart := 0
  readPosition := 0
  line := Line.empty
  drawn := 0
  galleyContent := false
  cancelWriteHeld := false

/-- Font Control after power-on (R108, R111, R112). -/
def FontControl.initial : FontControl where
  store := Vector.replicate 8 none
  compositionCounter := 0
  mount := Vector.replicate 8 ⟨none, 0⟩
  flashCount := 0
  confirmed := false

/-- The Line Store after power-on and RESET (R128). -/
def LineStore.initial : LineStore where
  records := []
  free := Config.poolItems
  film := ⟨0, false⟩
  proof := ⟨0, false⟩

/-- The Exposure Sequencer after power-on and RESET (R146). -/
def Exposure.initial : Exposure where
  phase := .idle
  item := 0
  tracks := []
  begun := false
  mountNext := .leading
  coverSeen := false
  carriageAt := none
  turretAt := none
  track := none
  settled := false
  lampTimer := 0
  flashTimer := 0
  drumTimer := 0

/-- A Motion Channel that is not busy. -/
def MotionChannel.initial : MotionChannel := ⟨0, 0, 0, false, 0, 0, false, .none⟩

/-- The Motion Channels after power-on. -/
def Motion.initial : Motion := ⟨MotionChannel.initial, MotionChannel.initial, MotionChannel.initial⟩

/-- The Drum Monitor after power-on (R139, R141). -/
def Drum.initial : Drum where
  state := .stopped
  markLevel := false
  indexLevel := false
  markCount := 0
  intervalCounter := 0
  nominal := none
  qualifying := false
  secondRevolution := false
  readings := Vector.replicate 8 0
  trackOut := 0
  bandRead := false

/-- The Film Transport after power-on (TABLE 10-1). -/
def Film.initial : Film where
  position := 0
  deepest := 0
  galleyOpen := false
  galleyNumber := 0
  mark := none
  supply := 0
  unknown := true
  inserted := false
  filmOut := false
  knife := false
  knifeTimer := 0

/-- A plane with every cell clear. -/
def Plane.clear : Plane := Vector.replicate 16 0

/-- A FREE buffer with both planes clear. -/
def Band.initial : Band := ⟨.free, Plane.clear, Plane.clear⟩

/-- The Proof Renderer after power-on (R160). -/
def ProofRenderer.initial : ProofRenderer where
  baseline := 12
  printerRow := 0
  bandA := Band.initial
  bandB := Band.initial
  drawing := none
  sending := none
  dropping := false
  separatorDue := false
  timer := 0
  printer := false
  glyphs := []
  port := 0

/-- A notice writer with nothing written, in flight or held. With nothing written since power-on, every content of the record differs
from what was last written, NONE among them (DESIGN CHOICE, log entry 42). -/
def NoticeWriter.initial : NoticeWriter := ⟨none, none, false⟩

/-- The notices after power-on. -/
def Notices.initial : Notices := ⟨NoticeWriter.initial, NoticeWriter.initial, NoticeWriter.initial, false, none⟩

/-- The input lines as State.reset takes them: cover closed, no cassette, a take-up seated, no home input asserted, printer
idle. DESIGN CHOICE (log entry 4): the lines belong to the photo-unit and the printer. -/
def Pins.initial : Pins where
  coverOpen := false
  cassette := false
  takeup := true
  home := false
  turretIndex := false
  pbusy := false
  busyLong := false
  pfault := false

/-- The machine right after power-on (R17), with no command waiting. -/
def State.reset : State where
  mem := []
  desk := Desk.initial
  scanner := Scanner.initial
  flight := Vector.replicate 8 none
  resultWrite := none
  composer := Composer.initial
  hyphenation := ⟨[], [], 0⟩
  fonts := FontControl.initial
  store := LineStore.initial
  exposure := Exposure.initial
  motion := Motion.initial
  drum := Drum.initial
  film := Film.initial
  proof := ProofRenderer.initial
  notices := Notices.initial
  pins := Pins.initial
  bus := none
  freeCounter := 0
  pending := []

end Sys2Proof.Machine
end

