-- ==== Sys2Proof/Machine/Flags.lean ====
section
/-! DEFINITION. The flag words of the TC-610: conditions (TABLE 12-3), EVENTS (R5), reason, notice and state codes
(TABLES 12-4, 12-7, 12-16), and the interrupt line. -/

namespace Sys2Proof.Machine

/-! ### Conditions (TABLE 12-3) -/

/-- The word with bit `n` alone. -/
def bit (n : Nat) : Half := 1#16 <<< n

namespace Cond
/-- Condition bits of TABLE 12-3. -/
def loose : Half := bit 0
/-- TIGHT. -/
def tight : Half := bit 1
/-- FORCED. -/
def forced : Half := bit 2
/-- VOID. -/
def void : Half := bit 3
/-- OVER. -/
def overRange : Half := bit 4
/-- CLIPPED. -/
def clipped : Half := bit 5
/-- SUBSTITUTED. -/
def substituted : Half := bit 6
/-- CLAMPED. -/
def clamped : Half := bit 7
/-- BAD CODE. -/
def badCode : Half := bit 8
/-- LETTERSPACED. -/
def letterspaced : Half := bit 9
/-- SPOILED. -/
def spoiled : Half := bit 10
/-- REVERSE LIMITED. -/
def reverseLimited : Half := bit 11
/-- GALLEY SPLIT. -/
def galleySplit : Half := bit 12
/-- PROOF LOST. -/
def proofLost : Half := bit 13
/-- The nine maskable conditions (TABLE 3-4). -/
def maskable : Half := 0x01FF#16
/-- The conditions a proof highlight mask can enable (TABLE 12-1, R164). -/
def highlightable : Half := 0x03FF#16
end Cond

/-- A condition if it holds, else nothing. -/
def condIf (c : Half) (b : Bool) : Half := if b then c else 0

/-- The lowest-numbered condition a line raised that the stop mask names (R33); bits of the mask above 8 are ignored (R173). -/
def maskedBit (conditions mask : Half) : Option Nat :=
  (List.range 9).find? fun n => (conditions &&& mask &&& Cond.maskable).getLsbD n

/-! ### EVENTS (R5) -/

namespace Event
/-- Event flags, in the positions of TABLE 12-15. -/
def ticket : BitVec 4 := 1#4
/-- NOTICE. -/
def notice : BitVec 4 := 2#4
/-- HALT. -/
def halt : BitVec 4 := 4#4
/-- COMMAND. -/
def command : BitVec 4 := 8#4
end Event

/-- Sets event flags; a flag that is 1 stays 1 (R5). -/
def State.event (e : BitVec 4) (s : State) : State := s.modDesk fun d => { d with events := d.events ||| e }

/-- The interrupt line: asserted while some flag and its enable are both 1 (R5); the page bit takes no part (R176). -/
def State.interrupt (s : State) : Bool := s.desk.events &&& s.desk.mask != 0

/-! ### Codes -/

/-- Reason codes (TABLE 12-4). -/
def Reason.code : Reason → Byte
  | .stale => 1
  | .kind => 2
  | .destination => 3
  | .length => 4
  | .access => 5
  | .masked => 6
  | .fontUnavailable => 7
  | .busError => 8
  | .takeOverrun => 9

/-- Ticket state bytes of the final states (TABLE 12-2). -/
def Final.code : Final → Byte
  | .set => 3
  | .held => 4
  | .cancelled => 6

/-- The state byte FILED. -/
def filedByte : Byte := 1
/-- The state byte TAKEN. -/
def takenByte : Byte := 2
/-- The state byte REFUSED. -/
def refusedByte : Byte := 5

/-- Quad mode codes (TABLE 12-13). -/
def Quad.code : Quad → Byte
  | .left => 0
  | .center => 1
  | .right => 2
  | .justify => 3

/-- Controller codes (TABLE 12-16). -/
def Controller.code : Controller → Half
  | .stopped => 0
  | .running => 1
  | .halted => 2

/-- Halt cause codes (TABLE 12-16). -/
def HaltCause.code : HaltCause → Half
  | .none => 0
  | .command => 1
  | .setup => 2
  | .deskFault => 3
  | .home => 4
  | .knife => 5
  | .drum => 6

/-- Last-command result codes (TABLE 12-16). -/
def CmdResult.code : CmdResult → Half
  | .none => 0
  | .accepted => 1
  | .refusedBusy => 2
  | .refusedState => 3
  | .refusedSetup => 4
  | .refusedOperand => 5

/-- Scanner codes (TABLE 12-16). -/
def ScanState.code : ScanState → Half
  | .idle => 0
  | .watch => 1
  | .locked => 2

end Sys2Proof.Machine
end

