-- ==== Sys2Proof/Machine/Operands.lean ====
section
/-! DEFINITION. The layouts of spec 11: how the part reads and writes the header, tickets, Font Directory entries, grants,
notices, the Context Record, width tables, log entries and measure words. Every reader takes the record's bytes in ascending
order; a byte past the end reads as 0. -/

namespace Sys2Proof.Machine

/-! ### Fields -/

/-- Byte `i` of a record. -/
def byteAt (r : List Byte) (i : Nat) : Byte := r.getD i 0

/-- The byte at `i` as a number. -/
def natAt (r : List Byte) (i : Nat) : Nat := (byteAt r i).toNat

/-- The 2-byte field at `i`. -/
def halfAt (r : List Byte) (i : Nat) : Half := half (byteAt r i) (byteAt r (i + 1))

/-- The 3-byte field at `i` as a host address. -/
def addrAt (r : List Byte) (i : Nat) : Addr := byteAt r (i + 2) ++ byteAt r (i + 1) ++ byteAt r i

/-- The 4-byte field at `i` as a number. -/
def longAt (r : List Byte) (i : Nat) : Nat := (addrAt r i).toNat + (natAt r (i + 3)) * 16777216

/-- The two bytes of a field, low byte first. -/
def halfBytes (h : Half) : List Byte := [loByte h, hiByte h]

/-- The two bytes of a count that fits 16 bits. -/
def natBytes (n : Nat) : List Byte := halfBytes (BitVec.ofNat 16 n)

/-- The four bytes of a 32-bit field. -/
def longBytes (l : Long) : List Byte :=
  [l.extractLsb' 0 8, l.extractLsb' 8 8, l.extractLsb' 16 8, l.extractLsb' 24 8]

/-- The nearer end of a range for a value outside it (R3). -/
def clamp (lo hi n : Nat) : Nat := max lo (min hi n)

/-! ### The header (TABLE 12-1) -/

/-- The header's size in bytes. -/
def headerSize : Nat := 256

/-- Area offsets in the header. -/
def headerAreas (h : List Byte) : Areas where
  tray := halfAt h 0x02
  fontDirectory := halfAt h 0x04
  grantTable := halfAt h 0x06
  notices := halfAt h 0x08
  context := halfAt h 0x0A

/-- The six areas of TABLE 2-1 as start and size, the header included. -/
def Areas.spans (a : Areas) : List (Nat × Nat) :=
  [(0, headerSize), (a.tray.toNat, 2048), (a.fontDirectory.toNat, 768), (a.grantTable.toNat, 64), (a.notices.toNat, 24),
   (a.context.toNat, 64)]

/-- Two spans share no byte. -/
def disjoint (x y : Nat × Nat) : Bool := decide (x.1 + x.2 ≤ y.1 ∨ y.1 + y.2 ≤ x.1)

/-- No two spans of the list share a byte. -/
def allDisjoint : List (Nat × Nat) → Bool
  | [] => true
  | x :: rest => rest.all (disjoint x) && allDisjoint rest

/-- A Lens Table size in the copy: 0 stays 0, another size is clamped to 10 to 144 (R3). -/
def lensSize (n : Nat) : Nat := if n = 0 then 0 else clamp 10 144 n

/-- The eight sizes of the header's Lens Table, as read. -/
def headerLens (h : List Byte) : List Nat := (List.range 8).map fun k => natAt h (0x30 + k)

/-- The part of R2's layout check that needs the header alone: signature, areas, long pointers, Lens Table. -/
def headerLayoutOk (h : List Byte) : Bool :=
  halfAt h 0 == 0x5A10#16
    && (headerAreas h).spans.all (fun x => decide (x.1 + x.2 ≤ 65536))
    && allDisjoint (headerAreas h).spans
    && [0x10, 0x14, 0x18, 0x1C].all (fun i => byteAt h (i + 3) == 0)
    && (headerLens h).any (· != 0)

/-- Motion parameters at `i`, clamped (TABLE 2-2). -/
def motionAt (h : List Byte) (i : Nat) : MotionSetup :=
  ⟨min 14 (natAt h i), min 63 (natAt h (i + 1)), min 63 (natAt h (i + 2))⟩

/-- A flash length in the copy: that of an empty lens position is not clamped (R3). -/
def flashLengthAt (h : List Byte) (k : Nat) : Nat :=
  let n := (halfAt h (0x38 + 2 * k)).toNat
  if natAt h (0x30 + k) = 0 then n else clamp 10 500 n

/-- The Setup values of a header, each clamped to its range of TABLE 2-2 (R3). -/
def headerSetup (h : List Byte) : Setup where
  font := min 63 (natAt h 0x20)
  pointSize := clamp 10 144 (natAt h 0x21)
  leading := natAt h 0x22
  letterspace := min 15 (natAt h 0x23)
  measure := min Config.maxMeasure (halfAt h 0x24).toNat
  indentLeft := min Config.maxMeasure (halfAt h 0x26).toNat
  indentRight := min Config.maxMeasure (halfAt h 0x28).toNat
  hyphenation := byteAt h 0x2A != 0
  minWord := clamp 3 31 (natAt h 0x2B)
  minPrefix := clamp 1 15 (natAt h 0x2C)
  minSuffix := clamp 1 15 (natAt h 0x2D)
  ladderLimit := min 7 (natAt h 0x2E)
  lens := Vector.ofFn fun k : Fin 8 => lensSize (natAt h (0x30 + k.val))
  flashLength := Vector.ofFn fun k : Fin 8 => flashLengthAt h k.val
  lampRecharge := clamp 100 1000 (halfAt h 0x48).toNat
  flashDelay := natAt h 0x4A
  markInterval := clamp 200 2000 (halfAt h 0x4C).toNat
  carriage := motionAt h 0x4E
  film := motionAt h 0x51
  turret := motionAt h 0x54
  leader := min 4000 (halfAt h 0x58).toNat
  trailer := min 4000 (halfAt h 0x5A).toNat
  spoilGap := min 4000 (halfAt h 0x5C).toNat
  cassetteLength := clamp 1 16000000 (longAt h 0x60)
  proofEnable := byteAt h 0x64 != 0
  proofMirror := byteAt h 0x65 != 0
  highlightMask := halfAt h 0x66 &&& Cond.highlightable
  proofTimeout := natAt h 0x68
  rescan := natAt h 0x69

/-! ### Grants (TABLE 12-6) -/

/-- The greatest length of a grant, and the size of the address space (R18). -/
def addressSpace : Nat := 16777216

/-- Entry `i` of a Grant Table: a length above 16 MiB is taken as 16 MiB, and an entry that would run past the top of the
address space ends there (R18). -/
def grantAt (t : List Byte) (i : Nat) : Grant :=
  let base := (addrAt t (8 * i)).toNat
  { base := base
    length := min (longAt t (8 * i + 4)) (addressSpace - base)
    read := (byteAt t (8 * i + 3)).getLsbD 0
    write := (byteAt t (8 * i + 3)).getLsbD 1 }

/-- The eight entries of a Grant Table. -/
def grantTable (t : List Byte) : List Grant := (List.range 8).map (grantAt t)

/-! ### Tickets (TABLE 12-2) -/

/-- The class of a class byte: FLASH 1, any other value ROUTINE. -/
def classOf (b : Byte) : Class := if b = 1 then .flash else .routine

/-- What the result bytes of a ticket say (TABLE 3-1). -/
structure Results where
  reason : Byte
  masked : Byte
  conditions : Half
  firstLine : Nat
  linesSet : Nat
  hyphenated : Nat
  logWritten : Nat
  stopOffset : Nat
  firstGalley : Nat
  lastGalley : Nat
  depth : Long
  deriving DecidableEq, Repr

/-- The result bytes 0x18 to 0x2F of a ticket, reserved bytes 0 (TABLE 12-2, R173). -/
def Results.bytes (r : Results) : List Byte :=
  [r.reason, r.masked] ++ halfBytes r.conditions ++ natBytes r.firstLine ++ natBytes r.linesSet ++ natBytes r.hyphenated
    ++ natBytes r.logWritten ++ natBytes r.stopOffset ++ natBytes r.firstGalley ++ natBytes r.lastGalley ++ [0, 0]
    ++ longBytes r.depth

/-- The results of a refusal: the reason, the masked condition byte 0xFF, and zero elsewhere (R26, R28, R173). -/
def Results.refusal (reason : Reason) : Results :=
  ⟨reason.code, 0xFF, 0, 0, 0, 0, 0, 0, 0, 0, 0⟩

/-- The results of a flight entry as gathered (TABLE 3-5): a SET ticket has reason NONE, the masked condition byte is 0xFF unless
the reason is MASKED (R173), and the first-condition line of a CUT ticket is 0 (R35). -/
def Entry.results (e : Entry) (f : Final) : Results :=
  let reason := if f = .set then none else e.held
  { reason := (reason.map Reason.code).getD 0
    masked := if reason = some .masked then BitVec.ofNat 8 (e.maskedBit.getD 255) else 0xFF
    conditions := e.conditions
    firstLine := match e.kind with | .cut => 0 | .take => e.firstLine
    linesSet := e.linesSet
    hyphenated := e.hyphenated
    logWritten := e.logWritten
    stopOffset := e.stopOffset
    firstGalley := e.firstGalley
    lastGalley := e.lastGalley
    depth := e.depth }

/-- The final state of an entry that falls due (R34). -/
def Entry.final (e : Entry) : Final :=
  if e.cancelMark then .cancelled else if e.held.isSome then .held else .set

/-- A flight entry as a validated ticket enters it (R29). The bytes are those of the ticket from 0x00. -/
def entryOf (slot : Nat) (cls : Class) (t : List Byte) : Entry where
  slot := slot
  cls := cls
  kind := if byteAt t 1 = 2 then .cut else .take
  toFilm := (byteAt t 3).getLsbD 0
  toProof := (byteAt t 3).getLsbD 1
  stopMask := halfAt t 6
  fresh := (byteAt t 8).getLsbD 0
  takePtr := addrAt t 0x0C
  takeLength := (halfAt t 0x0A).toNat
  logPtr := addrAt t 0x10
  logCapacity := if longAt t 0x10 = 0 then 0 else (halfAt t 0x14).toNat
  finished := false
  outstanding := 0
  conditions := 0
  firstLine := 0
  linesSet := 0
  hyphenated := 0
  logWritten := 0
  logIndex := 0
  firstGalley := 0
  lastGalley := 0
  depth := 0
  held := none
  maskedBit := none
  stopOffset := 0
  cancelMark := false
  lineNumber := 1
  due := false

/-! ### Notices (TABLE 12-7) -/

/-- The kind byte of a notice. -/
def Notice.kind : Notice → Byte
  | .none => 0
  | .mount _ _ _ => 1
  | .coverOpen => 2
  | .drum => 3
  | .filmOut => 4
  | .takeupAbsent => 5
  | .printer => 6
  | .proofDropping => 7

/-- The eight bytes of a notice record: arguments for MOUNT, 0 elsewhere (R173). -/
def Notice.bytes : Notice → List Byte
  | .mount font strip position => [1, BitVec.ofNat 8 font] ++ halfBytes strip ++ [BitVec.ofNat 8 position.val, 0, 0, 0]
  | n => [n.kind, 0, 0, 0, 0, 0, 0, 0]

/-- The place of an owner's record in the notice area. -/
def Owner.offset : Owner → Nat
  | .photoUnit => 0
  | .film => 8
  | .proof => 16

/-! ### The Context Record (TABLE 12-8) -/

/-- The 32 bytes of the 16 tab stop positions; that of an undefined stop is 0. -/
def tabBytes (tabs : List (Option Nat)) : List Byte :=
  (List.range 16).flatMap fun k => natBytes ((tabs.getD k none).getD 0)

/-- The defined flags of the 16 tab stops. -/
def tabFlags (tabs : List (Option Nat)) : Half :=
  (List.range 16).foldl (fun acc k => if (tabs.getD k none).isSome then acc ||| bit k else acc) 0

/-- The resume slot byte: a flight index, or NONE 0xFF. -/
def resumeByte (r : Option (Fin 8)) : Byte := (r.map fun i => BitVec.ofNat 8 i.val).getD 0xFF

/-- The 64 bytes of the Context Record as R39 writes it, Valid 1 first. -/
def contextBytes (resume : Option (Fin 8)) (offset : Nat) (c : CompState) : List Byte :=
  [1, resumeByte resume] ++ natBytes offset
    ++ [BitVec.ofNat 8 c.font, BitVec.ofNat 8 c.pointSize, BitVec.ofNat 8 c.setSize, BitVec.ofNat 8 c.leading]
    ++ natBytes c.measure ++ natBytes c.indentLeft ++ natBytes c.indentRight
    ++ [BitVec.ofNat 8 c.letterspace, if c.hyphenation then 1 else 0, BitVec.ofNat 8 c.ladder, 0]
    ++ halfBytes (tabFlags c.tabs) ++ tabBytes c.tabs ++ List.replicate 12 0

/-- The composition state decoded from a Context Record, before its point size is substituted, and whether a field was clamped
(R174). -/
def contextState (r : List Byte) : CompState × Bool :=
  let font := natAt r 4
  let setSize := natAt r 6
  let measure := (halfAt r 8).toNat
  let measure' := min Config.maxMeasure measure
  let left := (halfAt r 0x0A).toNat
  let right := (halfAt r 0x0C).toNat
  let limit := natAt r 0x0E
  ({ font := min 63 font
     pointSize := natAt r 5
     lens := 0
     setSize := clamp 10 144 setSize
     leading := natAt r 7
     measure := measure'
     indentLeft := min measure' left
     indentRight := min measure' right
     tabs := (List.range 16).map fun k =>
       if (halfAt r 0x12).getLsbD k then some (halfAt r (0x14 + 2 * k)).toNat else none
     letterspace := min 15 limit
     hyphenation := byteAt r 0x0F != 0
     ladder := natAt r 0x10 },
   decide (63 < font) || decide (clamp 10 144 setSize ≠ setSize) || decide (measure' < measure) || decide (measure' < left)
     || decide (measure' < right) || decide (15 < limit))

/-- The resume take offset of a Context Record. -/
def contextOffset (r : List Byte) : Nat := (halfAt r 2).toNat

/-! ### Width tables (TABLE 12-9) -/

/-- The copied contents of a width table. -/
def widthTable (t : List Byte) : WidthTable :=
  ⟨natAt t 0, natAt t 1, natAt t 2, natAt t 3, (List.range 112).map fun c => byteAt t (4 + c)⟩

/-- The check of a width table (R106). -/
def WidthTable.ok (t : WidthTable) : Bool :=
  decide (1 ≤ t.spaceMin) && decide (t.spaceMin ≤ t.spaceOpt) && decide (t.spaceOpt ≤ t.spaceMax) && decide (t.spaceMax ≤ 120)
    && decide (t.hyphenCode ≤ 111) && (t.widths.getD t.hyphenCode 255 != 255)

/-! ### Measure words and the line log (TABLES 12-13, 12-14) -/

/-- The four bytes of a measure word (R175). -/
def MeasureWord.bytes : MeasureWord → List Byte
  | .num x => (longBytes (BitVec.ofInt 32 x)).take 3 ++ [0]
  | .overPlus => [0, 0, 0, 1]
  | .overMinus => [0, 0, 0, 2]
  | .void => [0, 0, 0, 3]

/-- The 16 bytes of a line log entry (TABLE 12-13, R175). -/
def logBytes (lineNumber lineStart : Nat) (g : EndedLine) : List Byte :=
  natBytes lineNumber ++ natBytes lineStart
    ++ [BitVec.ofNat 8 g.items.length, (if g.hyphenated then 1 else 0) ||| (g.quad.code <<< 1)]
    ++ halfBytes (g.conditions &&& Cond.highlightable) ++ g.natural.bytes ++ longBytes (BitVec.ofInt 32 g.firstSpace)

/-! ### Take codes (TABLES 4-2, 12-12) -/

/-- How many operand bytes follow a code. -/
def operandCount (code : Byte) : Nat :=
  match code.toNat with
  | 0x80 | 0x81 | 0x82 | 0x83 | 0x89 | 0x8C => 1
  | 0x84 | 0x85 | 0x86 | 0x87 | 0x8A | 0x8B | 0x8D => 2
  | 0x88 => 3
  | _ => 0

end Sys2Proof.Machine
end

