-- ==== Sys2Proof/Machine/Ops.lean ====
section
/-! DEFINITION. The shared operations: host memory and the bus, grants, faults and command results, scan triggers, notices,
flight entries, results, and the Line Store. -/

namespace Sys2Proof.Machine

/-! ### Host memory

An unlisted address reads as 0 (DESIGN CHOICE, log entry 1). -/

namespace Memory

/-- What an unlisted address reads as. -/
def background : Byte := 0

/-- The byte at an address. -/
def read : List Host.Cell → Nat → Byte
  | [], _ => background
  | (a, b) :: rest, x => if x = a then b else read rest x

/-- Takes an address out of the list. -/
def erase (x : Nat) : List Host.Cell → List Host.Cell
  | [] => []
  | (a, b) :: rest => if a = x then rest else if x < a then (a, b) :: rest else (a, b) :: erase x rest

/-- Puts a cell at its place in the list. -/
def insert (x : Nat) (v : Byte) : List Host.Cell → List Host.Cell
  | [] => [(x, v)]
  | (a, b) :: rest =>
    if x < a then (x, v) :: (a, b) :: rest else if a = x then (x, v) :: rest else (a, b) :: insert x v rest

/-- Writes a byte; writing what an unlisted address reads as takes the entry out. -/
def write (m : List Host.Cell) (x : Nat) (v : Byte) : List Host.Cell :=
  if v = background then erase x m else insert x v m

/-- The addresses of a list rise strictly from above `low`, below the end of the address space, and no entry is the
background value. -/
def wfFrom : Option Nat → List Host.Cell → Bool
  | _, [] => true
  | low, (a, b) :: rest =>
    (match low with
      | none => true
      | some l => decide (l < a)) && decide (a < addressSpace) && b != background && wfFrom (some a) rest

/-- The canonical form of memory: addresses strictly rising, within the 24-bit space, and no entry of the background value. -/
def wf (m : List Host.Cell) : Bool := wfFrom none m

end Memory

/-- The byte of host memory at an address. -/
def State.byte (s : State) (a : Addr) : Byte := Memory.read s.mem a.toNat

/-- The address `n` bytes on. -/
def Addr.plus (a : Addr) (n : Nat) : Addr := a + BitVec.ofNat 24 n

/-- The bytes from `a` on. -/
def State.bytes (s : State) (a : Addr) (n : Nat) : List Byte := (List.range n).map fun i => s.byte (Addr.plus a i)

/-- Stores bytes in ascending order. -/
def State.storeBytes (a : Addr) : List Byte → State → State
  | [], s => s
  | b :: rest, s => State.storeBytes (Addr.plus a 1) rest (s.modMem fun m => Memory.write m a.toNat b)

/-! ### Bus accesses (R19) -/

/-- The bus after a failing access: armed for the next one the step is to meet, if any. -/
def BusFault.next (f : BusFault) : Option BusFault :=
  match f.later with
  | [] => none
  | (acked, landed) :: rest => some ⟨acked, landed, rest⟩

/-- Reads `n` bytes. With the bus armed and fewer bytes left to be acknowledged, the access fails and gives no data. -/
def State.busRead (a : Addr) (n : Nat) (s : State) : Option (List Byte) × State :=
  match s.bus with
  | none => (some (s.bytes a n), s)
  | some f =>
    if n ≤ f.acked then (some (s.bytes a n), s.setBus (some { f with acked := f.acked - n }))
    else (none, s.setBus f.next)

/-- Writes bytes in ascending order. A write cut short has written the bytes acknowledged before the failing one, and no other
(R19). -/
def State.busWrite (a : Addr) (bytes : List Byte) (s : State) : Bool × State :=
  match s.bus with
  | none => (true, s.storeBytes a bytes)
  | some f =>
    if bytes.length ≤ f.acked then (true, (s.storeBytes a bytes).setBus (some { f with acked := f.acked - bytes.length }))
    else (false, (s.storeBytes a (bytes.take f.acked)).setBus f.next)

/-! ### The Desk window and the grants (R1, R18) -/

/-- The host address of a desk offset: DESKBASE over the 16-bit offset (section 2.1). -/
def State.deskAddr (s : State) (offset : Half) : Addr := s.desk.base ++ offset

/-- The host address `n` bytes into an area, by the area offset in use as the access is made (log entry 41). -/
def State.areaAddr (s : State) (area : Half) (n : Nat) : Addr := s.deskAddr (area + BitVec.ofNat 16 n)

/-- The host address of byte `n` of a Tray slot. -/
def State.slotAddr (s : State) (slot n : Nat) : Addr := s.areaAddr s.desk.areas.tray (64 * slot + n)

/-- A range lies wholly inside a span. -/
def inside (start len base size : Nat) : Bool := decide (base ≤ start ∧ start + len ≤ base + size)

/-- The access check of R18 against given grants: wholly inside the Desk window, or wholly inside one entry that carries the
flag. `ptr` is a long pointer as read, so a nonzero top byte puts it past the address space. -/
def rangeAllowed (base : Byte) (grants : List Grant) (write : Bool) (ptr len : Nat) : Bool :=
  decide (ptr + len ≤ addressSpace)
    && (inside ptr len (base.toNat * 65536) 65536
      || grants.any fun g => (if write then g.write else g.read) && decide (g.length ≠ 0) && inside ptr len g.base g.length)

/-- The access check against the part's Grant Table copy (R18). -/
def State.allowed (s : State) (write : Bool) (ptr len : Nat) : Bool := rangeAllowed s.desk.base s.desk.grants write ptr len

/-! ### Command results (R5, R6) -/

/-- A command in progress ends with a result: the field is written, then COMMAND is set (R6). -/
def State.endCommand (r : CmdResult) (s : State) : State :=
  (s.modDesk fun d => { d with result := r, busy := none }).event Event.command

/-- A command is refused at once; the command in progress, if any, goes on (R6). -/
def State.refuse (r : CmdResult) (s : State) : State := (s.modDesk fun d => { d with result := r }).event Event.command

/-! ### Scan triggers (R23) -/

/-- The number of Flight Table entries in use. -/
def State.entriesInUse (s : State) : Nat := (s.flight.toList.filter Option.isSome).length

/-- All eight Flight Table entries are in use. -/
def State.flightFull (s : State) : Bool := s.entriesInUse == 8

/-- The Flight Table is empty. -/
def State.flightEmpty (s : State) : Bool := s.entriesInUse == 0

/-- What keeps a scan from starting: HALTED, LOCKED, a scan in flight, or a full table (R23). -/
def State.scanHindered (s : State) : Bool :=
  s.desk.controller == .halted || s.scanner.state == .locked || s.scanner.inFlight || s.flightFull

/-- A scan trigger: ignored while STOPPED, remembered during a hindrance, and otherwise a scan starts (R23). -/
def State.trigger (s : State) : State :=
  if s.desk.controller = .stopped then s
  else if s.scanHindered then s.modScanner fun c => { c with pendingFlag := true }
  else s.modScanner fun c => { c with inFlight := true }

/-- The test of the pending flag when a hindrance ends (R23). -/
def State.testPending (s : State) : State :=
  if s.scanner.pendingFlag && !s.scanHindered && s.desk.controller != .stopped then
    s.modScanner fun c => { c with pendingFlag := false, inFlight := true }
  else s

/-! ### Faults (R7, R11) -/

/-- A fault: RUNNING goes to HALTED with its cause and HALT is set; HALTED by COMMAND takes the fault's cause and sets HALT
again; HALTED by a fault keeps the first cause (R7). -/
def State.fault (c : HaltCause) (s : State) : State :=
  match s.desk.controller with
  | .running => (s.modDesk fun d => { d with controller := .halted, cause := c }).event Event.halt
  | .halted => if s.desk.cause = .command then (s.modDesk fun d => { d with cause := c }).event Event.halt else s
  | .stopped => s

/-! ### Notices (R20) -/

/-- Proofs are enabled: proof enable is on and the Proof Glyph Table pointer is not 0 (R3). -/
def State.proofsOn (s : State) : Bool := s.desk.setupInUse && s.desk.setup.proofEnable && s.desk.glyphsGiven

/-- The conditions of an owner's set that stand at present, with a MOUNT condition's arguments, the highest-ranked first in the order of
TABLE 2-6 (R20). -/
def State.conditions (s : State) : Owner → List Notice
  | .photoUnit =>
    (if s.pins.coverOpen then [.coverOpen] else []) ++ (if s.notices.drum then [.drum] else [])
      ++ (s.notices.mount.map fun (font, strip, position) => Notice.mount font strip position).toList
  | .film => (if s.film.filmOut then [.filmOut] else []) ++ (if s.pins.takeup then [] else [.takeupAbsent])
  | .proof => (if s.proof.dropping then [.proofDropping] else []) ++ (if s.proof.printer then [.printer] else [])

/-- What an owner's record should show: the highest-ranked condition of its set, or NONE when the set is empty (R20). -/
def State.noticeShown (s : State) (o : Owner) : Notice := (s.conditions o).headD .none

/-- The writer of an owner's record. -/
def Notices.writer (n : Notices) : Owner → NoticeWriter
  | .photoUnit => n.photoUnit
  | .film => n.film
  | .proof => n.proof

/-- Changes the writer of an owner's record. -/
def Notices.modWriter (n : Notices) (o : Owner) (f : NoticeWriter → NoticeWriter) : Notices :=
  match o with
  | .photoUnit => { n with photoUnit := f n.photoUnit }
  | .film => { n with film := f n.film }
  | .proof => { n with proof := f n.proof }

/-- Begins a write of an owner's record with what it should show now. -/
def State.beginNotice (o : Owner) (s : State) : State :=
  s.modNotices fun n => n.modWriter o fun w => { w with inFlight := some (s.noticeShown o), held := false }

/-- An owner's set has changed: with the controller RUNNING or HALTED and no write in flight, the record is written if
what it should show differs from what was last written (R20). From an owner that has written nothing since power-on every content
differs, NONE among them (DESIGN CHOICE, log entry 42). -/
def State.notice (o : Owner) (s : State) : State :=
  if s.desk.controller != .stopped && (s.notices.writer o).inFlight.isNone
      && (s.notices.writer o).written != some (s.noticeShown o) then s.beginNotice o
  else s

/-- The end of an event that began in `before`: where it has made a condition of the owner's set arise or clear, or has changed a MOUNT
condition's arguments, the owner works out its record's content; where it has changed none, nothing is written (R20). Changes that fall
together are looked at as one, by the final set. -/
def State.noticeSince (o : Owner) (s before : State) : State :=
  if s.conditions o = before.conditions o then s else s.notice o

/-! ### Flight entries and results (R30, R31, R34) -/

/-- Changes a flight entry, if the index holds one. -/
def State.modEntry (i : Fin 8) (f : Entry → Entry) (s : State) : State :=
  s.modFlight fun v => v.set i.val (v[i].map f)

/-- A report of conditions for a line or record number (R31). -/
def Entry.report (line : Nat) (c : Half) (e : Entry) : Entry :=
  if c = 0 then e
  else
    { e with
      conditions := e.conditions ||| c
      firstLine := if e.firstLine = 0 then line else min line e.firstLine }

/-- Reports conditions to a flight entry under a line number (R31). -/
def State.report (i : Fin 8) (line : Nat) (c : Half) (s : State) : State := s.modEntry i (Entry.report line c)

/-- A galley entered: the first galley when it is 0, and the last galley each time (R159). -/
def State.enterGalley (i : Fin 8) (galley : Nat) (s : State) : State :=
  s.modEntry i fun e =>
    { e with firstGalley := if e.firstGalley = 0 then galley else e.firstGalley, lastGalley := galley }

/-- New film reported to a ticket: a 32-bit sum that wraps (R159, R173). -/
def State.addDepth (i : Fin 8) (ticks : Nat) (s : State) : State :=
  s.modEntry i fun e => { e with depth := e.depth + BitVec.ofNat 32 ticks }

/-- An entry's composition is finished and it has no outstanding records (R34). -/
def Entry.complete (e : Entry) : Bool := e.finished && e.outstanding == 0

/-- The Composer still has records to append for an entry: a flash ticket's closing cut, whether it has been preempted for or is
finished (R41). The law of completion keeps such an entry in the table (R34). -/
def State.stillAppending (s : State) (i : Fin 8) : Bool := s.composer.ticket == some i || s.composer.preempt == some i

/-- With the controller RUNNING, the complete entries fall due (R34). -/
def State.markDue (s : State) : State :=
  if s.desk.controller = .running then
    s.modFlight fun v => Vector.ofFn fun i : Fin 8 =>
      v[i].map fun e => { e with due := e.due || (e.complete && !s.stillAppending i) }
  else s

/-- The entries that are due. -/
def State.dueEntries (s : State) : List (Fin 8) :=
  (List.finRange 8).filter fun i => ((s.flight[i]).map fun e => e.due).getD false

/-- The due entry whose result is written next: of several due at once, any of them first (R34, FREE VALUE). -/
def State.chosenDue (s : State) : Option (Fin 8) :=
  match s.dueEntries with
  | [] => none
  | [i] => some i
  | due => due[Config.resultOrder s.freeCounter % due.length]?

/-- Begins the result write of one due entry, if none is in flight (R34). -/
def State.beginResult (s : State) : State :=
  match s.resultWrite with
  | some _ => s
  | none =>
    match s.chosenDue with
    | none => s
    | some i =>
      match s.flight[i] with
      | none => s
      | some e => (s.setResultWrite (some ⟨i, e.final, false⟩)).drawFree

/-- Entries that have become complete fall due, and a result write begins (R34). -/
def State.settle (s : State) : State := s.markDue.beginResult

/-- The next-sequence value of a class (R27). -/
def Scanner.next (c : Scanner) : Class → Half
  | .routine => c.nextRoutine
  | .flash => c.nextFlash

/-- Advances the next sequence of a class by one, modulo 65,536 (R27). -/
def Scanner.advance (c : Scanner) : Class → Scanner
  | .routine => { c with nextRoutine := c.nextRoutine + 1 }
  | .flash => { c with nextFlash := c.nextFlash + 1 }

/-- Writes result bytes 0x18 to 0x2F and then the state byte (R34, R173). True when both writes are whole. -/
def State.writeResults (slot : Nat) (r : Results) (final : Byte) (s : State) : Bool × State :=
  let (ok, s) := s.busWrite (s.slotAddr slot 0x18) r.bytes
  if ok then s.busWrite (s.slotAddr slot 0) [final] else (false, s)

/-! ### The Line Store (R120 to R126) -/

/-- Places free in the ring. -/
def LineStore.room (l : LineStore) : Nat := Config.ringPlaces - l.records.length

/-- How many records from the head an output's cursor has reached. -/
def Cursor.reached (c : Cursor) : Nat := c.passed + if c.holding then 1 else 0

/-- The items a record holds. -/
def Record.itemCount (r : Record) : Nat :=
  match r.work with
  | .text _ items _ => items.length
  | _ => 0

/-- Appends a group at the tail; the appending ticket's outstanding count rises by its records (R30, R122). With proofs
disabled the proof cursor passes the records as it comes before them (R124). -/
def State.append (i : Fin 8) (rs : List Record) (s : State) : State :=
  let s := s.modStore fun l => { l with records := l.records ++ rs }
  let s := if s.proofsOn then s else s.modStore fun l => { l with proof := ⟨l.records.length, false⟩ }
  s.modEntry i fun e => { e with outstanding := e.outstanding + rs.length }

/-- Releases head records passed by both cursors: places and items come free, and outstanding counts fall (R125). -/
def State.releaseHead : Nat → State → State
  | 0, s => s
  | n + 1, s =>
    match s.store.records with
    | [] => s
    | r :: rest =>
      if 0 < s.store.film.passed ∧ 0 < s.store.proof.passed then
        State.releaseHead n
          ((s.modStore fun l =>
              { l with
                records := rest
                free := l.free + r.itemCount
                film := { l.film with passed := l.film.passed - 1 }
                proof := { l.proof with passed := l.proof.passed - 1 } }).modEntry r.entry
            fun e => { e with outstanding := e.outstanding - 1 })
      else s

/-- Releases every head record that both cursors have passed, and lets entries fall due (R125). -/
def State.release (s : State) : State := (s.releaseHead s.store.records.length).settle

/-- The record the film cursor stands at or before. -/
def State.filmRecord (s : State) : Option Record := s.store.records[s.store.film.passed]?

/-- The record the proof cursor stands at or before. -/
def State.proofRecord (s : State) : Option Record := s.store.records[s.store.proof.passed]?

/-- The film cursor moves past the record it stands at or before, where there is one (R123, R124). -/
def State.passFilm (s : State) : State :=
  match s.filmRecord with
  | none => s
  | some _ => (s.modStore fun l => { l with film := ⟨l.film.passed + 1, false⟩ }).release

/-- The proof cursor moves past the record it stands at or before, where there is one (R123, R124). -/
def State.passProof (s : State) : State :=
  match s.proofRecord with
  | none => s
  | some _ => (s.modStore fun l => { l with proof := ⟨l.proof.passed + 1, false⟩ }).release

/-- A record a cancel withdraws: any but the closing cut of a flash ticket, which a cancel leaves (R41, R126; log entry 34). -/
def Record.withdrawable (r : Record) : Bool := r.work != .cut .flashClose

/-- A CUT record with FILM that has not been withdrawn yet. -/
def Record.cutsGalley (r : Record) : Bool :=
  !r.withdrawn && r.toFilm && (match r.work with | .cut _ => true | _ => false)

/-- Sets the withdrawn flag of the records of an entry from a place in the ring on, and says whether a CUT with FILM was withdrawn
by it. -/
def withdrawFrom (i : Fin 8) : Nat → List Record → List Record × Bool
  | _, [] => ([], false)
  | k + 1, r :: rest =>
    let (rest', cut) := withdrawFrom i k rest
    (r :: rest', cut)
  | 0, r :: rest =>
    let (rest', cut) := withdrawFrom i 0 rest
    if r.entry = i ∧ r.withdrawable = true then ({ r with withdrawn := true } :: rest', cut || r.cutsGalley)
    else (r :: rest', cut)

/-- Withdraws the records of an entry that neither cursor has reached, but for a closing cut (R41, R126; log entry 34). A CUT record with
FILM that is withdrawn leaves the galley uncut, so the galley-content flag is set (R37). -/
def State.withdraw (i : Fin 8) (s : State) : State :=
  let reached := max s.store.film.reached s.store.proof.reached
  let (rs, cut) := withdrawFrom i reached s.store.records
  let s := s.modStore fun l => { l with records := rs }
  if cut then s.modComposer fun c => { c with galleyContent := true } else s

end Sys2Proof.Machine
end

