-- ==== Sys2Proof/Machine/Measure.lean ====
section
/-! DEFINITION. The Measure Unit (spec 04): widths, measure words, the figures of the line being built, and the setting of an
ending line. -/

namespace Sys2Proof.Machine

/-! ### Widths and measure words -/

/-- The width in fine of `u` units at a set size of `s` half-points: u × s × 8 ÷ 3, rounded to the nearest fine (R67). -/
def widthOf (u s : Nat) : Nat := (u * s * 8 + 1) / 3

namespace MeasureWord

/-- A sum of two NUM values: OVER+ or OVER− outside the range of NUM (R69). -/
def ofSum (x : Int) : MeasureWord :=
  if 524287 < x then .overPlus else if x < -524288 then .overMinus else .num x

/-- The addition of measure words (R69). -/
def add : MeasureWord → MeasureWord → MeasureWord
  | .void, _ => .void
  | _, .void => .void
  | .overPlus, .overMinus => .void
  | .overMinus, .overPlus => .void
  | .overPlus, _ => .overPlus
  | _, .overPlus => .overPlus
  | .overMinus, _ => .overMinus
  | _, .overMinus => .overMinus
  | .num x, .num y => ofSum (x + y)

/-- The negation of a measure word (R69). -/
def neg : MeasureWord → MeasureWord
  | .num x => ofSum (-x)
  | .overPlus => .overMinus
  | .overMinus => .overPlus
  | .void => .void

/-- The measure word of an unsigned tick amount (R68). -/
def ofTicks (a : Nat) : MeasureWord := if a ≤ 32767 then .num (16 * a) else .overPlus

/-- The measure word of move by's signed operand (R68). -/
def ofSignedTicks (a : Half) : MeasureWord := .num (16 * a.toInt)

/-- A width as a measure word (R68). -/
def ofWidth (w : Nat) : MeasureWord := .num w

end MeasureWord

/-- An item is exposable when its final position is NUM from 0 to 288,007 fine (R81). -/
def MeasureWord.exposable : MeasureWord → Bool
  | .num x => decide (0 ≤ x ∧ x ≤ 288007)
  | _ => false

/-- The carriage tick of an exposable position, and 0 for any other (R81, R82). -/
def MeasureWord.tick (w : MeasureWord) : Nat :=
  match w with
  | .num x => if w.exposable then ((x + 8) / 16).toNat else 0
  | _ => 0

/-- The condition an item's final position raises (R81). -/
def MeasureWord.condition (w : MeasureWord) : Half :=
  match w with
  | .num _ => condIf Cond.clipped (!w.exposable)
  | .overPlus | .overMinus => Cond.overRange
  | .void => Cond.void

/-- An item of a record is exposable. -/
def Item.exposable (i : Item) : Bool := i.position.exposable

/-- Proof rows of a tick amount (R83). -/
def rowsOf (ticks : Nat) : Nat := (ticks + 8) / 16

/-! ### Elements -/

/-- Characters, hyphens and fixed spaces are width-bearing (section 5.1). -/
def Element.widthBearing : Element → Bool
  | .glyph _ | .fixed _ => true
  | _ => false

/-- A character or hyphen. -/
def Element.isGlyph : Element → Bool
  | .glyph _ => true
  | _ => false

/-- A justifying space. -/
def Element.isSpace : Element → Bool
  | .space _ _ _ => true
  | _ => false

/-- A tab or a move. -/
def Element.isPlacing : Element → Bool
  | .place _ | .shift _ => true
  | _ => false

/-- The glyphs among elements: the line's items, in place order. -/
def glyphsOf (es : List Element) : List Glyph :=
  es.filterMap fun e => match e with | .glyph g => some g | _ => none

/-- The tabular flag: a tab or move is in the line (R70). -/
def tabular (es : List Element) : Bool := es.any Element.isPlacing

/-- The first element that is no justifying space is width-bearing. -/
def wordFollows : List Element → Bool
  | [] => false
  | e :: rest => if e.isSpace then wordFollows rest else e.widthBearing

/-- Each element with whether it is a justifying space that counts: one with a width-bearing element before it and after it, and
nothing between but other justifying spaces (R71). `before` says a width-bearing element stands before. -/
def markCounting (before : Bool) : List Element → List (Element × Bool)
  | [] => []
  | e :: rest =>
    if e.isSpace then (e, before && wordFollows rest) :: markCounting before rest
    else (e, false) :: markCounting e.widthBearing rest

/-- The width an element adds to a natural width, its counting spaces taken at `space` (R71). -/
def naturalWidth (space : Nat → Nat → Nat → Nat) : Element × Bool → Nat
  | (.glyph g, _) => g.width
  | (.fixed w, _) => w
  | (.space mn op mx, true) => space mn op mx
  | _ => 0

/-- W_min as an exact number of fine: width-bearing elements and counting spaces at min (R71). -/
def exactMin (es : List Element) : Nat :=
  ((markCounting false es).map (naturalWidth fun mn _ _ => mn)).sum

/-- W_opt as an exact number of fine: width-bearing elements and counting spaces at opt (R71). -/
def exactOpt (es : List Element) : Nat :=
  ((markCounting false es).map (naturalWidth fun _ op _ => op)).sum

/-- W_min as a measure word (R71): a sum of widths by R69. -/
def minWidth (es : List Element) : MeasureWord := MeasureWord.ofSum (exactMin es)

/-- W_opt as a measure word (R71). -/
def optWidth (es : List Element) : MeasureWord := MeasureWord.ofSum (exactOpt es)

/-- The counting spaces' widths, in order. -/
def countingSpaces (es : List Element) : List (Nat × Nat × Nat) :=
  (markCounting false es).filterMap fun p =>
    match p with
    | (.space mn op mx, true) => some (mn, op, mx)
    | _ => none

/-- The set sizes of the characters to the left of each letter gap, in order (R71). -/
def gapSizes : List Element → List Nat
  | .glyph a :: .glyph b :: rest => a.setSize :: gapSizes (.glyph b :: rest)
  | _ :: rest => gapSizes rest
  | [] => []

/-- The smallest gap limit among the line's letter gaps (R71). -/
def smallestLimit (ls : Nat) : List Nat → Nat
  | [] => 0
  | [s] => widthOf ls s
  | s :: rest => min (widthOf ls s) (smallestLimit ls rest)

/-- The fit test: W_min is NUM and W_min ≤ E (R71). -/
def fits (es : List Element) (effective : Int) : Bool :=
  match minWidth es with
  | .num w => decide (w ≤ effective)
  | _ => false

/-- What an element does to the running position (R70). -/
def advance (pos : MeasureWord) : Element → MeasureWord
  | .glyph g => pos.add (.ofWidth g.width)
  | .fixed w => pos.add (.ofWidth w)
  | .space _ op _ => pos.add (.ofWidth op)
  | .place w => w
  | .shift w => pos.add w

/-- The running position after elements, from NUM 0 (R70). -/
def runningPosition (es : List Element) : MeasureWord := es.foldl advance (.num 0)

/-! ### Settings (R48, R72) -/

/-- The effective measure for given settings before R72's test. -/
def rawEffective (c : CompState) : Int := ((c.measure : Int) - c.indentLeft - c.indentRight) * 16

/-- The line settings formed from the settings in effect, and whether R72 raises CLAMPED: an E below one em takes both indents
as 0 for this line. -/
def formSettings (c : CompState) : Settings × Bool :=
  let short := decide (rawEffective c < 160 * (c.setSize : Int))
  ({ leading := c.leading
     measure := c.measure
     indentLeft := c.indentLeft
     indentRight := c.indentRight
     letterspace := c.letterspace
     setSize := c.setSize
     effective := if short then (c.measure : Int) * 16 else rawEffective c
     origin := if short then 0 else (c.indentLeft : Int) * 16 },
   short)

/-! ### Setting a line (R73 to R82) -/

/-- `n` amounts summing to `total`, each floor(total ÷ n), with 1 more for the first r on an odd line number and the last r on an
even one (R74, R75). -/
def spread (total : Int) (n : Nat) (lineNumber : Nat) : List Int :=
  let q := total.fdiv n
  let r := (total - q * n).toNat
  if lineNumber % 2 = 1 then List.replicate r (q + 1) ++ List.replicate (n - r) q
  else List.replicate (n - r) q ++ List.replicate r (q + 1)

/-- A line as set: the width of each counting space, the addition of each letter gap, the offset, the quad mode used, and the
conditions LOOSE, TIGHT and LETTERSPACED. -/
structure Setting where
  spaces : List Int
  gaps : List Int
  offset : Int
  quad : Quad
  conditions : Half
  deriving DecidableEq, Repr

/-- The plain distribution of R74: each space its opt width plus its share of the slack; TIGHT below its min, LOOSE above its
max. The caller says which quad mode is used. -/
def distribute (spaces : List (Nat × Nat × Nat)) (slack : Int) (lineNumber : Nat) (gaps : Nat) (quad : Quad) : Setting :=
  let widths := (spaces.zip (spread slack spaces.length lineNumber)).map fun p => (p.1.2.1 : Int) + p.2
  let pairs := spaces.zip widths
  { spaces := widths
    gaps := List.replicate gaps 0
    offset := 0
    quad := quad
    conditions := condIf Cond.tight (pairs.any fun p => decide (p.2 < (p.1.1 : Int)))
      ||| condIf Cond.loose (pairs.any fun p => decide ((p.1.2.2 : Int) < p.2)) }

/-- The letterspace slack of R75: the slack left when every counting space stands at its max. -/
def letterSlack (spaces : List (Nat × Nat × Nat)) (slack : Int) : Int :=
  slack - (spaces.map fun p => (p.2.2 : Int) - p.2.1).sum

/-- Loose handling applies: opt plus q of some counting space exceeds its max (R75). -/
def looseApplies (spaces : List (Nat × Nat × Nat)) (slack : Int) : Bool :=
  spaces.any fun p => decide ((p.2.2 : Int) < p.2.1 + slack.fdiv spaces.length)

/-- Slack can go between the letters: LS > 0, g ≥ 1 and 0 < slack ≤ g × the smallest gap limit (R75, R76). -/
def canLetterspace (ls : Nat) (gaps : List Nat) (slack : Int) : Bool :=
  decide (0 < ls) && decide (1 ≤ gaps.length) && decide (0 < slack)
    && decide (slack ≤ (gaps.length : Int) * smallestLimit ls gaps)

/-- The setting of an ending line by the first case of R73 that holds. -/
def settingOf (es : List Element) (st : Settings) (mode : Quad) (lineNumber : Nat) : Setting :=
  let spaces := countingSpaces es
  let gaps := gapSizes es
  let g := gaps.length
  let slack := st.effective - exactOpt es
  let atOpt := spaces.map fun p => (p.2.1 : Int)
  let none := List.replicate g (0 : Int)
  if (glyphsOf es).isEmpty then ⟨atOpt, none, 0, mode, 0⟩
  else if tabular es then ⟨atOpt, none, 0, .left, 0⟩
  else if !fits es st.effective then ⟨spaces.map fun p => (p.1 : Int), none, 0, .left, 0⟩
  else
    match mode with
    | .justify =>
      if spaces.length = 0 then
        if slack = 0 then ⟨[], none, 0, .justify, 0⟩
        else if canLetterspace st.letterspace gaps slack then
          ⟨[], spread slack g lineNumber, 0, .justify, Cond.letterspaced⟩
        else ⟨[], none, 0, .left, Cond.loose⟩
      else if looseApplies spaces slack && canLetterspace st.letterspace gaps (letterSlack spaces slack) then
        ⟨spaces.map fun p => (p.2.2 : Int), spread (letterSlack spaces slack) g lineNumber, 0, .justify, Cond.letterspaced⟩
      else distribute spaces slack lineNumber g .justify
    | quad =>
      if slack < 0 then distribute spaces slack lineNumber g quad
      else
        ⟨atOpt, none, (match quad with | .right => slack | .center => slack.fdiv 2 | _ => 0), quad, 0⟩

/-- Relative positions of the glyphs of a line that is not tabular (R80): widths, gap additions and justified spaces in turn. -/
def placeSet : List (Element × Bool) → List Int → List Int → MeasureWord → List MeasureWord
  | [], _, _, _ => []
  | (.glyph g, _) :: rest, spaces, gaps, pos =>
    let next := pos.add (.ofWidth g.width)
    match rest, gaps with
    | (.glyph _, _) :: _, a :: gaps' => pos :: placeSet rest spaces gaps' (next.add (.ofSum a))
    | _, _ => pos :: placeSet rest spaces gaps next
  | (.fixed w, _) :: rest, spaces, gaps, pos => placeSet rest spaces gaps (pos.add (.ofWidth w))
  | (.space _ _ _, true) :: rest, w :: spaces, gaps, pos => placeSet rest spaces gaps (pos.add (.ofSum w))
  | _ :: rest, spaces, gaps, pos => placeSet rest spaces gaps pos

/-- Relative positions of the glyphs of a tabular line, as R70 recorded them (R79). -/
def placeTabular : List Element → MeasureWord → List MeasureWord
  | [], _ => []
  | .glyph g :: rest, pos => pos :: placeTabular rest (pos.add (.ofWidth g.width))
  | e :: rest, pos => placeTabular rest (advance pos e)

/-- The final positions of a line's items: origin + offset + relative position, by R69 (R80). -/
def finalPositions (es : List Element) (st : Settings) (set : Setting) : List MeasureWord :=
  let relative :=
    if tabular es then placeTabular es (.num 0) else placeSet (markCounting false es) set.spaces set.gaps (.num 0)
  relative.map fun p => (MeasureWord.ofSum (st.origin + set.offset)).add p

/-- The items of a record: each glyph with its final position and tick (R80 to R82). -/
def itemsOf (gs : List Glyph) (ps : List MeasureWord) : List Item :=
  (gs.zip ps).map fun p => ⟨p.1.kind, p.1.font, p.1.lens, p.1.code, p.2, p.2.tick⟩

/-- What the Measure Unit returns for an ending line (R73). -/
structure SetLine where
  items : List Item
  quad : Quad
  conditions : Half
  natural : MeasureWord
  firstSpace : Int
  deriving DecidableEq, Repr

/-- The setting of an ending line: items, quad mode used, conditions, natural width, and the width of the first counting
space (R73). -/
def setLine (es : List Element) (st : Settings) (mode : Quad) (lineNumber : Nat) : SetLine :=
  let set := settingOf es st mode lineNumber
  let items := itemsOf (glyphsOf es) (finalPositions es st set)
  { items := items
    quad := set.quad
    conditions := items.foldl (fun c i => c ||| i.position.condition) set.conditions
    natural := if tabular es then runningPosition es else optWidth es
    firstSpace := set.spaces.headD 0 }

end Sys2Proof.Machine
end

