-- ==== Sys2Proof/Machine/Tray.lean ====
section
/-! DEFINITION. The Ticket Scanner (spec 02, sections 3.1 and 3.2): the scan of the Tray, stale refusals, the take, validation
and the entry in the Flight Table, and the operations a Desk fault holds. -/

namespace Sys2Proof.Machine

/-- How a scan, or a take, ends. -/
inductive ScanEnd where
  /-- No ticket was taken. -/
  | nothing
  /-- A Tray access failed; the access is held (R25). -/
  | fault
  /-- A ticket was taken and entered in the Flight Table. -/
  | entered
  /-- A ticket was taken and refused at validation. -/
  | refused
  deriving DecidableEq, Repr

/-- A Tray access has failed: a Desk fault, and the access is held (R19, R25 to R28). -/
def State.holdTray (h : HeldTray) (s : State) : State :=
  (s.modScanner fun c => { c with held := some h }).fault .deskFault

/-- Some flight entry holds the slot (R25). -/
def State.slotInFlight (s : State) (slot : Nat) : Bool :=
  s.flight.toList.any fun o => (o.map fun e => e.slot == slot).getD false

/-- The result fields of a refusal and then the state byte REFUSED are written, and TICKET is set (R26, R28). True when the
writes are whole. -/
def State.writeRefusal (slot : Nat) (r : Reason) (s : State) : Bool × State :=
  let (ok, s) := s.writeResults slot (Results.refusal r) refusedByte
  if ok then (true, s.event Event.ticket) else (false, s.holdTray (.refusal slot r))

/-- The write of TAKEN in a locked sequence. One that is not acknowledged may have reached the slot all the same (R26, R27): the operand
`landed` of the bus error says whether it did. -/
def State.writeTaken (slot : Nat) (s : State) : Bool × State :=
  let (ok, t) := s.busWrite (s.slotAddr slot 0) [takenByte]
  (ok, if !ok && s.bus.any BusFault.landed then t.storeBytes (s.slotAddr slot 0) [takenByte] else t)

/-- A stale ticket is refused through a locked read-compare-write of its state byte. Made again, the sequence counts TAKEN as
its own write (R26). False when an access failed. -/
def State.refuseStale (slot : Nat) (again : Bool) (s : State) : Bool × State :=
  let (r, s) := s.busRead (s.slotAddr slot 0) 1
  match r with
  | none => (false, s.holdTray (.staleLock slot))
  | some b =>
    let state := byteAt b 0
    if state = filedByte ∨ (again = true ∧ state = takenByte) then
      let (ok, s) := s.writeTaken slot
      if ok then s.writeRefusal slot .stale else (false, s.holdTray (.staleLock slot))
    else (true, s)

/-- The first validation test that fails (R28). `t` is the ticket's bytes from 0x00. -/
def State.validate (s : State) (t : List Byte) : Option Reason :=
  let take := byteAt t 1 == 1
  let length := (halfAt t 0x0A).toNat
  let capacity := (halfAt t 0x14).toNat
  if byteAt t 1 ≠ 1 ∧ byteAt t 1 ≠ 2 then some .kind
  else if byteAt t 3 &&& 3 = 0 then some .destination
  else if take && length == 0 then some .length
  else if take && !s.allowed false (longAt t 0x0C) length then some .access
  else if take && longAt t 0x10 != 0 && capacity != 0 && !s.allowed true (longAt t 0x10) (capacity * 16) then some .access
  else none

/-- The lowest-numbered free Flight Table entry (R29). -/
def State.freeEntry (s : State) : Option (Fin 8) := (List.finRange 8).find? fun i => (s.flight[i]).isNone

/-- A validated ticket is entered and handed over: a routine ticket to the Composer at once, a flash ticket for preemption, or,
in the flash-only scan, as the next flash of the chain (R22, R29, R42). -/
def State.enterTicket (slot : Nat) (cls : Class) (t : List Byte) (s : State) : State :=
  match s.freeEntry with
  | none => s
  | some i =>
    let chain := s.composer.phase == .flashScan
    let s := s.modFlight fun v => v.set i.val (some (entryOf slot cls t))
    match cls with
    | .routine =>
      (s.modScanner fun c => { c with state := .watch }).modComposer fun c => { c with ticket := some i, phase := .begin }
    | .flash =>
      (s.modScanner fun c => { c with state := .locked }).modComposer fun c =>
        if chain then { c with ticket := some i, phase := .begin } else { c with preempt := some i }

/-- The host fields of a taken ticket are read once and validated; it is entered, or refused with a scan trigger (R28, R29). -/
def State.validateTaken (slot : Nat) (cls : Class) (s : State) : ScanEnd × State :=
  let (r, s) := s.busRead (s.slotAddr slot 0) 0x18
  match r with
  | none => (.fault, s.holdTray (.body slot cls))
  | some t =>
    match s.validate t with
    | none => (.entered, s.enterTicket slot cls t)
    | some reason =>
      let (ok, s) := s.writeRefusal slot reason
      if ok then (.refused, s.trigger) else (.fault, s)

/-- The take: one locked sequence that reads state, class and sequence again and writes TAKEN if they are as matched. Made again,
it counts TAKEN as its own write (R27). -/
def State.takeTicket (slot : Nat) (cls : Class) (seq : Half) (again : Bool) (s : State) : ScanEnd × State :=
  let (r, s) := s.busRead (s.slotAddr slot 0) 6
  match r with
  | none => (.fault, s.holdTray (.take slot cls seq))
  | some b =>
    let state := byteAt b 0
    if (state = filedByte ∨ (again = true ∧ state = takenByte)) ∧ classOf (byteAt b 2) = cls ∧ halfAt b 4 = seq then
      let (ok, s) := s.writeTaken slot
      if ok then (s.modScanner fun c => c.advance cls).validateTaken slot cls
      else (.fault, s.holdTray (.take slot cls seq))
    else (.nothing, s)

/-- The scan from a slot on, with the routine match remembered so far; `routine` says the scan looks for routine tickets (R25). -/
def State.scanSlots (routine : Bool) : List Nat → Option (Nat × Half) → State → ScanEnd × State
  | [], none, s => (.nothing, s)
  | [], some (slot, seq), s =>
    if s.desk.controller = .halted then (.nothing, s) else s.takeTicket slot .routine seq false
  | slot :: rest, remembered, s =>
    if s.slotInFlight slot then State.scanSlots routine rest remembered s
    else
      match s.busRead (s.slotAddr slot 0) 6 with
      | (none, s) => (.fault, s.holdTray .read)
      | (some b, s) =>
        if byteAt b 0 ≠ filedByte then State.scanSlots routine rest remembered s
        else
          let cls := classOf (byteAt b 2)
          let seq := halfAt b 4
          let behind := (s.scanner.next cls - seq).toNat
          if behind = 0 then
            match cls with
            | .flash =>
              if s.desk.controller = .halted then State.scanSlots routine rest remembered s
              else
                match s.takeTicket slot .flash seq false with
                | (.nothing, s) => State.scanSlots routine rest remembered s
                | ended => ended
            | .routine =>
              State.scanSlots routine rest
                (if routine && remembered.isNone && s.desk.controller != .halted then some (slot, seq) else remembered) s
          else if behind ≤ 32767 then
            match s.refuseStale slot false with
            | (true, s) => State.scanSlots routine rest remembered s
            | (false, s) => (.fault, s)
          else State.scanSlots routine rest remembered s

/-- A whole scan, from slot 0 to slot 31 (R25). In IDLE it looks for both classes; in WATCH, and in the flash-only scan, for flash
tickets alone. The state asked is the scanner's when SCAN makes the reads, and not its state at the trigger (DESIGN CHOICE, log entry
37). -/
def State.scanTray (flashOnly : Bool) (s : State) : ScanEnd × State :=
  s.scanSlots (!flashOnly && s.scanner.state == .idle) (List.range 32) none

/-- SEQUENCE loads both next-sequence values, gives a trigger in RUNNING, and ends (R14). -/
def State.finishSequence (routine flash : Half) (s : State) : State :=
  let s := s.modScanner fun c => { c with nextRoutine := routine, nextFlash := flash }
  let s := if s.desk.controller = .running then s.trigger else s
  s.endCommand .accepted

/-- A SEQUENCE waiting for a scan goes on (R14). -/
def State.sequenceGoesOn (s : State) : State :=
  match s.desk.busy with
  | some (.sequence r f) => s.finishSequence r f
  | _ => s

/-- A rescan timer held at 1 until the scan in flight ended expires (R24). -/
def State.expireHeldTimer (s : State) : State :=
  if s.scanner.timerAtOne then
    s.modScanner fun c => { c with timerAtOne := false, timer := s.desk.setup.rescan, pendingFlag := true }
  else s

/-- A scan ends: a rescan timer held at 1 expires, the pending flag is tested, and a waiting SEQUENCE goes on (R14, R23, R24). -/
def State.endScan (s : State) : State :=
  (s.modScanner fun c => { c with inFlight := false }).expireHeldTimer.testPending.sequenceGoesOn

/-- What follows a scan or a take made again: the scan ends, unless it goes on or is the flash-only scan (R25, R42). -/
def State.afterTake : ScanEnd → State → State
  | .fault, s => s.sequenceGoesOn
  | .nothing, s => s
  | .entered, s => if s.scanner.inFlight then s.endScan else s.expireHeldTimer
  | .refused, s =>
    if s.composer.phase = .flashScan then s.expireHeldTimer.modComposer fun c => { c with phase := .readback } else s.endScan

/-- The scan in flight is made, if no Desk fault holds it, and ends (R25). -/
def State.runScan (s : State) : State :=
  if s.scanner.inFlight && s.scanner.held.isNone then
    match s.scanTray false with
    | (.fault, s) => s.sequenceGoesOn
    | (_, s) => s.endScan
  else s

/-- At RESUME the Tray operation a Desk fault held is made again; the scan itself is then made again from slot 0 (R25 to R28). A take made
again after SEQUENCE has loaded other next-sequence values is still made with the class and sequence the scan matched, and advances the
value that SEQUENCE loaded (R14, R27; DESIGN CHOICE, log entry 43). -/
def State.retryTray (s : State) : State :=
  let s' := s.modScanner fun c => { c with held := none }
  match s.scanner.held with
  | none => s
  | some .read => s'
  | some (.staleLock slot) => (s'.refuseStale slot true).2
  | some (.take slot cls seq) => let (e, t) := s'.takeTicket slot cls seq true; t.afterTake e
  | some (.body slot cls) => let (e, t) := s'.validateTaken slot cls; t.afterTake e
  | some (.refusal slot .stale) => (s'.writeRefusal slot .stale).2
  | some (.refusal slot r) =>
    match s'.writeRefusal slot r with
    | (true, t) => t.trigger.afterTake .refused
    | (false, t) => t

end Sys2Proof.Machine
end

