-- ==== Sys2Proof/Machine/FontControl.lean ====
section
/-! DEFINITION. Font Control (spec 06): size substitution, the Font Directory, the Width Store and its loads, the Mount Table and
the mount check. -/

namespace Sys2Proof.Machine

/-! ### Lenses (R110) -/

/-- The distance between two sizes. -/
def sizeGap (a b : Nat) : Nat := if a ≤ b then b - a else a - b

/-- A lens position is nearer a size than another, the smaller size taken when two are equally near, and the lower position when
both hold one size (R110). -/
def nearer (p : Nat) (lens : Vector Nat 8) (i j : Fin 8) : Bool :=
  decide (sizeGap p lens[i] < sizeGap p lens[j])
    || (decide (sizeGap p lens[i] = sizeGap p lens[j]) && decide (lens[i] < lens[j]))

/-- The lens position chosen for a requested size: the best of the nonempty ones, position 0 if there were none (R2, R110). -/
def lensFor (lens : Vector Nat 8) (p : Nat) : Fin 8 :=
  (List.finRange 8).foldl
    (fun best i => if lens[i] ≠ 0 ∧ (lens[best] = 0 ∨ nearer p lens i best = true) then i else best) 0

/-! ### Selection (R103 to R107) -/

/-- The slot that holds a font (R105). -/
def FontControl.slotOf (c : FontControl) (f : Nat) : Option (Fin 8) :=
  (List.finRange 8).find? fun i => ((c.store[i]).map fun x => x.font == f).getD false

/-- The lowest-numbered EMPTY slot (R105). -/
def FontControl.emptySlot (c : FontControl) : Option (Fin 8) := (List.finRange 8).find? fun i => (c.store[i]).isNone

/-- The age of a FILLED slot: the composition counter minus its stamp, modulo 2^32 (R105). -/
def FontControl.slotAge (c : FontControl) (i : Fin 8) : Nat :=
  ((c.store[i]).map fun x => (c.compositionCounter - x.stamp).toNat).getD 0

/-- The slot whose stamp is least recent, passing over the slot of the font in effect (R105, case 3). -/
def FontControl.oldestSlot (c : FontControl) (inEffect : Option Nat) : Fin 8 :=
  let candidates := (List.finRange 8).filter fun i =>
    match c.store[i], inEffect with
    | some x, some f => x.font != f
    | _, _ => true
  candidates.foldl (fun best i => if c.slotAge best < c.slotAge i then i else best) (candidates.headD 0)

/-- The target of a load (R105). -/
def FontControl.target (c : FontControl) (f : Nat) (inEffect : Option Nat) : Fin 8 :=
  match c.slotOf f with
  | some i => i
  | none =>
    match c.emptySlot with
    | some i => i
    | none => c.oldestSlot inEffect

/-- Makes a slot EMPTY. -/
def FontControl.emptied (c : FontControl) (i : Fin 8) : FontControl := { c with store := c.store.set i.val none }

/-- Fills or refreshes a slot with a new counter value as its use stamp (R104, R106). -/
def FontControl.stamped (c : FontControl) (i : Fin 8) (x : FontSlot) : FontControl :=
  { c with
    compositionCounter := c.compositionCounter + 1
    store := c.store.set i.val (some { x with stamp := c.compositionCounter + 1 }) }

/-- How a selection stands after its directory read (R103, R104, R105). -/
inductive Selected where
  /-- Selected without a load. -/
  | resident
  /-- A load is in flight. -/
  | loading (sel : Selection)
  | failed (r : Reason)
  deriving DecidableEq, Repr

/-- The start of a load: its target is made EMPTY, and the range of its table is tested (R105, R106). -/
def State.beginLoad (f : Nat) (revision : Byte) (strip : Half) (ptr : Nat) (inEffect : Option Nat) (p : Purpose) (s : State) :
    Selected × State :=
  let target := s.fonts.target f inEffect
  let s := s.modFonts fun c => c.emptied target
  if s.allowed false ptr 128 then (.loading ⟨f, revision, strip, BitVec.ofNat 24 ptr, target, p⟩, s)
  else (.failed .access, s)

/-- A selection of font `f` up to its end or to its width table read: the directory entry is read, and the font is selected from
the Width Store or a load begins with its target made EMPTY and its range tested (R103 to R106). -/
def State.selectFont (f : Nat) (inEffect : Option Nat) (p : Purpose) (s : State) : Selected × State :=
  let (r, s) := s.busRead (s.areaAddr s.desk.areas.fontDirectory (12 * f)) 12
  match r with
  | none => (.failed .busError, s)
  | some d =>
    let revision := byteAt d 1
    let strip := halfAt d 2
    if byteAt d 0 = 0 ∨ strip = 0 then
      match s.fonts.slotOf f with
      | some i => (.failed .fontUnavailable, s.modFonts fun c => c.emptied i)
      | none => (.failed .fontUnavailable, s)
    else
      match (s.fonts.slotOf f).bind fun i => ((s.fonts.store[i]).map fun x => (i, x)) with
      | some (i, x) =>
        if x.revision = revision then (.resident, s.modFonts fun c => c.stamped i { x with strip := strip })
        else s.beginLoad f revision strip (longAt d 4) inEffect p
      | none => s.beginLoad f revision strip (longAt d 4) inEffect p

/-- The completion of a width table read: checked, the table fills its target; else the selection fails (R106, R107). -/
def State.completeLoad (sel : Selection) (s : State) : Option Reason × State :=
  let (r, s) := s.busRead sel.table 128
  match r with
  | none => (some .busError, s)
  | some t =>
    if (widthTable t).ok then
      (none, s.modFonts fun c => c.stamped sel.target ⟨sel.font, sel.revision, sel.strip, widthTable t, 0⟩)
    else (some .fontUnavailable, s)

/-! ### What a selection gives (R109) -/

/-- A width table of no font: every character unassigned. Used only where no slot holds the font in effect, which no run
reaches (R104). -/
def WidthTable.none : WidthTable := ⟨0, 0, 0, 0, []⟩

/-- The slot's table and strip ID of a font. -/
def FontControl.tableOf (c : FontControl) (f : Nat) : WidthTable × Half :=
  ((c.slotOf f).bind fun i => (c.store[i]).map fun x => (x.table, x.strip)).getD (WidthTable.none, 0)

/-- The strip ID of the slot that holds a font; another where none does. -/
def FontControl.stripOf (c : FontControl) (f : Nat) (other : Half) : Half :=
  (((c.slotOf f).bind fun i => c.store[i]).map fun x => x.strip).getD other

/-! ### The Mount Table (R111 to R117) -/

/-- The mount position of a strip ID: the lowest-numbered drum position that holds it (R116). -/
def FontControl.mountPosition (c : FontControl) (strip : Half) : Option (Fin 8) :=
  (List.finRange 8).find? fun i => (c.mount[i]).strip == some strip

/-- The age of a drum position: the flash count minus its use stamp, modulo 2^32 (R111). -/
def FontControl.mountAge (c : FontControl) (i : Fin 8) : Nat := (c.flashCount - (c.mount[i]).stamp).toNat

/-- A flash through a drum position: the flash count rises and the position is stamped with it (R111). -/
def FontControl.flashed (c : FontControl) (i : Fin 8) : FontControl :=
  { c with
    flashCount := c.flashCount + 1
    mount := c.mount.set i.val { c.mount[i] with stamp := c.flashCount + 1 } }

/-- The Mount Table replaced as a whole by the readings of a scan, and confirmed: a position that read the strip it held keeps its
stamp, every other takes stamp 0 (R115). -/
def FontControl.scanned (c : FontControl) (readings : Vector Half 8) : FontControl :=
  { c with
    confirmed := true
    mount := Vector.ofFn fun i : Fin 8 =>
      ⟨some readings[i], if (c.mount[i]).strip = some readings[i] then (c.mount[i]).stamp else 0⟩ }

/-- The fonts of a record that have at least one exposable item, with their strip IDs, in the font set's order (R116). -/
def fontsConcerned (items : List Item) (fonts : List (Nat × Half)) : List (Nat × Half) :=
  fonts.filter fun f => items.any fun i => i.exposable && i.font == f.1

/-- The drum position suggested for a missing strip: the lowest-numbered empty one, else the one of greatest age that is not the
mount position of a font of the record (R117). -/
def FontControl.suggested (c : FontControl) (fonts : List (Nat × Half)) : Fin 8 :=
  match (List.finRange 8).find? fun i => (c.mount[i]).strip == some 0 with
  | some i => i
  | none =>
    let candidates := (List.finRange 8).filter fun i => fonts.all fun f => c.mountPosition f.2 != some i
    candidates.foldl (fun best i => if c.mountAge best < c.mountAge i then i else best) (candidates.headD 0)

/-- The outcomes of a mount check (R116). -/
inductive MountCheck where
  | wait
  | pass (tracks : List (Nat × Fin 8))
  | missing (font : Nat) (strip : Half) (suggested : Fin 8)
  deriving DecidableEq, Repr

/-- The mount check of a record (R116, R117). -/
def FontControl.check (c : FontControl) (items : List Item) (fonts : List (Nat × Half)) : MountCheck :=
  let concerned := fontsConcerned items fonts
  if concerned.isEmpty then .pass []
  else if !c.confirmed then .wait
  else
    match concerned.find? fun f => (c.mountPosition f.2).isNone with
    | some (font, strip) => .missing font strip (c.suggested fonts)
    | none => .pass (concerned.map fun f => (f.1, (c.mountPosition f.2).getD 0))

end Sys2Proof.Machine
end

