-- ==== Sys2Proof/Machine/Breaking.lean ====
section
/-! DEFINITION. Words, break candidates and the choice of a point (spec 05), and the Hyphenation Unit's dictionary lookup. -/

namespace Sys2Proof.Machine

/-! ### Codes of a line -/

/-- The elements of a line's codes, in take order. -/
def elementsOf (cs : List LineCode) : List Element := cs.filterMap LineCode.element

/-- The conditions the codes raised (R65). -/
def codeConditions (cs : List LineCode) : Half := cs.foldl (fun acc c => acc ||| c.conditions) 0

/-- The held film codes (R63). -/
def heldFilm (cs : List LineCode) : List Lead := cs.filterMap LineCode.film

/-- A line is empty until an element is placed in it (section 4.1). -/
def Line.isEmpty (l : Line) : Bool := (elementsOf l.codes).isEmpty

/-- The code places a justifying space. -/
def LineCode.isSpace (c : LineCode) : Bool := (c.element.map Element.isSpace).getD false

/-- The code places a width-bearing element. -/
def LineCode.widthBearing (c : LineCode) : Bool := (c.element.map Element.widthBearing).getD false

/-- The codes up to the last justifying space, and the codes of the word after it (section 6.2). -/
def splitWord : List LineCode → List LineCode × List LineCode
  | [] => ([], [])
  | c :: rest =>
    match splitWord rest with
    | ([], w) => if c.isSpace then ([c], w) else ([], c :: w)
    | (b, w) => (c :: b, w)

/-- The codes below a break offset, and those at or above it (R63). -/
def splitAtOffset (o : Nat) (cs : List LineCode) : List LineCode × List LineCode :=
  (cs.filter fun c => c.offset < o, cs.filter fun c => o ≤ c.offset)

/-- The offset of the first width-bearing element of codes (R97). -/
def firstWidthOffset (cs : List LineCode) : Option Nat := (cs.find? LineCode.widthBearing).map LineCode.offset

/-- The composition state before the first code at or above a break offset (R64, R96). -/
def stateAt (o : Nat) (cs : List LineCode) (default : CompState) : CompState :=
  ((cs.find? fun c => decide (o ≤ c.offset)).map LineCode.before).getD default

/-! ### The hyphenation word (R89) -/

/-- The class of a character code: above 15 is taken as 15, and a Letter Table pointer of 0 gives class 15 to every code (R2, R89). -/
def Hyphenation.classOf (h : Hyphenation) (code : Nat) : Nat :=
  if h.letters.isEmpty then 15 else min 15 (natAt h.letters (2 * code))

/-- The fold code of a character code (R2, R89). -/
def Hyphenation.foldOf (h : Hyphenation) (code : Nat) : Byte :=
  if h.letters.isEmpty then BitVec.ofNat 8 code else byteAt h.letters (2 * code + 1)

/-- The glyph a code of the line places. -/
def LineCode.glyph? (c : LineCode) : Option Glyph :=
  match c.element with
  | some (.glyph g) => some g
  | _ => none

/-- The code places a character that is a letter. -/
def Hyphenation.isLetter (h : Hyphenation) (c : LineCode) : Bool :=
  (c.glyph?.map fun g => decide (h.classOf g.code < 15)).getD false

/-- The codes of a word from its first letter to its last (R89). -/
def Hyphenation.core (h : Hyphenation) (w : List LineCode) : List LineCode :=
  ((w.dropWhile fun c => !h.isLetter c).reverse.dropWhile fun c => !h.isLetter c).reverse

/-- The characters of the hyphenation word, with their offsets. -/
def charsOf (core : List LineCode) : List (Nat × Glyph) := core.filterMap fun c => c.glyph?.map fun g => (c.offset, g)

/-- The word qualifies for hyphenation (R89). -/
def Hyphenation.qualifies (h : Hyphenation) (minWord : Nat) (w : List LineCode) : Bool :=
  let core := h.core w
  !(charsOf core).isEmpty
    && !core.any (fun c => match c.element with | some (.fixed _) => true | _ => false)
    && decide (minWord ≤ (charsOf core).length)

/-! ### Candidates (R91 to R94) -/

/-- A point within the bounds of R89. -/
def keepPoint (st : Setup) (len : Nat) (c : Candidate) : Bool :=
  decide (1 ≤ c.after ∧ c.after + 1 ≤ len ∧ st.minPrefix ≤ c.after ∧ st.minSuffix ≤ len - c.after)

/-- The points that discretionary hyphens mark within a hyphenation word, `n` characters of it standing before (R91). -/
def discretionaryPoints : Nat → List LineCode → List Candidate
  | _, [] => []
  | n, c :: rest =>
    if c.discretionary then ⟨n, true⟩ :: discretionaryPoints n rest
    else discretionaryPoints (if c.glyph?.isSome then n + 1 else n) rest

/-- The points of a dictionary mask: bit k for a break after character k + 1, bit 31 ignored (R93). -/
def maskPoints (mask : Nat) : List Candidate :=
  (List.range 31).filterMap fun k => if mask.testBit k then some ⟨k + 1, true⟩ else none

/-- The points the pair rules give between neighbouring classes, the next point standing after character `n` (R94). -/
def pairPoints (pairs : List Byte) : Nat → List Nat → List Candidate
  | n, a :: b :: rest =>
    let v := natAt pairs (16 * a + b)
    let tail := pairPoints pairs (n + 1) (b :: rest)
    if v = 2 then ⟨n, true⟩ :: tail else if v = 1 then ⟨n, false⟩ :: tail else tail
  | _, _ => []

/-- The pair candidates of a hyphenation word: none where a non-letter stands inside it (R94). -/
def Hyphenation.pairCandidates (h : Hyphenation) (chars : List (Nat × Glyph)) : List Candidate :=
  let classes := chars.map fun c => h.classOf c.2.code
  if classes.any (15 ≤ ·) then [] else pairPoints h.pairs 1 classes

/-- Where the candidates of a word come from (R88, step 1). -/
inductive Source where
  /-- Gathered without a lookup. -/
  | gathered (cs : List Candidate)
  /-- A dictionary lookup is to be made (R92). -/
  | lookup
  deriving DecidableEq, Repr

/-- Candidates kept by the bounds of R89. -/
def kept (st : Setup) (len : Nat) (cs : List Candidate) : List Candidate := cs.filter (keepPoint st len)

/-- Hyphenation is permitted for a word: the switch is on, the word qualifies, and the ladder is below its limit (R90). -/
def hyphenationPermitted (h : Hyphenation) (st : Setup) (c : CompState) (w : List LineCode) : Bool :=
  c.hyphenation && h.qualifies st.minWord w && (st.ladderLimit == 0 || decide (c.ladder < st.ladderLimit))

/-- The candidates of a word, or the lookup that gives them (R88, R90 to R94). -/
def candidateSource (h : Hyphenation) (st : Setup) (c : CompState) (w : List LineCode) : Source :=
  if hyphenationPermitted h st c w then
    let core := h.core w
    let chars := charsOf core
    if w.any LineCode.discretionary then
      .gathered (kept st chars.length (discretionaryPoints 0 core))
    else if h.dictionary ≠ 0 ∧ chars.length ≤ 31 then .lookup
    else .gathered (kept st chars.length (h.pairCandidates chars))
  else .gathered []

/-! ### The dictionary lookup (R92) -/

/-- The outcomes of a lookup (R93). -/
inductive Lookup where
  | found (mask : Nat)
  | notFound
  | stop (r : Reason)
  deriving DecidableEq, Repr

/-- A read of a range tested against the grants for READ (R18, R92). -/
def State.grantedRead (ptr len : Nat) (s : State) : Except Reason (List Byte) × State :=
  if s.allowed false ptr len then
    match s.busRead (BitVec.ofNat 24 ptr) len with
    | (some b, s) => (.ok b, s)
    | (none, s) => (.error .busError, s)
  else (.error .access, s)

/-- The chain read entry by entry; the first argument is the number of entries that may still be passed over (R92). -/
def State.searchChain (key : List Byte) : Nat → Nat → State → Lookup × State
  | left, ptr, s =>
    match s.grantedRead ptr 1 with
    | (.error r, s) => (.stop r, s)
    | (.ok b, s) =>
      let len := natAt b 0
      if len = 0 ∨ 32 ≤ len then (.notFound, s)
      else
        match s.grantedRead (ptr + 1) (4 + len) with
        | (.error r, s) => (.stop r, s)
        | (.ok e, s) =>
          if len = key.length ∧ e.take len = key then (.found (longAt e len), s)
          else
            match left with
            | 0 => (.notFound, s)
            | 1 => (.notFound, s)
            | left + 2 => State.searchChain key (left + 1) (ptr + 5 + len) s

/-- The bucket of a key (R92). -/
def bucketOf (key : List Byte) : Nat := (3 * natAt key 0 + natAt key 1 + key.length) % 64

/-- The lookup of a hyphenation word (R92). -/
def State.lookupWord (chars : List (Nat × Glyph)) (s : State) : Lookup × State :=
  let key := chars.map fun c => s.hyphenation.foldOf c.2.code
  match s.grantedRead (s.hyphenation.dictionary.toNat + 4 * bucketOf key) 4 with
  | (.error r, s) => (.stop r, s)
  | (.ok p, s) => if longAt p 0 = 0 then (.notFound, s) else s.searchChain key 256 (longAt p 0)

/-! ### The choice of point (R95) and the forced break (R98) -/

/-- The hyphen that follows a character: its font, lens and kept hyphen code, its width by R67 (R96, R109). -/
def Glyph.hyphenAfter (g : Glyph) : Glyph :=
  { g with kind := .hyphen, code := g.hyphenCode, width := widthOf g.hyphenUnits g.setSize }

/-- The point after the `i`-th character: that character's offset and glyph, and the offset of the next character. -/
def pointAt (chars : List (Nat × Glyph)) (i : Nat) : Option (Nat × Glyph × Nat) :=
  match chars[i - 1]?, chars[i]? with
  | some (o, g), some (next, _) => some (o, g, next)
  | _, _ => none

/-- The trial of a candidate: the line with the word cut after the point, with a hyphen (R95). A trial that fits gives the hyphen
and the break offset (R96). -/
def trial (codes : List LineCode) (chars : List (Nat × Glyph)) (effective : Int) (c : Candidate) : Option (Glyph × Nat) :=
  match pointAt chars c.after with
  | some (o, g, next) =>
    if fits (elementsOf (codes.filter fun x => x.offset ≤ o) ++ [.glyph g.hyphenAfter]) effective then some (g.hyphenAfter, next)
    else none
  | none => none

/-- The point chosen: preferred candidates first, the rightmost that fits, then allowed ones in the same way (R95). Candidates
stand in increasing order. -/
def choosePoint (codes : List LineCode) (chars : List (Nat × Glyph)) (effective : Int) (cs : List Candidate) :
    Option (Glyph × Nat) :=
  match ((cs.filter Candidate.preferred).reverse).findSome? (trial codes chars effective) with
  | some p => some p
  | none => ((cs.filter fun c => !c.preferred).reverse).findSome? (trial codes chars effective)

/-- The break offsets of the prefixes of a lone word, longest prefix first: each is the offset of the width-bearing element after
the prefix (R98). The whole word is no prefix here. -/
def prefixBreaks (w : List LineCode) : List Nat := (((w.filter LineCode.widthBearing).drop 1).map LineCode.offset).reverse

/-- The break offset of a forced break: the longest prefix that fits, or the word's first element alone; none when the kept prefix
is the whole word (R98). -/
def forcedOffset (w : List LineCode) (effective : Int) : Option Nat :=
  match (prefixBreaks w).find? fun o => fits (elementsOf (w.filter fun c => c.offset < o)) effective with
  | some o => some o
  | none => (prefixBreaks w).getLast?

end Sys2Proof.Machine
end

