-- ==== Sys2Proof/Machine/Composer.lean ====
section
/-! DEFINITION. The Composer (spec 02, sections 3.3, 3.5 and 3.6; spec 03; spec 05): starting states, font selections, the line
being built, breaks, the append of lines, stops, cancels, preemption and resumption. One call of `composerPhase` carries out one
phase; `composerRun` goes on until the Composer must wait. -/

namespace Sys2Proof.Machine

/-! ### The ticket and its state -/

/-- A flight entry by its index. -/
def State.entry (s : State) (i : Fin 8) : Option Entry := s.flight[i]

/-- The ticket being composed, with its entry. -/
def State.ticketEntry (s : State) : Option (Fin 8 × Entry) :=
  s.composer.ticket.bind fun i => (s.entry i).map fun e => (i, e)

/-- The phase changes. -/
def State.setPhase (p : Phase) (s : State) : State := s.modComposer fun c => { c with phase := p }

/-- The Setup defaults as a composition state (TABLE 4-1), the point size as it stands before it is substituted. -/
def defaultState (st : Setup) : CompState where
  font := st.font
  pointSize := st.pointSize
  lens := 0
  setSize := st.pointSize
  leading := st.leading
  measure := st.measure
  indentLeft := st.indentLeft
  indentRight := st.indentRight
  tabs := List.replicate 16 none
  letterspace := st.letterspace
  hyphenation := st.hyphenation
  ladder := 0

/-- The carried state; the Setup defaults where none is kept (R50). -/
def State.carriedState (s : State) : CompState := s.composer.carried.getD (defaultState s.desk.setup)

/-- The starting state of a TAKE ticket (R49). -/
def State.startingState (s : State) (e : Entry) : CompState :=
  if e.cls = .flash ∨ e.fresh = true then defaultState s.desk.setup else s.carriedState

/-- The size taken up for a requested size: the lens position and its size, and SUBSTITUTED if it differs (R57, R110). -/
def substitute (st : Setup) (p : Nat) : Fin 8 × Nat × Half :=
  let k := lensFor st.lens p
  (k, st.lens[k], condIf Cond.substituted (st.lens[k] != p))

/-- A state taken up: the point size substituted, the set size the substituted size, the indents clamped (R49). -/
def takeUp (st : Setup) (c : CompState) : CompState × Half :=
  let (k, size, substituted) := substitute st c.pointSize
  ({ c with
     pointSize := size
     lens := k
     setSize := size
     indentLeft := min c.measure c.indentLeft
     indentRight := min c.measure c.indentRight },
   substituted ||| condIf Cond.clamped (decide (c.measure < c.indentLeft ∨ c.measure < c.indentRight)))

/-! ### The line being built -/

/-- Adds a code to the line being built. -/
def State.pushCode (c : LineCode) (s : State) : State :=
  s.modComposer fun k => { k with line := { k.line with codes := k.line.codes ++ [c] } }

/-- A code of the line with nothing placed. -/
def State.plainCode (s : State) (offset : Nat) : LineCode := ⟨offset, s.composer.current, none, false, none, 0⟩

/-- Adds an element to the line being built. -/
def State.pushElement (offset : Nat) (e : Element) (conditions : Half) (s : State) : State :=
  s.pushCode { s.plainCode offset with element := some e, conditions := conditions }

/-- A composition command: it changes the state and raises conditions in the line (R48, R65). -/
def State.command (offset : Nat) (conditions : Half) (f : CompState → CompState) (s : State) : State :=
  (s.pushCode { s.plainCode offset with conditions := conditions }).modComposer fun c => { c with current := f c.current }

/-- The settings a test of the line uses: those fixed, or those in effect while no item is placed (R48, R72). -/
def State.lineSettings (s : State) : Settings := s.composer.line.settings.getD (formSettings s.composer.current).1

/-- The settings fixed at the line's first item, with the CLAMPED of R72. -/
def Line.fix (l : Line) (c : CompState) : Line :=
  match l.settings with
  | some _ => l
  | none =>
    let (st, short) := formSettings c
    { l with settings := some st, conditions := l.conditions ||| condIf Cond.clamped short }

/-- A line begun with carried codes: its settings are fixed if an item is among them (R66, R87). -/
def Line.carriedFrom (codes : List LineCode) (c : CompState) : Line :=
  let l : Line := ⟨codes, none, 0⟩
  if (glyphsOf (elementsOf codes)).isEmpty then l else l.fix c

/-- The line being built is discarded: its items return to the pool, and the read position to the line start (R32, R101). -/
def State.discardLine (s : State) : State :=
  (s.modStore fun l => { l with free := l.free + s.composer.drawn }).modComposer fun c =>
    { c with line := Line.empty, drawn := 0, readPosition := c.lineStart }

/-! ### The end of a ticket's composition -/

/-- A ticket leaves the Composer: the scanner goes from WATCH to IDLE, which is a trigger, or a flash goes on to its closing cut
(R22, R41, R84). -/
def State.leaveTicket (cls : Class) (s : State) : State :=
  match cls with
  | .flash => s.setPhase .closeCut
  | .routine =>
    let s := s.modComposer fun c => { c with ticket := none, phase := .idle }
    if s.scanner.state = .watch then (s.modScanner fun c => { c with state := .idle }).trigger else s

/-- A state is handed on by a routine ticket (R50). -/
def State.carry (cls : Class) (s : State) : State :=
  match cls with
  | .flash => s
  | .routine => s.modComposer fun c => { c with carried := some c.current }

/-- The Composer stops the ticket (R32, R33). -/
def State.stopTicket (r : Reason) (masked : Option Nat) (s : State) : State :=
  match s.ticketEntry with
  | none => s
  | some (i, e) =>
    let start := s.composer.lineStart
    ((((s.discardLine.modComposer fun c => { c with current := c.snapshot }).modEntry i fun x =>
        { x with held := some r, maskedBit := masked, stopOffset := start, finished := true }).carry e.cls).leaveTicket e.cls)

/-- The end-of-take code finishes the ticket (R52). -/
def State.finishTake (offset : Nat) (s : State) : State :=
  match s.ticketEntry with
  | none => s
  | some (i, e) => ((s.modEntry i fun x => { x with stopOffset := offset, finished := true }).carry e.cls).leaveTicket e.cls

/-! ### Appends -/

/-- A record of a ticket. -/
def Entry.record (i : Fin 8) (e : Entry) (conditions : Half) (w : Work) : Record :=
  ⟨i, e.lineNumber, e.toFilm, e.toProof, false, conditions, w⟩

/-- A CUT record is appended; with FILM it clears the galley-content flag (R37, R119). -/
def State.appendCut (i : Fin 8) (r : Record) (s : State) : State :=
  (s.append i [r]).modComposer fun c => { c with galleyContent := c.galleyContent && !r.toFilm }

/-- The log entry of a line just appended, where the ticket has a log with room (R36). False on a bus error. -/
def State.writeLog (i : Fin 8) (e : Entry) (g : EndedLine) (s : State) : Bool × State :=
  if e.logIndex < e.logCapacity then
    let (ok, s) := s.busWrite (Addr.plus e.logPtr (16 * e.logIndex)) (logBytes e.lineNumber s.composer.lineStart g)
    (ok, if ok then s.modEntry i fun x => { x with logIndex := x.logIndex + 1, logWritten := x.logWritten + 1 } else s)
  else (true, s)

/-- Steps 3 and 4 of R102: the group is appended and its counters rise. -/
def State.appendLine (i : Fin 8) (e : Entry) (g : EndedLine) (s : State) : State :=
  let records := e.record i g.conditions (.text g.leadTicks g.items g.fonts) :: g.leads.map fun l => e.record i 0 (.lead l)
  ((s.append i records).modEntry i fun x =>
      { x with linesSet := x.linesSet + 1, hyphenated := if g.hyphenated then x.hyphenated + 1 else x.hyphenated }).modComposer
    fun c => { c with drawn := c.drawn - g.items.length, galleyContent := true }

/-- The ladder count after a line (R90). -/
def nextLadder (hyphenated : Bool) (ladder : Nat) : Nat := if hyphenated then min 255 (ladder + 1) else 0

/-- Step 6 of R102: the ladder count, the line number, the line start and snapshot, and the next line with the carried part. The line
number is a natural number: after 65,535 lines of a flash ticket its closing cut bears 65,536, which TABLE 8-1's range does not hold
(R119; DESIGN CHOICE, log entry 35). -/
def State.startNextLine (i : Fin 8) (g : EndedLine) (s : State) : State :=
  (s.modEntry i fun x => { x with lineNumber := x.lineNumber + 1 }).modComposer fun c =>
    let ladder := nextLadder g.hyphenated c.current.ladder
    let current := { c.current with ladder := ladder }
    { c with
      current := current
      lineStart := g.nextStart
      snapshot := { g.snapshot with ladder := ladder }
      line := Line.carriedFrom g.carried current }

/-- What follows an append (R87, R99, R52). -/
def State.goAfter (a : After) (s : State) : State :=
  match a with
  | .readOn => s.setPhase .reading
  | .retest t => s.setPhase (.testing t)
  | .place c => s.setPhase (.placing c)
  | .finishTake o => s.finishTake o

/-- The group of an ended line is appended and its log entry written; a bus error on the log stops the ticket (R36, R102). -/
def State.appendGroup (g : EndedLine) (s : State) : State :=
  match s.ticketEntry with
  | none => s
  | some (i, e) =>
    let (ok, s) := (s.appendLine i e g).writeLog i e g
    let s := s.startNextLine i g
    if ok then s.goAfter g.after else s.stopTicket .busError none

/-- The LEAD record of a film code at an empty line is appended, and the line start moves past the code (R62, R64). Codes read in the
empty line before it are no part of the line that starts there, and so of no word of it; the conditions they raised stay with the line
that ends next, as those of its take-up do (section 6.2; DESIGN CHOICE, log entry 31). -/
def State.appendLead (l : Lead) (nextStart : Nat) (s : State) : State :=
  match s.ticketEntry with
  | none => s
  | some (i, e) =>
    (s.append i [e.record i 0 (.lead l)]).modComposer fun c =>
      { c with
        galleyContent := true
        lineStart := nextStart
        snapshot := c.current
        line := ⟨[], none, c.line.conditions ||| codeConditions c.line.codes⟩
        phase := .reading }

/-! ### Ending a line (R102, steps 1 to 3) -/

/-- How a line ends. -/
structure LineEnd where
  kept : List LineCode
  hyphen : Option Glyph
  carried : List LineCode
  mode : Quad
  conditions : Half
  nextStart : Nat
  snapshot : CompState
  after : After
  deriving DecidableEq, Repr

/-- The font set of a line's items, each font with the strip ID kept with its latest item (R109). -/
def fontSet (gs : List Glyph) : List (Nat × Half) :=
  gs.foldl (fun acc g =>
    if acc.any fun p => p.1 == g.font then acc.map fun p => if p.1 == g.font then (p.1, g.strip) else p
    else acc ++ [(g.font, g.strip)]) []

/-- The elements of an ended line. -/
def LineEnd.elements (e : LineEnd) : List Element := elementsOf e.kept ++ (e.hyphen.map Element.glyph).toList

/-- The settings of a line that ends, and its conditions but for those of its setting (R65, R72). Settings fixed by an item stay fixed
where a break carries that item, and every other, to the next line (DESIGN CHOICE, log entry 38). -/
def State.endSettings (s : State) (kept : List LineCode) (extra : Half) : Settings × Half :=
  let l := s.composer.line.fix s.composer.current
  (l.settings.getD s.lineSettings, codeConditions kept ||| l.conditions ||| extra)

/-- The group of an ended line as set (R102, step 3). -/
def LineEnd.group (le : LineEnd) (st : Settings) (set : SetLine) (conditions : Half) : EndedLine where
  items := set.items
  fonts := fontSet (glyphsOf le.elements)
  conditions := conditions
  leadTicks := st.leading * 10
  leads := heldFilm le.kept
  quad := set.quad
  natural := set.natural
  firstSpace := set.firstSpace
  hyphenated := le.hyphen.isSome
  carried := le.carried
  nextStart := le.nextStart
  snapshot := le.snapshot
  after := le.after

/-- A line ends: it is set, its conditions are reported and tested, and its group waits to be appended, or the ticket stops
MASKED (R31, R33, R102). What is reported here stays where a preemption or a cancel discards the line while it waits for room (R38, R45,
R65; DESIGN CHOICE, log entry 46). -/
def State.endLine (le : LineEnd) (s : State) : State :=
  match s.ticketEntry with
  | none => s
  | some (i, e) =>
    let (st, conditions) := s.endSettings le.kept le.conditions
    let set := setLine le.elements st le.mode e.lineNumber
    let conditions := conditions ||| set.conditions
    let s := s.report i e.lineNumber conditions
    match maskedBit conditions e.stopMask with
    | some b => s.stopTicket .masked (some b)
    | none => s.setPhase (.group (le.group st set conditions))

/-- An end code ends the whole line (R61, R52). -/
def State.endWhole (mode : Quad) (nextStart : Nat) (after : After) (s : State) : State :=
  s.endLine ⟨s.composer.line.codes, none, [], mode, 0, nextStart, s.composer.current, after⟩

/-- A line broken without an end code at a break offset (R63, R64). -/
def State.breakAt (offset : Nat) (hyphen : Option Glyph) (conditions : Half) (after : After) (s : State) : State :=
  let codes := s.composer.line.codes
  let (kept, carried) := splitAtOffset offset codes
  s.endLine ⟨kept, hyphen, carried, .justify, conditions, offset, stateAt offset codes s.composer.current, after⟩

/-- An empty line ended by 0x79 or by the end of the take: its conditions are reported and tested, no record is made, and the line
number, line start and snapshot stand (R61). The codes read in it are in no later word (DESIGN CHOICE, log entry 31). -/
def State.endEmpty (after : After) (s : State) : State :=
  match s.ticketEntry with
  | none => s
  | some (i, e) =>
    let conditions := (s.endSettings s.composer.line.codes 0).2
    let s := s.report i e.lineNumber conditions
    match maskedBit conditions e.stopMask with
    | some b => s.stopTicket .masked (some b)
    | none => (s.modComposer fun c => { c with line := Line.empty }).goAfter after

/-! ### Triggers and breaks -/

/-- The code of a justifying space. -/
def State.spaceCode (s : State) (offset min opt max : Nat) : LineCode :=
  { s.plainCode offset with element := some (.space min opt max) }

/-- A trigger acts (R86). -/
def State.actTrigger (t : Trigger) (s : State) : State :=
  match t with
  | .space o mn op mx => (s.pushCode (s.spaceCode o mn op mx)).setPhase .reading
  | .endCode o mode => s.endWhole mode (o + 1) .readOn
  | .endParagraph o => if s.composer.line.isEmpty then s.endEmpty .readOn else s.endWhole .left (o + 1) .readOn
  | .endOfTake o => if s.composer.line.isEmpty then s.endEmpty (.finishTake o) else s.endWhole .left (o + 1) (.finishTake o)

/-- The word being read (section 6.2). -/
def State.word (s : State) : List LineCode := (splitWord s.composer.line.codes).2

/-- The codes before the word being read. -/
def State.beforeWord (s : State) : List LineCode := (splitWord s.composer.line.codes).1

/-- A forced break of a word of one width-bearing element, which carries nothing (R98). -/
def State.forceWhole (t : Trigger) (s : State) : State :=
  match t with
  | .space o mn op mx =>
    s.endLine ⟨s.composer.line.codes ++ [s.spaceCode o mn op mx], none, [], .justify, Cond.forced, o + 1, s.composer.current,
      .readOn⟩
  | t =>
    (s.modComposer fun c => { c with line := { c.line with conditions := c.line.conditions ||| Cond.forced } }).actTrigger t

/-- Steps 3 and 4 of R88: a break before the word, or a forced break within it (R97, R98). -/
def State.breakWithoutPoint (t : Trigger) (s : State) : State :=
  if s.beforeWord.any LineCode.widthBearing then
    match firstWidthOffset s.word with
    | some o => s.breakAt o none 0 (.retest t)
    | none => s.actTrigger t
  else
    match forcedOffset s.word s.lineSettings.effective with
    | some o => s.breakAt o none Cond.forced (.retest t)
    | none => s.forceWhole t

/-- A trigger is read: the fit test is made where one is due, and a break begins when the line does not fit (R86, R88). The test is the same
in a line whose E is below one em, so that two narrow words may share such a line (DESIGN CHOICE, log entry 44). -/
def State.testTrigger (t : Trigger) (s : State) : State :=
  let es := elementsOf s.composer.line.codes
  if tabular es || !s.word.any LineCode.widthBearing || fits es s.lineSettings.effective then s.actTrigger t
  else
    match candidateSource s.hyphenation s.desk.setup s.composer.current s.word with
    | .gathered cs => s.setPhase (.choosing t cs)
    | .lookup => s.setPhase (.searching t)

/-- The hyphenation word of the word being read. -/
def State.hyphenationChars (s : State) : List (Nat × Glyph) := charsOf (s.hyphenation.core s.word)

/-- The choice of point (R95): a hyphenation break, or a break without a point. -/
def State.choose (t : Trigger) (cs : List Candidate) (s : State) : State :=
  match choosePoint s.composer.line.codes s.hyphenationChars s.lineSettings.effective cs with
  | some (g, o) => s.setPhase (.hyphen ⟨g, o, t⟩)
  | none => s.breakWithoutPoint t

/-- An item is drawn from the pool for the line being built (R101). -/
def State.drawItem (s : State) : State :=
  (s.modStore fun l => { l with free := l.free - 1 }).modComposer fun c => { c with drawn := c.drawn + 1 }

/-- A hyphen as it is placed: its font's strip ID is that of the font's slot now (R109); where no slot holds the font any more, that of
the character before it (DESIGN CHOICE, log entry 32). -/
def State.placedHyphen (s : State) (g : Glyph) : Glyph := { g with strip := s.fonts.stripOf g.font g.strip }

/-- The hyphen of a hyphenation break is drawn and the line ends with it (R96). -/
def State.hyphenate (p : HyphenPlan) (s : State) : State :=
  match s.ticketEntry with
  | none => s
  | some _ => s.drawItem.breakAt p.breakOffset (some (s.placedHyphen p.hyphen)) 0 (.retest p.trigger)

/-- A character's item would pass a per-line limit: the 256th item, or a ninth font (R99, R100). -/
def passesLimit (es : List Element) (g : Glyph) : Bool :=
  let fonts := fontSet (glyphsOf es)
  decide (255 ≤ (glyphsOf es).length) || (decide (8 ≤ fonts.length) && !fonts.any fun p => p.1 == g.font)

/-- The break before a character that passes a limit of a line that is not tabular, by the first case of R99 that holds. -/
def State.limitBreak (c : LineCode) (s : State) : State :=
  let es := elementsOf s.composer.line.codes
  if fits es s.lineSettings.effective then s.breakAt c.offset none Cond.forced (.place c)
  else if s.beforeWord.any LineCode.widthBearing then
    s.breakAt ((firstWidthOffset s.word).getD c.offset) none Cond.forced (.place c)
  else s.breakAt ((forcedOffset s.word s.lineSettings.effective).getD c.offset) none Cond.forced (.place c)

/-- A character is placed, or breaks its line at a limit, or is dropped from a tabular line at one (R54, R99, R100). -/
def State.placeCharacter (c : LineCode) (s : State) : State :=
  let es := elementsOf s.composer.line.codes
  if (c.glyph?.map (passesLimit es)).getD false then
    if tabular es then (s.pushCode { c with element := none, conditions := c.conditions ||| Cond.forced }).setPhase .reading
    else s.limitBreak c
  else
    (s.drawItem.modComposer fun k =>
      { k with line := { k.line.fix k.current with codes := k.line.codes ++ [c] }, phase := .reading })

/-! ### Selections -/

/-- Font `f` comes into effect (R56). -/
def State.fontInEffect (f : Nat) (s : State) : State := s.modComposer fun c => { c with current := { c.current with font := f } }

/-- A selection completes or fails (R49, R56, R43). -/
def State.endSelection (p : Purpose) (f : Nat) (r : Option Reason) (s : State) : State :=
  match p, r with
  | .code, none => (s.fontInEffect f).setPhase .reading
  | .takeUp, none => s.setPhase .reading
  | .restore, r => s.setPhase (.validWrite r)
  | _, some r => s.stopTicket r none

/-- A selection is made, up to its end or to its table read (R103). -/
def State.select (f : Nat) (inEffect : Option Nat) (p : Purpose) (s : State) : State :=
  match s.selectFont f inEffect p with
  | (.resident, s) => s.endSelection p f none
  | (.loading sel, s) => s.setPhase (.loading sel)
  | (.failed r, s) => s.endSelection p f (some r)

/-! ### Beginning a ticket (R29, R41, R49) -/

/-- The CUT record of a CUT ticket is appended, and the ticket is finished (R29, R41). -/
def State.beginCut (i : Fin 8) (e : Entry) (s : State) : State :=
  let w := Work.cut (match e.cls with | .routine => .routine | .flash => .flash)
  ((s.appendCut i (e.record i 0 w)).modEntry i fun x => { x with finished := true }).leaveTicket e.cls

/-- A TAKE ticket is taken up at offset 0 (R49). -/
def State.beginTake (e : Entry) (s : State) : State :=
  let start := s.startingState e
  let (current, conditions) := takeUp s.desk.setup start
  (s.modComposer fun c =>
    { c with
      snapshot := start
      current := current
      lineStart := 0
      readPosition := 0
      line := ⟨[], none, conditions⟩ }).select current.font none .takeUp

/-- A ticket handed over begins; a flash cancelled during its preemption goes on to its closing cut (R45). -/
def State.beginTicket (s : State) : State :=
  match s.ticketEntry with
  | none => s.modComposer fun c => { c with ticket := none, phase := .idle }
  | some (i, e) =>
    if e.finished then s.leaveTicket e.cls
    else
      match e.kind with
      | .cut => s.beginCut i e
      | .take => s.beginTake e

/-! ### Preemption and resumption (R38 to R43) -/

/-- The place and state saved for a ticket that is suspended (R38, R39). -/
def State.savedPlace (s : State) (e : Entry) : Nat × CompState :=
  match e.kind, s.composer.phase with
  | .cut, _ => (0, s.carriedState)
  | .take, .begin => (0, s.startingState e)
  | .take, _ => (s.composer.lineStart, s.composer.snapshot)

/-- The Composer sets aside what it is doing for a flash ticket (R38). -/
def State.preemptFor (flash : Fin 8) (s : State) : State :=
  let (suspended, place) :=
    match s.ticketEntry with
    | some (i, e) => (some i, s.savedPlace e)
    | none => (none, (0, s.carriedState))
  s.discardLine.modComposer fun c =>
    { c with
      suspended := suspended
      savedOffset := place.1
      saved := place.2
      ticket := some flash
      preempt := none
      phase := .contextWrite }

/-- The Context Record is written whole (R39). Where a cancel of the suspended ticket has been taken, the resume slot is NONE, and the resume
take offset is still the line start of that ticket (R46; DESIGN CHOICE, log entry 45). -/
def State.writeContext (s : State) : State :=
  let c := s.composer
  let (ok, s) := s.busWrite (s.areaAddr s.desk.areas.context 0) (contextBytes c.suspended c.savedOffset c.saved)
  if ok then s.setPhase .openCut else s.fault .deskFault

/-- A bracketing cut of a flash ticket, with both destinations (R40, R41, R119). -/
def State.bracketCut (cls : CutClass) (s : State) : State :=
  match s.ticketEntry with
  | none => s
  | some (i, e) => s.appendCut i { e.record i 0 (.cut cls) with toFilm := true, toProof := true }

/-- The leading cut, if the galley holds anything (R40). -/
def State.makeOpenCut (s : State) : State :=
  (if s.composer.galleyContent then s.bracketCut .flashOpen else s).setPhase .begin

/-- The closing cut (R41). -/
def State.makeCloseCut (s : State) : State :=
  (s.bracketCut .flashClose).modComposer fun c => { c with ticket := none, phase := .flashScan }

/-- The flash-only scan (R42). Its end, like that of any scan, lets a rescan timer held at 1 expire (R24). -/
def State.makeFlashScan (s : State) : State :=
  if s.flightFull then s.expireHeldTimer.setPhase .readback
  else
    match s.scanTray true with
    | (.nothing, s) => s.expireHeldTimer.setPhase .readback
    | (.refused, s) => s.expireHeldTimer.setPhase .readback
    | (.entered, s) => s.expireHeldTimer
    | (.fault, s) => s

/-- The Context Record is read back and its state taken up (R43, R174). -/
def State.readContext (s : State) : State :=
  let (r, s) := s.busRead (s.areaAddr s.desk.areas.context 0) 64
  match r with
  | none => s.fault .deskFault
  | some b =>
    let (state, clamped) := contextState b
    let (current, conditions) := takeUp s.desk.setup state
    (s.modComposer fun c =>
      { c with
        current := current
        resumeOffset := contextOffset b
        line := ⟨[], none, conditions ||| condIf Cond.clamped clamped⟩ }).select current.font none .restore

/-- The chain ends: the suspended ticket is resumed, or the restored state is carried (R43). -/
def State.endChain (failed : Option Reason) (s : State) : State :=
  match s.composer.suspended.bind fun i => (s.entry i).map fun e => (i, e) with
  | some (i, e) =>
    let s := s.modScanner fun c => { c with state := .watch }
    match e.kind with
    | .take =>
      let s := s.modComposer fun c =>
        { c with
          ticket := some i
          suspended := none
          snapshot := c.current
          lineStart := c.resumeOffset
          readPosition := c.resumeOffset
          phase := .reading }
      (match failed with | some r => s.stopTicket r none | none => s).testPending
    | .cut =>
      (s.modComposer fun c =>
        { c with ticket := some i, suspended := none, carried := some c.current, line := Line.empty, phase := .begin }).testPending
  | none =>
    ((s.modScanner fun c => { c with state := .idle }).modComposer fun c =>
      { c with ticket := none, suspended := none, carried := some c.current, line := Line.empty, phase := .idle }).trigger.testPending

/-- Valid 0 is written and the chain ends (R43). -/
def State.writeValid (failed : Option Reason) (s : State) : State :=
  let (ok, s) := s.busWrite (s.areaAddr s.desk.areas.context 0) [0]
  if ok then s.endChain failed else s.fault .deskFault

/-! ### The run of the Composer -/

/-- The ring has places for `n` records. -/
def State.hasRoom (s : State) (n : Nat) : Bool := decide (n ≤ s.store.room)

/-- A character can be placed: an item is free, or none is needed. -/
def State.canPlace (s : State) (c : LineCode) : Bool :=
  decide (0 < s.store.free) || (c.glyph?.map (passesLimit (elementsOf s.composer.line.codes))).getD false

/-- The ticket in hand is a CUT whose record would be appended next. -/
def State.cutNext (s : State) : Bool := (s.ticketEntry.map fun p => p.2.kind == .cut && !p.2.finished).getD false

/-- The Composer can go on from its phase without waiting for an item, a record, a load, a lookup or a code. -/
def State.phaseReady (s : State) : Bool :=
  match s.composer.phase with
  | .idle | .reading | .loading _ | .searching _ => false
  | .begin => !s.cutNext || s.hasRoom 1
  | .hyphen _ => decide (0 < s.store.free)
  | .placing c => s.canPlace c
  | .group g => s.hasRoom (1 + g.leads.length)
  | .lead _ _ => s.hasRoom 1
  | .openCut => !s.composer.galleyContent || s.hasRoom 1
  | .closeCut => s.hasRoom 1
  | .flashScan => s.scanner.held.isNone
  | .testing _ | .choosing _ _ | .contextWrite | .readback | .validWrite _ => true

/-- A load or a lookup is in flight. -/
def State.accessInFlight (s : State) : Bool :=
  match s.composer.phase with
  | .loading _ | .searching _ => true
  | _ => false

/-- The phase the Composer is at is carried out. -/
def State.composerPhase (s : State) : State :=
  match s.composer.phase with
  | .idle | .reading | .loading _ | .searching _ => s
  | .begin => s.beginTicket
  | .testing t => s.testTrigger t
  | .choosing t cs => s.choose t cs
  | .hyphen p => s.hyphenate p
  | .placing c => s.placeCharacter c
  | .group g => s.appendGroup g
  | .lead l n => s.appendLead l n
  | .contextWrite => s.writeContext
  | .openCut => s.makeOpenCut
  | .closeCut => s.makeCloseCut
  | .flashScan => s.makeFlashScan
  | .readback => s.readContext
  | .validWrite r => s.writeValid r

/-- The Composer goes on, with the controller RUNNING, until it must wait. A flash ticket waiting to preempt acts as soon as no
load or lookup is in flight (R38, R85). -/
def State.composerLoop : Nat → State → State
  | 0, s => s
  | n + 1, s =>
    if s.desk.controller ≠ .running ∨ s.accessInFlight = true then s
    else
      match s.composer.preempt with
      | some i => State.composerLoop n (s.preemptFor i)
      | none => if s.phaseReady then State.composerLoop n s.composerPhase else s

/-- How many phases one run can pass at most: every line, cut and flash of it takes a place of the ring, and there are 16. -/
def composerFuel : Nat := 128

/-- The Composer runs until it must wait, and entries that have become complete fall due (R34). -/
def State.composerRun (s : State) : State := (s.composerLoop composerFuel).settle

/-! ### Loads and lookups complete -/

/-- The entry of a CANCEL in progress (R15). -/
def State.cancelWaiting (s : State) : Option (Fin 8) :=
  match s.desk.busy with
  | some (.cancel i) => some i
  | _ => none

/-- The CANCEL in progress waits for the load or the lookup of the ticket being composed, and not for a result write (R15, R47). -/
def State.cancelsComposed (s : State) : Option (Fin 8 × Entry) :=
  s.ticketEntry.filter fun x => s.cancelWaiting == some x.1

/-- The CANCEL in progress waits for the take-up of the ticket being resumed (R15, R45). -/
def State.cancelsResumed (s : State) : Option (Fin 8) :=
  if s.composer.ticket = none ∧ s.cancelWaiting = s.composer.suspended then s.composer.suspended else none

/-- The ticket being composed is stopped by a cancel: its line is discarded, and a routine ticket leaves the state as it stands
(R45, R50). A ticket whose composition had not begun leaves the state carried before it (DESIGN CHOICE, log entry 29). -/
def State.cancelComposed (i : Fin 8) (e : Entry) (s : State) : State :=
  let begun := s.composer.phase != .begin
  let start := if begun then s.composer.lineStart else 0
  let s := s.discardLine.modEntry i fun x => { x with stopOffset := start, finished := true }
  ((if begun && e.kind == .take then s.carry e.cls else s)).leaveTicket e.cls

/-- The ticket being resumed is stopped by a cancel; the restore goes on (R45). -/
def State.cancelResumed (i : Fin 8) (s : State) : State :=
  (s.modEntry i fun x => { x with stopOffset := s.composer.savedOffset, finished := true }).modComposer fun c =>
    { c with suspended := none }

/-- A font code's selection as a cancel that waited for its load finds it: the code acts before the ticket is stopped, so a font that
loaded is in effect in the state it leaves (R51, R56, R104). A load that fails leaves the state as it stands and records no reason
(DESIGN CHOICE, log entry 29). -/
def State.selectionMade (sel : Selection) (r : Option Reason) (s : State) : State :=
  match sel.purpose, r with
  | .code, none => s.fontInEffect sel.font
  | _, _ => s

/-- The width table read in flight completes. A cancel that waits for it and a waiting flash take effect next (R38, R45, R108). -/
def State.loadCompletes (s : State) : State :=
  match s.composer.phase with
  | .loading sel =>
    let (r, s) := s.completeLoad sel
    match s.cancelsComposed, s.cancelsResumed with
    | some (i, e), _ => (((s.selectionMade sel r).cancelComposed i e).endCommand .accepted).composerRun
    | none, some i => (((s.cancelResumed i).endSelection sel.purpose sel.font r).endCommand .accepted).composerRun
    | none, none =>
      if s.composer.preempt.isSome then (s.setPhase .reading).composerRun
      else (s.endSelection sel.purpose sel.font r).composerRun
  | _ => s

/-- What a lookup's outcome leads to (R93). -/
def State.lookupEnds (t : Trigger) (o : Lookup) (s : State) : State :=
  let chars := s.hyphenationChars
  match o with
  | .stop r => s.stopTicket r none
  | .found mask => s.setPhase (.choosing t (kept s.desk.setup chars.length (maskPoints mask)))
  | .notFound => s.setPhase (.choosing t (kept s.desk.setup chars.length (s.hyphenation.pairCandidates chars)))

/-- The dictionary lookup in flight ends (R92, R93). -/
def State.lookupCompletes (s : State) : State :=
  match s.composer.phase with
  | .searching t =>
    let (o, s) := s.lookupWord s.hyphenationChars
    match s.cancelsComposed with
    | some (i, e) => ((s.cancelComposed i e).endCommand .accepted).composerRun
    | none =>
      if s.composer.preempt.isSome then (s.setPhase .reading).composerRun else (s.lookupEnds t o).composerRun
  | _ => s

end Sys2Proof.Machine
end

