-- ==== Sys2Proof/Machine/Codes.lean ====
section
/-! DEFINITION. The take codes (spec 03): how the Composer reads a code with its operands, and what each code does. The codes have no
operands of the table: the Composer reads them from the take in host memory (R51). -/

namespace Sys2Proof.Machine

/-! ### Reading a code (R51, R53) -/

/-- The ticket whose next code the Composer may read: COMPOSING, between codes (R51). -/
def State.readingTicket (s : State) : Option Entry :=
  if s.desk.controller = .running ∧ s.composer.phase = .reading ∧ s.composer.preempt = none then s.ticketEntry.map (·.2) else none

/-- The host address of the byte at the read position. -/
def State.readAddr (s : State) (e : Entry) : Addr := Addr.plus e.takePtr s.composer.readPosition

/-- The byte at the read position. -/
def State.nextByte (s : State) (e : Entry) : Byte := s.byte (s.readAddr e)

/-- The byte after the code at the read position and its operands. -/
def State.codeEnd (s : State) (e : Entry) : Nat := s.composer.readPosition + 1 + operandCount (s.nextByte e)

/-- The Composer would read a byte at the take length: the code's own, or one of its operands (R53). -/
def State.overruns (s : State) (e : Entry) : Bool :=
  decide (e.takeLength ≤ s.composer.readPosition) || decide (e.takeLength < s.codeEnd e)

/-- What a code does: its offset, its byte, its operands, and the state with the read position past it. -/
abbrev CodeAction := Nat → Nat → List Byte → State → State

/-- The code at the read position is read whole and acts; a bus error stops the ticket (R51, R53). -/
def State.readCode (e : Entry) (act : CodeAction) (s : State) : State :=
  let offset := s.composer.readPosition
  let n := operandCount (s.nextByte e)
  match s.busRead (s.readAddr e) 1 with
  | (none, s) => (s.stopTicket .busError none).composerRun
  | (some b, s) =>
    match s.busRead (Addr.plus (s.readAddr e) 1) n with
    | (none, s) => (s.stopTicket .busError none).composerRun
    | (some operands, s) =>
      (act offset (natAt b 0) operands (s.modComposer fun c => { c with readPosition := offset + 1 + n })).composerRun

/-- A row's code: where the byte at the read position is one of the row's and its operands lie within the take, it is read and
acts. -/
def State.takeCode (row : Nat → Bool) (act : CodeAction) (s : State) : State :=
  match s.readingTicket with
  | none => s
  | some e => if row (s.nextByte e).toNat && !s.overruns e then s.readCode e act else s

/-! ### Characters and spaces (R54, R55) -/

/-- The width in fine of units at the set size in effect (R67). -/
def State.unitWidth (s : State) (units : Nat) : Nat := widthOf units s.composer.current.setSize

/-- The code with the character it places, from the slot of the font in effect (R54, R109). -/
def State.characterCode (s : State) (offset code units : Nat) (t : WidthTable) (strip : Half) : LineCode :=
  let c := s.composer.current
  { s.plainCode offset with
    element := some (.glyph
      { kind := .char
        font := c.font
        lens := c.lens
        code := code
        width := s.unitWidth units
        setSize := c.setSize
        hyphenCode := t.hyphenCode
        hyphenUnits := natAt t.widths t.hyphenCode
        strip := strip }) }

/-- A character code: its item is placed, or the fixed en space of an unassigned character (R54). -/
def actCharacter : CodeAction := fun offset code _ s =>
  let (t, strip) := s.fonts.tableOf s.composer.current.font
  let units := (t.widths.getD code 255).toNat
  if units = 255 then s.pushElement offset (.fixed (s.unitWidth 30)) Cond.substituted
  else s.setPhase (.placing (s.characterCode offset code units t strip))

/-- The word space: discarded on an empty line, else a trigger (R55, R86). -/
def actWordSpace : CodeAction := fun offset _ _ s =>
  let t := (s.fonts.tableOf s.composer.current.font).1
  if s.composer.line.isEmpty then s
  else s.setPhase (.testing (.space offset (s.unitWidth t.spaceMin) (s.unitWidth t.spaceOpt) (s.unitWidth t.spaceMax)))

/-- The units of the fixed spaces (R55). -/
def fixedUnits (code : Nat) : Nat := if code = 0x71 then 60 else if code = 0x72 then 30 else 12

/-- The fixed spaces (R55). -/
def actFixedSpace : CodeAction := fun offset code _ s => s.pushElement offset (.fixed (s.unitWidth (fixedUnits code))) 0

/-- The discretionary hyphen (R55). -/
def actDiscretionary : CodeAction := fun offset _ _ s => s.pushCode { s.plainCode offset with discretionary := true }

/-- Fill (R55). -/
def actFill : CodeAction := fun _ _ _ s => s

/-! ### End codes (R52, R61) -/

/-- The quad mode of an end code (R61). -/
def quadOf (code : Nat) : Quad :=
  if code = 0x76 then .center else if code = 0x77 then .right else if code = 0x78 then .justify else .left

/-- The end codes 0x75 to 0x78 (R61). -/
def actEndLine : CodeAction := fun offset code _ s => s.setPhase (.testing (.endCode offset (quadOf code)))

/-- The end of a paragraph (R61). -/
def actEndParagraph : CodeAction := fun offset _ _ s => s.setPhase (.testing (.endParagraph offset))

/-- The end of the take (R52). -/
def actEndOfTake : CodeAction := fun offset _ _ s => s.setPhase (.testing (.endOfTake offset))

/-! ### Film codes (R62, R63) -/

/-- A film code: appended at an empty line, else held, up to 8; the ninth raises BAD CODE (R62, R63). -/
def State.filmCode (l : Lead) (offset : Nat) (s : State) : State :=
  if s.composer.line.isEmpty then s.setPhase (.lead l s.composer.readPosition)
  else if 8 ≤ (heldFilm s.composer.line.codes).length then
    s.pushCode { s.plainCode offset with conditions := Cond.badCode }
  else s.pushCode { s.plainCode offset with film := some l }

/-- A two-byte operand. -/
def operandHalf (operands : List Byte) : Nat := (halfAt operands 0).toNat

/-- Mark column top (R62). -/
def actMark : CodeAction := fun offset _ _ s => s.filmCode .mark offset

/-- Return to mark (R62). -/
def actToMark : CodeAction := fun offset _ _ s => s.filmCode .toMark offset

/-- Reverse lead; an amount of 0 does nothing, and raises no BAD CODE with 8 film codes held (R62, R63; DESIGN CHOICE, log entry 30). -/
def actReverse : CodeAction := fun offset _ ops s =>
  if operandHalf ops = 0 then s else s.filmCode (.reverse (operandHalf ops)) offset

/-- Lead now; an amount of 0 does nothing, and raises no BAD CODE with 8 film codes held (R62, R63; DESIGN CHOICE, log entry 30). -/
def actAdvance : CodeAction := fun offset _ ops s =>
  if operandHalf ops = 0 then s else s.filmCode (.advance (operandHalf ops)) offset

/-! ### Composition commands (R56 to R60) -/

/-- The hyphenation switch (R59). -/
def actHyphenation (on : Bool) : CodeAction := fun offset _ _ s => s.command offset 0 fun c => { c with hyphenation := on }

/-- The font code; an operand above 63 raises BAD CODE (R56). -/
def actFont : CodeAction := fun offset _ ops s =>
  let f := natAt ops 0
  if 63 < f then s.command offset Cond.badCode id
  else (s.command offset 0 id).select f (some s.composer.current.font) .code

/-- The point size code (R57, R110). -/
def actPointSize : CodeAction := fun offset _ ops s =>
  let (k, size, substituted) := substitute s.desk.setup (natAt ops 0)
  s.command offset substituted fun c => { c with pointSize := size, lens := k, setSize := size }

/-- The set size code (R57). -/
def actSetSize : CodeAction := fun offset _ ops s =>
  let n := natAt ops 0
  s.command offset (condIf Cond.clamped (clamp 10 144 n != n)) fun c => { c with setSize := clamp 10 144 n }

/-- The leading code (R58). -/
def actLeading : CodeAction := fun offset _ ops s => s.command offset 0 fun c => { c with leading := natAt ops 0 }

/-- The measure code: the indents are clamped to the new measure (R59). -/
def actMeasure : CodeAction := fun offset _ ops s =>
  let n := operandHalf ops
  let m := min Config.maxMeasure n
  let c := s.composer.current
  s.command offset (condIf Cond.clamped (decide (m < n ∨ m < c.indentLeft ∨ m < c.indentRight))) fun c =>
    { c with measure := m, indentLeft := min m c.indentLeft, indentRight := min m c.indentRight }

/-- The left indent code (R59). -/
def actIndentLeft : CodeAction := fun offset _ ops s =>
  let n := operandHalf ops
  s.command offset (condIf Cond.clamped (decide (s.composer.current.measure < n))) fun c =>
    { c with indentLeft := min c.measure n }

/-- The right indent code (R59). -/
def actIndentRight : CodeAction := fun offset _ ops s =>
  let n := operandHalf ops
  s.command offset (condIf Cond.clamped (decide (s.composer.current.measure < n))) fun c =>
    { c with indentRight := min c.measure n }

/-- The letterspace limit code (R59). -/
def actLetterspace : CodeAction := fun offset _ ops s =>
  let n := natAt ops 0
  s.command offset (condIf Cond.clamped (decide (15 < n))) fun c => { c with letterspace := min 15 n }

/-- Tab stop set; a stop above 15 sets none and raises CLAMPED (R60). -/
def actTabStopSet : CodeAction := fun offset _ ops s =>
  let k := natAt ops 0
  if 15 < k then s.command offset Cond.clamped id
  else s.command offset 0 fun c => { c with tabs := c.tabs.set k (some (halfAt ops 1).toNat) }

/-- Where tab to leads: the stop's position, or VOID for a stop that is undefined or above 15 (R60). -/
def CompState.tabWord (c : CompState) (k : Nat) : MeasureWord :=
  if 15 < k then .void
  else
    match c.tabs.getD k none with
    | some t => .ofTicks t
    | none => .void

/-- Tab to (R60). -/
def actTabTo : CodeAction := fun offset _ ops s => s.pushElement offset (.place (s.composer.current.tabWord (natAt ops 0))) 0

/-- Move to (R60). -/
def actMoveTo : CodeAction := fun offset _ ops s => s.pushElement offset (.place (.ofTicks (operandHalf ops))) 0

/-- Move by (R60). -/
def actMoveBy : CodeAction := fun offset _ ops s => s.pushElement offset (.shift (.ofSignedTicks (halfAt ops 0))) 0

/-- A byte that is no code (R65). -/
def actBadCode : CodeAction := fun offset _ _ s => s.pushCode { s.plainCode offset with conditions := Cond.badCode }

/-! ### The code map (TABLE 12-12) -/

/-- What the code of a byte does (TABLE 12-12). -/
def actionOf (code : Nat) : CodeAction :=
  if code ≤ 0x6F then actCharacter
  else
    match code with
    | 0x70 => actWordSpace
    | 0x71 | 0x72 | 0x73 => actFixedSpace
    | 0x74 => actDiscretionary
    | 0x75 | 0x76 | 0x77 | 0x78 => actEndLine
    | 0x79 => actEndParagraph
    | 0x7A => actMark
    | 0x7B => actToMark
    | 0x7C => actHyphenation false
    | 0x7D => actHyphenation true
    | 0x7E => actFill
    | 0x7F => actEndOfTake
    | 0x80 => actFont
    | 0x81 => actPointSize
    | 0x82 => actSetSize
    | 0x83 => actLeading
    | 0x84 => actReverse
    | 0x85 => actMeasure
    | 0x86 => actIndentLeft
    | 0x87 => actIndentRight
    | 0x88 => actTabStopSet
    | 0x89 => actTabTo
    | 0x8A => actMoveTo
    | 0x8B => actMoveBy
    | 0x8C => actLetterspace
    | 0x8D => actAdvance
    | _ => actBadCode

/-- The take length runs out: the ticket stops (R53). -/
def State.overrun (s : State) : State := (s.stopTicket .takeOverrun none).composerRun

/-- The next code whatever it is: it acts, or the take length runs out in it or at it. Used where an access of the step fails: one of
the code's own (R53), or one of what the Composer does after it. -/
def State.nextCode (s : State) : State :=
  match s.readingTicket with
  | none => s
  | some e =>
    if s.overruns e then
      match s.busRead (s.readAddr e) (e.takeLength - s.composer.readPosition) with
      | (none, s) => (s.stopTicket .busError none).composerRun
      | (some _, s) => s.overrun
    else s.readCode e (actionOf (s.nextByte e).toNat)

end Sys2Proof.Machine
end

