-- ==== Sys2Proof/Machine/Transport.lean ====
section
/-! DEFINITION. The Film Transport and the Motion Channels (spec 08, section 9.3; spec 09): moves, need checks, film movements, cuts
and what the tickets are told. -/

namespace Sys2Proof.Machine

/-! ### Motion Channels (R131, R132) -/

/-- A move starts on a channel: its parameters are those of Setup, the counter is loaded and the busy flag set (R131, R132). -/
def MotionChannel.start (p : MotionSetup) (forward : Bool) (steps : Nat) (_c : MotionChannel) : MotionChannel :=
  ⟨p.rate, p.high, p.low, forward, steps, steps, true, .none⟩

/-- A move ends: the counter is 0 and the busy flag clear (R132, R133). -/
def MotionChannel.ended (c : MotionChannel) : MotionChannel := { c with counter := 0, busy := false }

/-- A reset stops a move: the counter is 0 and the busy flag clear, and nothing is reported (R132). -/
def MotionChannel.stopped (c : MotionChannel) : MotionChannel := { c with counter := 0, busy := false, homing := .none }

/-- The time of one step in units of 0.125 microseconds (R131). -/
def MotionChannel.stepTime (c : MotionChannel) : Nat := (c.high + 1 + c.low + 1) * 2 ^ c.rate

/-- A channel of the three. -/
def Motion.channel (m : Motion) : Channel → MotionChannel
  | .carriage => m.carriage
  | .film => m.film
  | .turret => m.turret

/-- Changes one channel. -/
def Motion.modChannel (m : Motion) (k : Channel) (f : MotionChannel → MotionChannel) : Motion :=
  match k with
  | .carriage => { m with carriage := f m.carriage }
  | .film => { m with film := f m.film }
  | .turret => { m with turret := f m.turret }

/-- The Setup parameters of a channel. -/
def Setup.motion (st : Setup) : Channel → MotionSetup
  | .carriage => st.carriage
  | .film => st.film
  | .turret => st.turret

/-- A move is requested of a channel that is not busy (R132). -/
def State.startChannel (k : Channel) (forward : Bool) (steps : Nat) (s : State) : State :=
  s.modMotion fun m => m.modChannel k (MotionChannel.start (s.desk.setup.motion k) forward steps)

/-! ### The film work of a record -/

/-- The phase of the Exposure Sequencer changes. -/
def State.setEs (p : EsPhase) (s : State) : State := s.modExposure fun x => { x with phase := p }

/-- A report of conditions under the line number of the record at the film cursor (R31, R159). -/
def State.reportFilm (c : Half) (s : State) : State :=
  match s.filmRecord with
  | some r => s.report r.entry r.lineNumber c
  | none => s

/-- New film reported to the ticket of the record at the film cursor (R159). -/
def State.reportDepth (ticks : Nat) (s : State) : State :=
  match s.filmRecord with
  | some r => s.addDepth r.entry ticks
  | none => s

/-- A galley entered for the ticket of the record at the film cursor (R159). -/
def State.reportGalley (galley : Nat) (s : State) : State :=
  match s.filmRecord with
  | some r => s.enterGalley r.entry galley
  | none => s

/-- The reverse floor: max(0, D − 12,000) (R151). -/
def Film.floor (f : Film) : Nat := f.deepest - Config.reverseReach

/-- The new film of a forward lead: the part of it below D (R150). -/
def Film.newFilm (f : Film) (ticks : Nat) : Nat := f.position + ticks - f.deepest

/-- The forward lead a need check is for. -/
def FilmGoal.ticks : FilmGoal → Nat
  | .text n => n
  | .advance n => n
  | .spoil n => n

/-- The need of a forward lead (R152). -/
def Film.need (f : Film) (st : Setup) (ticks : Nat) : Nat :=
  (if f.galleyOpen then 0 else st.leader) + f.newFilm ticks + st.trailer

/-- The film will hold a request (R152). -/
def State.needFits (s : State) (g : FilmGoal) : Bool := decide (s.film.need s.desk.setup g.ticks ≤ s.film.supply)

/-- FILM OUT enters the notice set and the Film Transport waits for a cassette (R152). -/
def State.waitForFilm (g : FilmGoal) (s : State) : State :=
  ((s.modFilm fun f => { f with filmOut := true }).setEs (.needWait g)).noticeSince .film s

/-- The run-out of a cut: from P to D and on by the trailer (R156). -/
def State.runOut (s : State) (c : CutFor) : Movement :=
  .runOut (s.film.deepest - s.film.position + s.desk.setup.trailer) s.desk.setup.trailer c

/-- What follows a need check that the film answers (R130, R143, R144). -/
def State.needPassed (g : FilmGoal) (s : State) : State :=
  match g with
  | .text _ => s.setEs .mount
  | .advance n => s.setEs (.openLead n .advance)
  | .spoil n => s.setEs (.openLead n .spoil)

/-- The need check (R152). A galley split is reported as the check asks for its cut, before the run-out (R159; DESIGN CHOICE, log entry
47). -/
def State.needCheck (g : FilmGoal) (s : State) : State :=
  if s.needFits g then s.needPassed g
  else if s.film.galleyOpen then (s.reportFilm Cond.galleySplit).setEs (.startMove (s.runOut (.split g)))
  else s.waitForFilm g

/-- The galley is opened if it is closed, and the lead asked for (R149). -/
def State.openGalley (ticks : Nat) (lead : LeadFor) (s : State) : State :=
  if s.film.galleyOpen then s.setEs (.startMove (.lead ticks (s.film.newFilm ticks) lead))
  else
    (s.modFilm fun f => { f with galleyOpen := true }).setEs (.startMove (.leader s.desk.setup.leader ticks lead))

/-- The ticks a movement moves. -/
def Movement.ticks : Movement → Nat
  | .leader n _ _ => n
  | .lead n _ _ => n
  | .back n _ => n
  | .runOut n _ _ => n

/-- The film a movement consumes when it starts (R148). -/
def Movement.consumes : Movement → Nat
  | .leader n _ _ => n
  | .lead _ newFilm _ => newFilm
  | .back _ _ => 0
  | .runOut _ trailer _ => trailer

/-- A movement draws film toward the take-up. -/
def Movement.forward : Movement → Bool
  | .back _ _ => false
  | _ => true

/-- A film movement is to start: one of 0 ticks completes at once, and one that finds the take-up absent waits (R148). -/
def State.startMovement (m : Movement) (s : State) : State :=
  if m.ticks = 0 then s.setEs (.moved m)
  else if !s.pins.takeup then s.setEs (.takeupWait m)
  else
    ((s.modFilm fun f => { f with supply := f.supply - m.consumes }).startChannel .film m.forward m.ticks).setEs (.moving m)

/-- A film movement is complete: P and D take their values, and what it was made for goes on (R148 to R151, R156, R159). -/
def State.endMovement (m : Movement) (s : State) : State :=
  match m with
  | .leader _ next lead => s.setEs (.startMove (.lead next (s.film.newFilm next) lead))
  | .lead n newFilm lead =>
    let s := (s.modFilm fun f => { f with position := f.position + n, deepest := max f.deepest (f.position + n) }).reportDepth newFilm
    (match lead with
      | .text => s.setEs .items
      | .spoil => s.setEs .items
      | .advance => s.setEs .finish
      | .toMark => s.setEs .finish)
  | .back _ target => (s.modFilm fun f => { f with position := target }).setEs .finish
  | .runOut _ _ c => (s.modFilm fun f => { f with position := f.deepest }).setEs (.knifeStep c)

/-- A REVERSE record: the target is raised to the reverse floor (R151). -/
def State.reverse (ticks : Nat) (s : State) : State :=
  let floor := s.film.floor
  let raised := decide (s.film.position < floor + ticks)
  let target := if raised then floor else s.film.position - ticks
  (if raised then s.reportFilm Cond.reverseLimited else s).setEs (.startMove (.back (s.film.position - target) target))

/-- A TO MARK record (R151). -/
def State.returnToMark (s : State) : State :=
  match s.film.mark with
  | none => (s.reportFilm Cond.reverseLimited).setEs .finish
  | some m =>
    let target := max s.film.floor m
    let s := if m < s.film.floor then s.reportFilm Cond.reverseLimited else s
    if s.film.position < target then
      s.setEs (.startMove (.lead (target - s.film.position) (s.film.newFilm (target - s.film.position)) .toMark))
    else s.setEs (.startMove (.back (s.film.position - target) target))

/-- A LEAD record is handed to the Film Transport (R144, R151). -/
def State.leadRecord (l : Lead) (s : State) : State :=
  match l with
  | .mark => (s.modFilm fun f => { f with mark := some f.position }).setEs .finish
  | .toMark => s.returnToMark
  | .reverse n => s.reverse n
  | .advance n => s.setEs (.need (.advance n))

/-- A CUT record is handed to the Film Transport; with the galley closed it completes at once (R156). -/
def State.cutRecord (s : State) : State :=
  if s.film.galleyOpen then s.setEs (.startMove (s.runOut .record)) else s.setEs .finish

/-! ### The knife (R156 to R158) -/

/-- KNIFE is asserted with its 500 ms (R156, R157). -/
def State.assertKnife (s : State) : State := s.modFilm fun f => { f with knife := true, knifeTimer := 500 }

/-- KNIFE is released. -/
def State.releaseKnife (s : State) : State := s.modFilm fun f => { f with knife := false, knifeTimer := 0 }

/-- The galley number after a cut: from 65,535 to 1 (R156). -/
def nextGalley (n : Nat) : Nat := if n = 65535 then 1 else n + 1

/-- KNIFE DONE is seen: the galley closes (R156, R158). -/
def State.closeGalley (s : State) : State :=
  s.releaseKnife.modFilm fun f =>
    { f with galleyNumber := nextGalley f.galleyNumber, position := 0, deepest := 0, mark := none, galleyOpen := false }

/-- The CUT record at the film cursor is of class FLASH-OPEN (R159). -/
def State.flashOpenCut (s : State) : Bool :=
  match s.filmRecord with
  | some r => r.work == .cut .flashOpen
  | none => false

/-- A cut completes (R152, R156, R159). -/
def State.completeCut (c : CutFor) (s : State) : State :=
  match c with
  | .record =>
    let cut := s.film.galleyNumber
    (if s.flashOpenCut then s.closeGalley else s.closeGalley.reportGalley cut).setEs .finish
  | .split g => s.closeGalley.waitForFilm g

end Sys2Proof.Machine
end

