-- ==== Sys2Proof/Machine/Exposure.lean ====
section
/-! DEFINITION. The Exposure Sequencer (spec 08): the steps of a record, positioning, the flash, the cover and the waits. One call
of `exposurePhase` carries out one phase that is left at once; `exposureRun` goes on to the next wait. -/

namespace Sys2Proof.Machine

/-! ### The record in hand -/

/-- The items of the record at the film cursor. -/
def State.filmItems (s : State) : List Item :=
  match s.filmRecord with
  | some r => (match r.work with | .text _ items _ => items | _ => [])
  | none => []

/-- The font set of the record at the film cursor. -/
def State.filmFonts (s : State) : List (Nat × Half) :=
  match s.filmRecord with
  | some r => (match r.work with | .text _ _ fonts => fonts | _ => [])
  | none => []

/-- The leading of the record at the film cursor, in ticks. -/
def State.filmLeading (s : State) : Nat :=
  match s.filmRecord with
  | some r => (match r.work with | .text leading _ _ => leading | _ => 0)
  | none => 0

/-- The record in hand has exposable items (R143). -/
def State.hasExposable (s : State) : Bool := s.filmItems.any Item.exposable

/-- The item being exposed. -/
def State.currentItem (s : State) : Option Item := s.filmItems[s.exposure.item]?

/-! ### The mount check (R116, R117, R130, R143) -/

/-- A record whose mount check has passed goes on (R130, R143). -/
def State.afterMount (s : State) : State :=
  match s.exposure.mountNext with
  | .leading => s.setEs (.openLead s.filmLeading .text)
  | .items => s.setEs .items
  | .spoilGap => s.setEs (.need (.spoil s.desk.setup.spoilGap))

/-- The mount check: PASS fixes the tracks and clears the MOUNT condition, MISSING raises or changes it, and `next` is what
a PASS leads to (R116, R117). -/
def State.mountCheck (next : State → State) (s : State) : State :=
  match s.fonts.check s.filmItems s.filmFonts with
  | .pass tracks =>
    next (((s.modExposure fun x => { x with tracks := tracks, coverSeen := false }).modNotices
      fun n => { n with mount := none }).noticeSince .photoUnit s)
  | .wait => s.setEs .mountWait
  | .missing font strip position =>
    ((s.modNotices fun n => { n with mount := some (font, strip, position) }).setEs .mountWait).noticeSince .photoUnit s

/-- Step 2 of R130: the mount check, or COVER OPEN where the cover has opened since the record was taken and is still open (R143). -/
def State.mountStep (s : State) : State :=
  if s.hasExposable && s.exposure.coverSeen && s.pins.coverOpen then s.setEs .mountWait else s.mountCheck State.afterMount

/-- A scan has completed: a record waiting on its mount check is checked again; halted, a PASS waits for RESUME (R115, R116,
R145). -/
def State.recheckMount (s : State) : State :=
  if s.exposure.phase = .mountWait then
    s.mountCheck fun s => if s.desk.controller = .running then s.afterMount else s.setEs .mountReady
  else s

/-! ### Positioning (R134 to R136) -/

/-- A move of the carriage to a tick, where one is needed and the channel is free (R132, R134). -/
def State.moveCarriage (tick : Nat) (s : State) : State :=
  let c := s.exposure.carriageAt.getD 0
  if s.motion.carriage.busy || c == tick then s
  else s.startChannel .carriage (decide (c < tick)) (if c < tick then tick - c else c - tick)

/-- The forward distance of the turret from `p` to `l` (R134). -/
def turretDistance (p l : Fin 8) : Nat := (l.val + 8 - p.val) % 8

/-- A move of the turret to a lens position, where one is needed and the channel is free (R132, R134). -/
def State.moveTurret (lens : Fin 8) (s : State) : State :=
  let d := turretDistance (s.exposure.turretAt.getD 0) lens
  if s.motion.turret.busy || d == 0 then s
  else if d ≤ 4 then s.startChannel .turret true (d * 400)
  else s.startChannel .turret false ((8 - d) * 400)

/-- The track position fixed for a font at the mount check (R116). -/
def Exposure.trackOf (x : Exposure) (font : Nat) : Fin 8 := ((x.tracks.find? fun t => t.1 == font).map (·.2)).getD 0

/-- The drum track is selected, the band-read qualifier clear; a track already settled needs nothing (R135). -/
def State.selectTrack (t : Fin 8) (s : State) : State :=
  if s.exposure.track = some t ∧ s.exposure.settled = true then s
  else
    (s.modExposure fun x => { x with track := some t, settled := false }).modDrum fun d =>
      { d with trackOut := t, bandRead := false }

/-- The selection becomes unselected (R135). -/
def State.unselectTrack (s : State) : State := s.modExposure fun x => { x with track := none, settled := false }

/-- The carriage, the turret and the track are in place for an item (R136). -/
def State.positioned (s : State) (it : Item) : Bool :=
  !s.motion.carriage.busy && !s.motion.turret.busy && s.exposure.carriageAt.getD 0 == it.tick
    && s.exposure.turretAt.getD 0 == it.lens && s.exposure.settled

/-- DRUM WAIT is entered with a timer of 2 s (R142). -/
def State.enterDrumWait (s : State) : State :=
  s.modExposure fun x => { x with phase := .drumWait, drumTimer := 2000, flashTimer := 0 }

/-- FLASHING for the item in hand, or DRUM WAIT while the drum is not RUNNING (R136, R142). -/
def State.enterFlashing (s : State) : State :=
  if s.drum.state = .running then s.modExposure fun x => { x with phase := .flashing .awaiting, drumTimer := 0 }
  else s.enterDrumWait

/-- POSITIONING goes on: moves still needed are started, and when all is in place the item is FLASHING (R136). -/
def State.position (s : State) : State :=
  match s.currentItem with
  | none => s
  | some it =>
    let s := (s.moveCarriage it.tick).moveTurret it.lens
    if s.positioned it then s.enterFlashing else s.setEs .positioning

/-- The next exposable item at or after the item index is positioned, or the record is to be finished (R130, R136). -/
def State.nextItem (s : State) : State :=
  match (s.filmItems.drop s.exposure.item).findIdx? Item.exposable with
  | none => s.setEs .finish
  | some k =>
    let s := s.modExposure fun x => { x with item := x.item + k }
    match s.currentItem with
    | none => s.setEs .finish
    | some it => (s.selectTrack (s.exposure.trackOf it.font)).position

/-- Step 4 of R130 begins, or waits for the mount check that a cover opening makes due: COVER OPEN or MOUNT WAIT, up to the next
completion of an ID scan (R116, R143; log entry 18). -/
def State.beginItems (s : State) : State :=
  if s.hasExposable && s.exposure.coverSeen then
    s.modExposure fun x => { x with mountNext := .items, coverSeen := false, phase := .mountWait }
  else s.modExposure fun x => { x with item := 0, begun := false, phase := .nextItem }

/-! ### Finishing (R130, R144) -/

/-- The record is finished on film: a TEXT record enters the galley, and the film cursor moves on (R123, R130, R159). -/
def State.finishRecord (s : State) : State :=
  let text := match s.filmRecord with | some r => (match r.work with | .text _ _ _ => true | _ => false) | none => false
  let s := if text then s.reportGalley s.film.galleyNumber else s
  (s.modExposure fun x => { x with phase := .idle, item := 0, tracks := [], begun := false, coverSeen := false }).passFilm

/-! ### The run of the Exposure Sequencer -/

/-- A phase that is left in the step that enters it. -/
def EsPhase.atOnce : EsPhase → Bool
  | .need _ | .mount | .openLead _ _ | .startMove _ | .moved _ | .items | .nextItem | .knifeStep _ | .finish => true
  | .idle | .needWait _ | .mountWait | .mountReady | .takeupWait _ | .moving _ | .positioning | .flashing _ | .coverHold
  | .drumWait | .knife _ | .knifeHeld _ => false

/-- One phase that is left at once is carried out. -/
def State.exposurePhase (s : State) : State :=
  match s.exposure.phase with
  | .need g => s.needCheck g
  | .mount => s.mountStep
  | .openLead n l => s.openGalley n l
  | .startMove m => s.startMovement m
  | .moved m => s.endMovement m
  | .items => s.beginItems
  | .nextItem => s.nextItem
  | .knifeStep c => s.assertKnife.setEs (.knife c)
  | .finish => s.finishRecord
  | .idle | .needWait _ | .mountWait | .mountReady | .takeupWait _ | .moving _ | .positioning | .flashing _ | .coverHold
  | .drumWait | .knife _ | .knifeHeld _ => s

/-- The Exposure Sequencer goes on until it waits. A halt does not stop it between waits (R145). -/
def State.exposureLoop : Nat → State → State
  | 0, s => s
  | n + 1, s => if s.exposure.phase.atOnce then State.exposureLoop n s.exposurePhase else s

/-- How many phases can follow one another without a wait: a record passes each of its steps at most once. -/
def exposureFuel : Nat := 32

/-- The Exposure Sequencer runs to its next wait. -/
def State.exposureRun (s : State) : State := s.exposureLoop exposureFuel

/-- The record before the film cursor is skipped (R124), or taken (R129, R130, R144). -/
def State.takeFilmRecord (s : State) : State :=
  match s.filmRecord with
  | none => s
  | some r =>
    if r.withdrawn || !r.toFilm then s.passFilm
    else
      let s := (s.modStore fun l => { l with film := { l.film with holding := true } }).modExposure fun x =>
        { x with item := 0, tracks := [], begun := false, coverSeen := false, mountNext := .leading }
      (match r.work with
        | .text leading _ _ => s.setEs (.need (.text leading))
        | .lead l => s.leadRecord l
        | .cut _ => s.cutRecord).exposureRun

/-! ### The drum and the cover (R142, R143) -/

/-- The drum leaves RUNNING: FLASHING before its pulse goes to DRUM WAIT (R142). -/
def State.drumLeft (s : State) : State :=
  match s.exposure.phase with
  | .flashing .awaiting => s.enterDrumWait
  | .flashing .delay => s.enterDrumWait
  | _ => s

/-- The drum becomes RUNNING: the DRUM condition clears, and DRUM WAIT ends unless the controller is HALTED (R142, R145). -/
def State.drumRuns (s : State) : State :=
  let s := (s.modNotices fun n => { n with drum := false }).noticeSince .photoUnit s
  if s.exposure.phase = .drumWait ∧ s.desk.controller = .running then s.enterFlashing else s

/-- A drum event of the count an item awaits: with the lamp ready, the drum RUNNING, the cover closed and the table confirmed, the
flash delay starts (R137). -/
def State.flashEvent (count : Nat) (s : State) : State :=
  match s.exposure.phase, s.currentItem with
  | .flashing .awaiting, some it =>
    if it.code = count ∧ s.exposure.lampTimer = 0 ∧ s.drum.state = .running ∧ s.pins.coverOpen = false
        ∧ s.fonts.confirmed = true then
      s.modExposure fun x => { x with phase := .flashing .delay, flashTimer := s.desk.setup.flashDelay }
    else s
  | _, _ => s

/-- The FLASH pulse begins: the flash count rises, the drum position is stamped, and the exposure is begun (R111, R137). -/
def State.fireFlash (s : State) : State :=
  match s.exposure.phase, s.currentItem, s.exposure.track with
  | .flashing .delay, some it, some t =>
    if s.drum.state = .running ∧ s.pins.coverOpen = false then
      (s.modFonts fun c => c.flashed t).modExposure fun x =>
        { x with phase := .flashing .pulse, begun := true, flashTimer := s.desk.setup.flashLength[it.lens] }
    else s
  | _, _, _ => s

/-- The FLASH pulse ends, at its length or cut short: the lamp-ready timer starts (R138). -/
def State.endPulse (s : State) : State :=
  s.modExposure fun x => { x with lampTimer := s.desk.setup.lampRecharge, flashTimer := 0 }

/-- The moves in flight at a cover opening have completed: the record waits for its mount check (R143). -/
def State.endCoverHold (s : State) : State :=
  if s.exposure.phase = .coverHold ∧ s.motion.carriage.busy = false ∧ s.motion.turret.busy = false then
    s.setEs .mountWait
  else s

/-- The cover opens on a record at step 4: a flash is cut short or abandoned, and a line begun is spoiled (R143). -/
def State.spoilLine (s : State) : State :=
  let s := if s.exposure.phase = .flashing .pulse then s.endPulse else s
  let s := if s.exposure.begun then s.reportFilm Cond.spoiled else s
  (s.modExposure fun x =>
    { x with
      mountNext := if x.begun then .spoilGap else .items
      begun := false
      flashTimer := 0
      drumTimer := 0
      phase := .coverHold }).endCoverHold

/-- What the Exposure Sequencer does when the cover opens; a record whose check passed during a halt waits for a check again (R143,
R145). -/
def State.coverOpens (s : State) : State :=
  match s.exposure.phase with
  | .positioning => s.spoilLine
  | .flashing _ => s.spoilLine
  | .drumWait => s.spoilLine
  | .mountReady => s.setEs .mountWait
  | _ => s.modExposure fun x => { x with coverSeen := true }

/-! ### Held waits at RESUME (R12, R145) -/

/-- The wait of the Exposure Sequencer at RESUME: it goes on if the ending event has come, and a held knife step is made
again. -/
def State.exposureResumes (s : State) : State :=
  match s.exposure.phase with
  | .needWait g => if s.film.filmOut then s else (s.needPassed g).exposureRun
  | .takeupWait m => (s.startMovement m).exposureRun
  | .mountReady => s.afterMount.exposureRun
  | .knifeHeld c => (s.setEs (.knifeStep c)).exposureRun
  | .drumWait => s.enterFlashing
  | _ => s

end Sys2Proof.Machine
end

