-- ==== Sys2Proof/Machine/DrumMonitor.lean ====
section
/-! DEFINITION. The Drum Monitor (spec 08, section 9.6) and the ID scan (spec 06, section 7.5). -/

namespace Sys2Proof.Machine

/-- The tolerance of the interval test (R140). -/
def tolerance (nominal : Nat) : Nat := nominal * 6 / 100

/-- An interval is in step with a nominal one (R140). -/
def intervalInStep (nominal interval : Nat) : Bool :=
  decide (nominal ≤ interval + tolerance nominal) && decide (interval ≤ nominal + tolerance nominal)

/-- The interval ending at a drum event, from the time since the last one: the counter stops at 0 (R140). -/
def intervalOf (elapsed : Nat) : Nat := min elapsed 4095

/-- An ID scan is due: the flag is clear, the controller is RUNNING or HALTED, and the cover is closed. A cover that opens makes the scan
due again only once it has closed; that none is due either with a cover open since before START is read from that (R113, R118; DEDUCED,
log entry 33). -/
def State.scanDue (s : State) : Bool := !s.fonts.confirmed && s.desk.controller != .stopped && !s.pins.coverOpen

/-- The filtered levels at a rising edge of MARK, with the level of INDEX then (R139). -/
def Drum.markHigh (d : Drum) (index : Bool) : Drum := { d with markLevel := true, indexLevel := index }

/-- The filtered levels at a rising edge of INDEX: the pulse of the mark before it has ended (R139; log entry 12). -/
def Drum.indexHigh (d : Drum) : Drum := { d with markLevel := false, indexLevel := true }

/-- The drum state becomes another: what a change out of or into RUNNING does to the Exposure Sequencer (R142). -/
def State.setDrumState (d : DrumState) (s : State) : State :=
  let was := s.drum.state
  let s := s.modDrum fun x => { x with state := d }
  if was = .running ∧ d ≠ .running then s.drumLeft
  else if was ≠ .running ∧ d = .running then s.drumRuns
  else s

/-- An ID scan begins at an index: position 0 is selected with the band-read qualifier (R113, R114, R135). -/
def State.beginIdScan (s : State) : State :=
  (s.setDrumState .scanning).modDrum fun d =>
    { d with secondRevolution := false, readings := Vector.replicate 8 0, trackOut := 0, bandRead := true }

/-- A scan ends, completed or abandoned: the qualifier is cleared and the track unselected (R135). -/
def State.endIdScan (s : State) : State :=
  (s.modDrum fun d => { d with bandRead := false, secondRevolution := false }).unselectTrack

/-- A scan in flight is abandoned, and the drum goes to a state (R113, R141). -/
def State.leaveScan (d : DrumState) (s : State) : State :=
  if s.drum.state = .scanning then s.endIdScan.setDrumState d else s.setDrumState d

/-- A scan completes: the Mount Table is replaced and confirmed, and a waiting record is checked again (R115). -/
def State.completeIdScan (s : State) : State :=
  let readings := s.drum.readings
  (((s.endIdScan.setDrumState .running).modFonts fun c => c.scanned readings).recheckMount).exposureRun

/-- The states an in-step index leads to: RUNNING or a scan at the close of a qualifying revolution, a scan that is due, or the
scan's second revolution or end (TABLE 9-2). -/
def State.indexInStep (s : State) : State :=
  match s.drum.state with
  | .stopped => s.setDrumState .syncing
  | .syncing =>
    if s.drum.qualifying then (if s.scanDue then s.beginIdScan else s.setDrumState .running) else s
  | .running => if s.scanDue then s.beginIdScan else s
  | .scanning =>
    if s.drum.secondRevolution then s.completeIdScan
    else s.modDrum fun d => { d with secondRevolution := true, trackOut := 4 }

/-- An out-of-step event other than the watch: the drum goes to or stays in SYNCING (TABLE 9-2). -/
def State.outOfStep (s : State) : State := s.leaveScan .syncing

/-- An index (R139 to R141): tested for step, it sets the mark count to 0 and a qualifying revolution begins at it. One that is
out of step puts a RUNNING drum in SYNCING also while an ID scan is due (DESIGN CHOICE, log entry 39). -/
def State.drumIndex (nominal elapsed : Nat) (s : State) : State :=
  let inStep := (s.drum.state == .stopped || intervalInStep nominal (intervalOf elapsed)) && s.drum.markCount == 111
  let awaiting := s.exposure.phase == .flashing .awaiting
  let s := s.modDrum fun d => { d.indexHigh with markCount := 0, intervalCounter := 4095 }
  let s := if inStep then s.indexInStep else s.outOfStep
  let s := s.modDrum fun d => { d with qualifying := true }
  if awaiting then s.flashEvent 0 else s

/-- The INDEX level at a mark of a scan is one bit of a reading, where the mark lies in a read window (R114). -/
def Drum.readBand (d : Drum) (count : Nat) (level : Bool) : Drum :=
  let k := count / 28
  let off := count % 28
  let position := (if d.secondRevolution then 4 else 0) + k
  if h : position < 8 then
    if 8 ≤ off ∧ off ≤ 23 then
      { d with readings := d.readings.set position (if level then d.readings[position] ||| bit (off - 8) else d.readings[position]) }
    else if off = 0 then { d with trackOut := ⟨position, h⟩ }
    else d
  else d

/-- A mark (R139 to R141): it raises the mark count; one at count 111 means an index was missed, and the count stands until the
next index. -/
def State.drumMark (nominal elapsed : Nat) (level : Bool) (s : State) : State :=
  let missed := s.drum.markCount == 111
  let inStep := (s.drum.state == .stopped || intervalInStep nominal (intervalOf elapsed)) && !missed
  let count := if missed then 111 else s.drum.markCount + 1
  let awaiting := s.exposure.phase == .flashing .awaiting
  let s := s.modDrum fun d =>
    { d.markHigh level with markCount := count, intervalCounter := 4095 }
  let s :=
    if inStep then
      match s.drum.state with
      | .stopped => (s.setDrumState .syncing).modDrum fun d => { d with qualifying := false }
      | .scanning => s.modDrum fun d => d.readBand count level
      | .syncing => s
      | .running => s
    else s.outOfStep.modDrum fun d => { d with qualifying := false }
  if awaiting then s.flashEvent count else s

/-- The watch: no drum event for 4,095 microseconds (R140, R141). Both filtered levels are low by then (log entry 12). -/
def State.drumStops (s : State) : State :=
  (s.leaveScan .stopped).modDrum fun d => { d with intervalCounter := 0, qualifying := false, markLevel := false, indexLevel := false }

/-- The INDEX edge is band data: the drum is SCANNING and the mark count is from 1 to 110 (R114, R139). -/
def Drum.bandData (d : Drum) : Bool := d.state == .scanning && decide (1 ≤ d.markCount ∧ d.markCount ≤ 110)

end Sys2Proof.Machine
end

