-- ==== Sys2Proof/Machine/Proofing.lean ====
section
/-! DEFINITION. The Proof Renderer (spec 10): drawing records into the band buffers, sending bands to the printer, the printer's
readiness, and dropping. -/

namespace Sys2Proof.Machine

/-! ### Cells and bands -/

/-- A row with every column set (R161). -/
def solidRow : BitVec 1152 := BitVec.allOnes 1152

/-- Eight columns from `column` on, from the bits of a byte (R163, TABLE 12-11). -/
def cells (b : Byte) (column : Nat) : BitVec 1152 := (b.setWidth 1152) <<< column

/-- The columns from `lo` to `hi` (R164). -/
def columnSpan (lo hi : Nat) : BitVec 1152 :=
  BitVec.ofNat 1152 ((2 ^ (hi + 1 - lo) - 1) * 2 ^ lo)

/-- Sets cells of one row of a plane. -/
def Plane.orRow (p : Plane) (row : Nat) (c : BitVec 1152) : Plane :=
  if h : row < 16 then p.set row (p[row] ||| c) else p

/-- The buffer is OPEN for a band. -/
def Band.isOpen (b : Band) (k : Nat) : Bool := b.state == .opened k

/-- Changes the buffer that is OPEN for a band. -/
def ProofRenderer.modOpen (p : ProofRenderer) (k : Nat) (f : Band → Band) : ProofRenderer :=
  if p.bandA.isOpen k then { p with bandA := f p.bandA }
  else if p.bandB.isOpen k then { p with bandB := f p.bandB }
  else p

/-- Sets ink cells of a proof row. -/
def ProofRenderer.ink (row : Nat) (c : BitVec 1152) (p : ProofRenderer) : ProofRenderer :=
  p.modOpen (row / 16) fun b => { b with ink := b.ink.orRow (row % 16) c }

/-- Sets invert cells of a proof row. -/
def ProofRenderer.invert (row : Nat) (c : BitVec 1152) (p : ProofRenderer) : ProofRenderer :=
  p.modOpen (row / 16) fun b => { b with invert := b.invert.orRow (row % 16) c }

/-- The printed cells of a row of a band: ink exclusive-or invert (R164). -/
def Band.printed (b : Band) (row : Nat) : BitVec 1152 :=
  if h : row < 16 then b.ink[row] ^^^ b.invert[row] else 0

/-- Every printed cell is 0 (R166). -/
def Band.blank (b : Band) : Bool := (List.range 16).all fun r => b.printed r == 0

/-! ### Getting bands (R165) -/

/-- The buffer for one band: the one that is OPEN for it, or the lower-lettered FREE one, cleared. None when it must wait. -/
def ProofRenderer.openBand (k : Nat) (p : ProofRenderer) : Option ProofRenderer :=
  if p.bandA.isOpen k || p.bandB.isOpen k then some p
  else if p.bandA.state = .free then some { p with bandA := ⟨.opened k, Plane.clear, Plane.clear⟩ }
  else if p.bandB.state = .free then some { p with bandB := ⟨.opened k, Plane.clear, Plane.clear⟩ }
  else none

/-- The buffers for bands in increasing order: those opened stay open. True when every one is had. -/
def ProofRenderer.openBands : List Nat → ProofRenderer → Bool × ProofRenderer
  | [], p => (true, p)
  | k :: rest, p =>
    match p.openBand k with
    | some p => ProofRenderer.openBands rest p
    | none => (false, p)

/-! ### Baseline moves (R166) -/

/-- A buffer at a baseline move: an OPEN band wholly above the new glyph top becomes READY, or FREE when it is blank. -/
def Band.afterMove (b : Band) (baseline : Nat) : Band :=
  match b.state with
  | .opened k =>
    if 16 * k + 15 + 9 < baseline then (if b.blank then Band.initial else { b with state := .ready k }) else b
  | _ => b

/-- The baseline rises (R161, R166). -/
def ProofRenderer.rise (rows : Nat) (p : ProofRenderer) : ProofRenderer :=
  let b := p.baseline + rows
  { p with baseline := b, bandA := p.bandA.afterMove b, bandB := p.bandB.afterMove b }

/-- The rise of a proof cut: 48 rows, and on to the next row 12 of a band (R162). -/
def cutRise (baseline : Nat) : Nat := 48 + (28 - (baseline + 48) % 16) % 16

/-! ### Drawing a record (R161 to R164) -/

/-- The exposable items of the record at the proof cursor, and its conditions. -/
def State.proofItems (s : State) : List Item × Half :=
  match s.proofRecord with
  | some r => (match r.work with | .text _ items _ => (items.filter Item.exposable, r.conditions) | _ => ([], 0))
  | none => ([], 0)

/-- The proof column of an item (R163). -/
def Item.column (i : Item) : Nat := i.tick / 16

/-- A glyph is drawn at the baseline (R163). -/
def ProofRenderer.drawGlyph (p : ProofRenderer) (i : Item) : ProofRenderer :=
  (List.range 12).foldl (fun p j => p.ink (p.baseline - 9 + j) (cells (byteAt p.glyphs (12 * i.code + j)) i.column)) p

/-- The highlight of a record: a bar over its items' columns on the rows of its line (R164). -/
def ProofRenderer.highlight (p : ProofRenderer) (items : List Item) : ProofRenderer :=
  match items.map Item.column with
  | [] => p
  | c :: rest =>
    let span := columnSpan (rest.foldl min c) (rest.foldl max c + 7)
    (List.range 12).foldl (fun p j => p.invert (p.baseline - 9 + j) span) p

/-- The glyphs and highlight of the record in hand (R163, R164). -/
def ProofRenderer.drawText (mask : Half) (items : List Item) (conditions : Half) (p : ProofRenderer) : ProofRenderer :=
  let p := items.foldl ProofRenderer.drawGlyph p
  if conditions &&& mask &&& Cond.highlightable ≠ 0 then p.highlight items else p

/-- The bands one drawing needs (R165). -/
def bandsNeeded (s : State) : DrawOp → List Nat
  | .solid below => (below.map fun d => (s.proof.baseline + d) / 16).eraseDups
  | .glyphs =>
    if s.proofItems.1.isEmpty then [] else [(s.proof.baseline - 9) / 16, (s.proof.baseline + 2) / 16].eraseDups
  | .rise _ | .cutRise | .separatorDone => []

/-- One drawing or move, its bands being held. -/
def State.drawOp (s : State) : DrawOp → State
  | .rise n => s.modProof (ProofRenderer.rise n)
  | .solid below => s.modProof fun p => below.foldl (fun p d => p.ink (p.baseline + d) solidRow) p
  | .glyphs => s.modProof (ProofRenderer.drawText s.desk.setup.highlightMask s.proofItems.1 s.proofItems.2)
  | .cutRise => s.modProof fun p => p.rise (cutRise p.baseline)
  | .separatorDone => s.modProof fun p => { p with separatorDue := false }

/-- The separator (R161, R171). -/
def separatorOps : List DrawOp := [.solid [3], .rise 14]

/-- What a record draws and moves (R161, R162). -/
def drawOpsOf : Work → List DrawOp
  | .text leading _ _ => [.rise (rowsOf leading), .glyphs]
  | .lead (.advance n) => [.rise (rowsOf n)]
  | .lead (.reverse _) => separatorOps
  | .lead .toMark => separatorOps
  | .lead .mark => []
  | .cut _ => [.solid [3, 4, 5], .cutRise]

/-- The record in hand is finished or passed on the proof side (R123). -/
def State.leaveProofRecord (s : State) : State := (s.modProof fun p => { p with drawing := none }).passProof

/-- Drawing goes on until the record is finished or a band must be waited for; halted, it takes freed buffers without drawing
(R161, R165, R172). -/
def State.drawOps : List DrawOp → State → State
  | [], s => s.leaveProofRecord
  | op :: rest, s =>
    let (ok, p) := s.proof.openBands (bandsNeeded s op)
    let s := s.modProof fun _ => { p with drawing := some ⟨op :: rest, false⟩ }
    if ok && s.desk.controller == .running then State.drawOps rest (s.drawOp op) else s

/-- The record in hand, if any, is gone on with (R165). -/
def State.drawOn (s : State) : State :=
  match s.proof.drawing with
  | some d => if d.lost then s else s.drawOps d.ops
  | none => s

/-! ### Sending (R167, R168) -/

/-- The number of advance pairs before a band (R167). -/
def advancePairs (advance : Nat) : Nat := (advance + 254) / 255

/-- The row byte of an advance pair: 255, and the rows left in the last one (R167). -/
def advanceByte (advance pair : Nat) : Nat :=
  if pair + 1 < advancePairs advance then 255 else advance - 255 * (advancePairs advance - 1)

/-- The bytes of a band with its advance (R167). -/
def Sending.total (x : Sending) : Nat := 2 * advancePairs x.advance + 2305

/-- The byte of a column of a band: its upper or its lower eight rows, the upper row in bit 0 (R167). -/
def Band.columnByte (b : Band) (column : Nat) (lower : Bool) : Byte :=
  (List.range 8).foldl
    (fun acc r => if (b.printed ((if lower then 8 else 0) + r)).getLsbD column then acc ||| (1#8 <<< r) else acc) 0

/-- The buffer being sent. -/
def ProofRenderer.printing (p : ProofRenderer) (k : Nat) : Band := if p.bandA.state = .printing k then p.bandA else p.bandB

/-- The byte of a sending at its place: the advance pairs, the band code, then two bytes a column (R167). -/
def ProofRenderer.sendingByte (p : ProofRenderer) (x : Sending) : Byte :=
  let pairs := 2 * advancePairs x.advance
  if x.sent < pairs then (if x.sent % 2 = 0 then 0xB2 else BitVec.ofNat 8 (advanceByte x.advance (x.sent / 2)))
  else if x.sent = pairs then 0xB1
  else
    let j := x.sent - pairs - 1
    let column := if x.mirror then 1151 - j / 2 else j / 2
    (p.printing x.band).columnByte column (j % 2 == 1)

/-- The printer cannot take a byte (R168). -/
def State.printerHolds (s : State) : Bool := s.pins.pbusy || s.pins.pfault

/-- The Proof Renderer is in PRINTER WAIT: a byte is driven and waits (R168). -/
def State.printerWait (s : State) : Bool := s.proof.sending.isSome && s.printerHolds

/-- The next byte is driven; a wait that begins with it loads the printer timer (R168), from the proof timeout that was in Setup when
the band began to be sent or at the last RESUME (R13; DESIGN CHOICE, log entry 36). -/
def State.driveByte (s : State) : State :=
  match s.proof.sending with
  | none => s
  | some x =>
    s.modProof fun p => { p with port := p.sendingByte x, timer := if s.printerHolds then x.timeout else 0 }

/-- The READY bands of the two buffers. -/
def ProofRenderer.readyBands (p : ProofRenderer) : List Nat :=
  [p.bandA, p.bandB].filterMap fun b => match b.state with | .ready k => some k | _ => none

/-- The lowest READY band (R167). -/
def ProofRenderer.nextReady (p : ProofRenderer) : Option Nat :=
  match p.readyBands with
  | [] => none
  | k :: rest => some (rest.foldl min k)

/-- A buffer READY for a band becomes PRINTING. -/
def Band.startPrinting (b : Band) (k : Nat) : Band := if b.state = .ready k then { b with state := .printing k } else b

/-- Sending takes the lowest READY band, unless one is being sent or the controller is HALTED (R167, R172). -/
def State.sendNext (s : State) : State :=
  if s.desk.controller = .running ∧ s.proof.sending = none then
    match s.proof.nextReady with
    | none => s
    | some k =>
      (s.modProof fun p =>
        { p with
          bandA := p.bandA.startPrinting k
          bandB := p.bandB.startPrinting k
          sending := some ⟨k, 16 * k - p.printerRow, 0, s.desk.setup.proofMirror, s.desk.setup.proofTimeout⟩ }).driveByte
  else s

/-- Drawing goes on, then sending begins where a band is ready. -/
def State.proofRun (s : State) : State := s.drawOn.sendNext

/-- A buffer PRINTING a band becomes FREE with clear planes. -/
def Band.sent (b : Band) (k : Nat) : Band := if b.state = .printing k then Band.initial else b

/-- The last byte of a band has been sent (R167). PD0-7 keep it until another band's first byte is driven (DESIGN CHOICE, log entry 7). -/
def ProofRenderer.bandSent (k : Nat) (p : ProofRenderer) : ProofRenderer :=
  { p with
    printerRow := 16 * k + 16
    bandA := p.bandA.sent k
    bandB := p.bandB.sent k
    sending := none
    timer := 0 }

/-- The rows a byte just sent advances the paper by (R167). -/
def Sending.rows (x : Sending) : Nat :=
  if x.sent < 2 * advancePairs x.advance ∧ x.sent % 2 = 1 then advanceByte x.advance (x.sent / 2) else 0

/-- The byte on the port is taken by the printer (R167, R168). -/
def State.byteTaken (busy : Bool) (s : State) : State :=
  match s.proof.sending with
  | none => s
  | some x =>
    let s := s.modPins fun p => { p with pbusy := busy, busyLong := false }
    if x.sent + 1 < x.total then
      (s.modProof fun p =>
        { p with printerRow := p.printerRow + x.rows, sending := some { x with sent := x.sent + 1 } }).driveByte
    else (s.modProof (ProofRenderer.bandSent x.band)).proofRun

/-! ### The printer's readiness (R169) -/

/-- The printer is not ready. -/
def State.printerNotReady (s : State) : Bool := s.pins.pfault || s.pins.busyLong

/-- The printer timer's interval for the band being sent (R168; log entry 36). -/
def ProofRenderer.waitTimeout (p : ProofRenderer) : Nat := (p.sending.map Sending.timeout).getD 0

/-- The printer's lines change to hold a byte: a PRINTER WAIT that begins loads the timer, and a printer that becomes not ready is
posted, with proofs enabled and the controller not STOPPED (R168, R169). -/
def State.printerLines (f : Pins → Pins) (s : State) : State :=
  let waited := s.printerWait
  let s := s.modPins f
  let s := if s.printerWait && !waited then s.modProof fun p => { p with timer := p.waitTimeout } else s
  if s.proofsOn && s.desk.controller != .stopped && s.printerNotReady then
    (s.modProof fun p => { p with printer := true }).noticeSince .proof s
  else s

/-- The printer is ready: PRINTER leaves the set, a byte that waited is offered, and dropping ends with a separator due (R168, R169,
R171). -/
def State.printerReadies (s : State) : State :=
  let s := s.modPins fun p => { p with pbusy := false, busyLong := false, pfault := false }
  let s := s.modProof fun p => { p with timer := 0 }
  if s.proofsOn && s.desk.controller != .stopped then
    (s.modProof fun p =>
      { p with printer := false, dropping := false, separatorDue := p.separatorDue || p.dropping }).noticeSince .proof s
  else s

/-! ### Dropping (R170, R171) -/

/-- Both buffers become FREE with clear planes, and a band being sent is abandoned: the printer row goes past it (R169, R170).
PD0-7 keep the byte driven last (DESIGN CHOICE, log entry 7). -/
def ProofRenderer.abandon (p : ProofRenderer) : ProofRenderer :=
  { p with
    printerRow := match p.sending with | some x => 16 * x.band + 16 | none => p.printerRow
    bandA := Band.initial
    bandB := Band.initial
    sending := none
    timer := 0 }

/-- PROOF LOST is reported for the record at the proof cursor (R170, R171). -/
def State.reportProofLost (s : State) : State :=
  match s.proofRecord with
  | some r => s.report r.entry r.lineNumber Cond.proofLost
  | none => s

/-- The record in hand at a drop is passed without further drawing; halted, it is passed at RESUME (R170). -/
def State.loseDrawing (s : State) : State :=
  match s.proof.drawing with
  | none => s
  | some d =>
    if s.desk.controller = .running then s.reportProofLost.leaveProofRecord
    else s.modProof fun p => { p with drawing := some { d with lost := true } }

/-- The proof is dropped (R170). -/
def State.dropProof (s : State) : State :=
  ((s.modProof fun p => { p.abandon with dropping := true }).noticeSince .proof s).loseDrawing

/-- The record before the proof cursor is skipped (R124), passed while dropping (R171), or taken (R161). -/
def State.takeProofRecord (s : State) : State :=
  match s.proofRecord with
  | none => s
  | some r =>
    if r.withdrawn || !r.toProof then s.passProof
    else if s.proof.dropping then s.reportProofLost.passProof
    else
      let ops := (if s.proof.separatorDue then separatorOps ++ [.separatorDone] else []) ++ drawOpsOf r.work
      ((s.modStore fun l => { l with proof := { l.proof with holding := true } }).drawOps ops).sendNext

/-! ### START, RELOAD, resets and RESUME (R160, R169, R172) -/

/-- The starting values of START, and the notice set formed from the printer as it stands (R160). PD0-7 keep the byte driven last
(DESIGN CHOICE, log entry 7). -/
def State.startProof (s : State) : State :=
  s.modProof fun p =>
    { ProofRenderer.initial with glyphs := p.glyphs, port := p.port, printer := s.proofsOn && s.printerNotReady }

/-- A RELOAD that disables proofs frees everything; one that enables them forms the set from the printer as it stands (R169). -/
def State.reloadProof (before : Bool) (s : State) : State :=
  if before && !s.proofsOn then
    (s.modProof fun p =>
      { p.abandon with printer := false, dropping := false, separatorDue := false, drawing := none }).noticeSince .proof s
  else if !before && s.proofsOn then
    (s.modProof fun p => { p with printer := s.printerNotReady }).noticeSince .proof s
  else s

/-- The Proof Renderer at the RESET command: stopped, emptied, with its glyph store kept (R160). PD0-7 keep the byte driven last (DESIGN
CHOICE, log entry 7). -/
def ProofRenderer.reset (p : ProofRenderer) : ProofRenderer := { ProofRenderer.initial with glyphs := p.glyphs, port := p.port }

/-- The proof timeout of Setup comes into use for the band being sent (R13; DESIGN CHOICE, log entry 36). -/
def ProofRenderer.useTimeout (timeout : Nat) (p : ProofRenderer) : ProofRenderer :=
  { p with sending := p.sending.map fun x => { x with timeout := timeout } }

/-- At RESUME a record that a drop lost is passed, drawing takes up where it stopped, and sending takes the next READY band (R170,
R172). -/
def State.proofResumes (s : State) : State :=
  let s := s.modProof (ProofRenderer.useTimeout s.desk.setup.proofTimeout)
  match s.proof.drawing with
  | some d => if d.lost then (s.reportProofLost.leaveProofRecord).sendNext else s.proofRun
  | none => s.sendNext

end Sys2Proof.Machine
end

