-- ==== Sys2Proof/Machine/Starting.lean ====
section
/-! DEFINITION. START and the loads of the Desk, the steps of START, notice writes, and the release of the blocks at RESUME
(spec 01, sections 2.2, 2.5 and 2.8). -/

namespace Sys2Proof.Machine

/-! ### The holding copy (R2, R3, R8) -/

/-- What START and RELOAD read before anything is replaced (R8). -/
structure Holding where
  header : List Byte
  grants : List Grant
  letters : List Byte
  pairs : List Byte
  glyphs : List Byte
  deriving DecidableEq, Repr

/-- How the reads and checks end (R2, R8). -/
inductive LoadEnd where
  | loaded (h : Holding)
  | failedCheck
  | busError
  deriving DecidableEq, Repr

/-- The tables of the header that must be allowed: each nonzero pointer with its table's size (R2). -/
def headerTables (h : List Byte) : List (Nat × Nat) :=
  [(longAt h 0x14, 224), (longAt h 0x18, 256), (longAt h 0x1C, 1344)].filter fun t => t.1 != 0

/-- A table is read in one pass; a pointer of 0 gives no table (R2, R8). -/
def State.readTable (ptr size : Nat) (s : State) : Option (List Byte) × State :=
  if ptr = 0 then (some [], s) else s.busRead (BitVec.ofNat 24 ptr) size

/-- The three tables are read (R8). -/
def State.readTables (h : List Byte) (grants : List Grant) (s : State) : LoadEnd × State :=
  match s.readTable (longAt h 0x14) 224 with
  | (none, s) => (.busError, s)
  | (some letters, s) =>
    match s.readTable (longAt h 0x18) 256 with
    | (none, s) => (.busError, s)
    | (some pairs, s) =>
      match s.readTable (longAt h 0x1C) 1344 with
      | (none, s) => (.busError, s)
      | (some glyphs, s) => (.loaded ⟨h, grants, letters, pairs, glyphs⟩, s)

/-- The header, the Grant Table and the tables are read and checked (R2, R8). The header's layout is tested before the Grant Table is
read, and a header that fails it ends the reads (DESIGN CHOICE, log entry 28). -/
def State.readDesk (s : State) : LoadEnd × State :=
  match s.busRead (s.deskAddr 0) headerSize with
  | (none, s) => (.busError, s)
  | (some h, s) =>
    if !headerLayoutOk h then (.failedCheck, s)
    else
      match s.busRead (s.deskAddr (headerAreas h).grantTable) 64 with
      | (none, s) => (.busError, s)
      | (some t, s) =>
        if (headerTables h).all fun x => rangeAllowed s.desk.base (grantTable t) false x.1 x.2 then s.readTables h (grantTable t)
        else (.failedCheck, s)

/-- The holding copy becomes the working copy (R8, R13). -/
def State.takeCopies (h : Holding) (s : State) : State :=
  (((s.modDesk fun d =>
    { d with
      areas := headerAreas h.header
      grants := h.grants
      setupInUse := true
      setup := headerSetup h.header
      glyphsGiven := longAt h.header 0x1C != 0 }).modHyphenation fun _ =>
    ⟨h.letters, h.pairs, BitVec.ofNat 24 (longAt h.header 0x10)⟩).modProof fun p => { p with glyphs := h.glyphs }).modDrum fun d =>
    { d with nominal := some (headerSetup h.header).markInterval }

/-- What else START sets in the step that takes its copies: the sequences, the Width Store, the confirmed flag, the carried state, the
galley-content flag, an insertion remembered, and the proof (R8, R37, R50, R108, R112, R154, R160). -/
def State.startBlocks (h : Holding) (s : State) : State :=
  let s := s.modScanner fun c => { c with nextRoutine := halfAt h.header 0x0C, nextFlash := halfAt h.header 0x0E }
  let s := s.modFonts fun c => { c with store := Vector.replicate 8 none, compositionCounter := 0, confirmed := false }
  let s := s.modComposer fun c => { c with carried := some (defaultState s.desk.setup), galleyContent := false }
  let s := s.modFilm fun f =>
    { f with supply := if f.inserted then s.desk.setup.cassetteLength else f.supply, inserted := false }
  s.startProof

/-! ### The steps of START (R9) -/

/-- A step of START fails: HALTED with its cause, HALT set, and the command in progress ends ACCEPTED with the step held (R9,
R12). -/
def State.startFails (c : HaltCause) (s : State) : State :=
  ((s.modDesk fun d => { d with controller := .halted, cause := c }).event Event.halt).endCommand .accepted

/-- Steps of START stand under way: START, or a RESUME that carries them out (R12). -/
def State.starting (s : State) : Bool := s.desk.busy == some .start || s.desk.busy == some .resume

/-- START's clearing cut is under way (R158). -/
def State.clearing (s : State) : Bool := s.starting && s.desk.startStep == some .clearingCut

/-- The step START stands at. -/
def State.atStep (p : StartStep) (s : State) : State := s.modDesk fun d => { d with startStep := some p }

/-- Step 5 of START: RUNNING, the rescan timer loaded, and a scan trigger (R9, R24). -/
def State.startEnds (s : State) : State :=
  let s := s.modDesk fun d => { d with controller := .running, cause := .none, startStep := none, started := true }
  let s := s.modScanner fun c => { c with timer := s.desk.setup.rescan, timerAtOne := false }
  s.trigger.testPending.endCommand .accepted

/-- A notice write is in flight. -/
def NoticeWriter.busy (w : NoticeWriter) : Bool := w.inFlight.isSome

/-- Step 4 is complete when no notice write is in flight (R9). -/
def State.noticesDone (s : State) : Bool := !s.notices.photoUnit.busy && !s.notices.film.busy && !s.notices.proof.busy

/-- A record of step 4 begins to be written, unless a write of it is already in flight (R9, R20). -/
def State.startNotice (o : Owner) (s : State) : State :=
  let w := s.notices.writer o
  if w.busy && !w.held then s else s.beginNotice o

/-- Step 4 of START: each of the three notice records is written (R9). -/
def State.startNotices (s : State) : State :=
  (((s.atStep .notices).startNotice .photoUnit).startNotice .film).startNotice .proof

/-- Step 2 of START: the clearing cut where the film state is unknown; step 3 makes the ID scan due (R9, R113, R158). -/
def State.startCut (s : State) : State :=
  if s.film.unknown then (s.atStep .clearingCut).assertKnife else s.startNotices

/-- The homing of one channel begins: ended at once with its input asserted, else a move of the limit's count (R133). -/
def State.homeChannel (k : Channel) (input forward : Bool) (limit : Nat) (s : State) : State :=
  if input then s.modMotion fun m => m.modChannel k fun c => { c with homing := .found }
  else (s.startChannel k forward limit).modMotion fun m => m.modChannel k fun c => { c with homing := .moving }

/-- Both homings have ended: START goes on, or fails with cause HOME (R9, R133). -/
def State.homingEnds (s : State) : State :=
  let c := s.motion.carriage.homing
  let t := s.motion.turret.homing
  if c = .moving ∨ t = .moving then s
  else
    let ended := s.modMotion fun m =>
      { m with carriage := { m.carriage with homing := .none }, turret := { m.turret with homing := .none } }
    if c = .found ∧ t = .found then ended.startCut else ended.startFails .home

/-- Step 1 of START: the carriage and the turret are homed together (R9, R133, R135). -/
def State.startHoming (s : State) : State :=
  let s := (s.atStep .homing).unselectTrack
  let s := s.modExposure fun x =>
    { x with
      carriageAt := if s.pins.home then some 0 else none
      turretAt := if s.pins.turretIndex then some 0 else none }
  ((s.homeChannel .carriage s.pins.home false 20000).homeChannel .turret s.pins.turretIndex true 3200).homingEnds

/-- A START that is refused: STOPPED, with the cause of the failure (R7, R8). -/
def State.refuseStart (c : HaltCause) (s : State) : State :=
  ((s.modDesk fun d => { d with cause := c }).event Event.halt).endCommand .refusedSetup

/-- START, taken with the controller STOPPED (R8, R9). -/
def State.startCommand (s : State) : State :=
  match (s.modDesk fun d => { d with busy := some .start }).readDesk with
  | (.busError, s) => s.refuseStart .deskFault
  | (.failedCheck, s) => s.refuseStart .setup
  | (.loaded h, s) => ((s.takeCopies h).startBlocks h).startHoming

/-- RELOAD, taken with the controller HALTED and the Flight Table and the Line Store empty (R13, R24, R169). -/
def State.reloadCommand (s : State) : State :=
  let before := s.proofsOn
  match s.readDesk with
  | (.busError, s) => s.endCommand .refusedSetup
  | (.failedCheck, s) => s.endCommand .refusedSetup
  | (.loaded h, s) =>
    let s := (s.takeCopies h).reloadProof before
    let s := s.modScanner fun c =>
      if s.desk.setup.rescan = 0 then { c with timer := 0, timerAtOne := false }
      else if c.timer = 0 ∧ s.desk.started = true then { c with timer := s.desk.setup.rescan }
      else c
    s.endCommand .accepted

/-! ### Notice writes (R20) -/

/-- The host address of an owner's notice record, by the area offsets in use as the access is made: a write in flight or held when RELOAD
replaces them is made in the new area (DESIGN CHOICE, log entry 41). -/
def State.noticeAddr (s : State) (o : Owner) : Addr := s.areaAddr s.desk.areas.notices (Owner.offset o)

/-- After a write of an owner's record completes, its content is worked out again and written once more if it differs (R20). -/
def State.renotice (o : Owner) (s : State) : State :=
  if (s.notices.writer o).written != some (s.noticeShown o) then s.beginNotice o else s

/-- The write of an owner's record in flight reaches its end: NOTICE is set, and step 4 of START may be complete; a bus error holds
the write (R9, R19, R20). -/
def State.writeNotice (o : Owner) (s : State) : State :=
  let w := s.notices.writer o
  match w.inFlight, w.held with
  | some n, false =>
    let (ok, s) := s.busWrite (s.noticeAddr o) n.bytes
    let step4 := s.starting && s.desk.startStep == some .notices
    if ok then
      let s := (s.modNotices fun x => x.modWriter o fun w => { w with written := some n, inFlight := none }).event Event.notice
      let s := s.renotice o
      if step4 && s.noticesDone then s.startEnds else s
    else
      let s := s.modNotices fun x => x.modWriter o fun w => { w with held := true }
      if step4 then s.startFails .deskFault else s.fault .deskFault
  | _, _ => s

/-- A held notice write is in flight again with the record's current content (R12). -/
def State.retryNotice (o : Owner) (s : State) : State := if (s.notices.writer o).held then s.beginNotice o else s

/-! ### RESUME (R12) -/

/-- The held write of NONE into the resume slot is made again (R15, R46). -/
def State.retryCancelWrite (s : State) : State :=
  if s.composer.cancelWriteHeld then
    let (ok, s) := s.busWrite (s.areaAddr s.desk.areas.context 1) [0xFF]
    if ok then s.modComposer fun c => { c with cancelWriteHeld := false } else s.fault .deskFault
  else s

/-- A held result write is in flight again (R12). -/
def State.retryResult (s : State) : State :=
  s.setResultWrite (s.resultWrite.map fun r => { r with held := false })

/-- The blocks are released and the held operations retried (R12). -/
def State.releaseBlocks (s : State) : State :=
  let s := s.exposureResumes.proofResumes
  let s := ((s.retryNotice .photoUnit).retryNotice .film).retryNotice .proof
  let s := s.retryResult.retryCancelWrite.retryTray
  s.composerRun.trigger.testPending

/-- The steps of START that a RESUME carries out, from the step that failed (R12). -/
def State.resumeStart (p : StartStep) (s : State) : State :=
  let s := s.modDesk fun d => { d with busy := some .resume }
  match p with
  | .homing => s.startHoming
  | .clearingCut => s.startCut
  | .notices =>
    let s := ((s.retryNotice .photoUnit).retryNotice .film).retryNotice .proof
    if s.noticesDone then s.startEnds else s

/-- RESUME, taken with the controller HALTED (R12). -/
def State.resumeCommand (s : State) : State :=
  match s.desk.startStep with
  | some p => s.resumeStart p
  | none =>
    let s := s.modDesk fun d => { d with controller := .running, cause := .none }
    (s.releaseBlocks.settle).endCommand .accepted

/-! ### SEQUENCE (R14) -/

/-- SEQUENCE, taken with the scanner IDLE and the Flight Table empty: the presets are read, and loaded now or at the end of a scan
in flight (R14). -/
def State.sequenceCommand (s : State) : State :=
  match s.busRead (s.deskAddr 0x0C) 4 with
  | (some b, s) =>
    if s.scanner.inFlight && s.scanner.held.isNone then
      s.modDesk fun d => { d with busy := some (.sequence (halfAt b 0) (halfAt b 2)) }
    else s.finishSequence (halfAt b 0) (halfAt b 2)
  | (none, s) =>
    let s := if s.desk.controller = .stopped then s.modDesk fun d => { d with cause := .deskFault } else s.fault .deskFault
    s.endCommand .refusedSetup

/-! ### CANCEL (R15, R45 to R47) -/

/-- The flight entry that holds a slot. -/
def State.entryOfSlot (s : State) (slot : Nat) : Option (Fin 8) :=
  (List.finRange 8).find? fun i => ((s.flight[i]).map fun e => e.slot == slot).getD false

/-- A cancel that must wait for a load, a lookup or a result write (R15, R47). -/
def State.cancelWaits (i : Fin 8) (s : State) : State := s.modDesk fun d => { d with busy := some (.cancel i) }

/-- A flash cancelled before its composition has begun is finished with stop offset 0 (R45). -/
def State.cancelUnbegun (i : Fin 8) (s : State) : State :=
  (s.modEntry i fun e => { e with finished := true, stopOffset := 0 }).endCommand .accepted

/-- A cancel of the suspended ticket: NONE is written into the resume slot, unless the Context Record is still to be written
(R46). -/
def State.cancelSuspended (i : Fin 8) (s : State) : State :=
  let s := s.cancelResumed i
  if s.composer.phase = .contextWrite then s.endCommand .accepted
  else
    let (ok, s) := s.busWrite (s.areaAddr s.desk.areas.context 1) [0xFF]
    (if ok then s else (s.modComposer fun c => { c with cancelWriteHeld := true }).fault .deskFault).endCommand .accepted

/-- The Composer is between the closing cut and the end of the chain (R41, R43). -/
def Phase.resuming : Phase → Bool
  | .flashScan | .readback | .validWrite _ => true
  | .loading sel => sel.purpose == .restore
  | _ => false

/-- A flash is being prepared for: the Context Record write or the leading cut stands to be made (R39, R40). -/
def Phase.preempting : Phase → Bool
  | .contextWrite | .openCut => true
  | _ => false

/-- What a cancel does to the Composer, by where the ticket stands (R45, R46, R47). -/
def State.cancelComposition (i : Fin 8) (e : Entry) (s : State) : State :=
  if s.composer.ticket = some i then
    if e.finished then s.endCommand .accepted
    else if s.accessInFlight then s.cancelWaits i
    else if s.composer.phase.preempting then s.cancelUnbegun i
    else ((s.cancelComposed i e).composerRun).endCommand .accepted
  else if s.composer.preempt = some i then s.cancelUnbegun i
  else if s.composer.suspended = some i then
    if s.composer.phase.resuming then
      if s.accessInFlight then s.cancelWaits i else (s.cancelResumed i).endCommand .accepted
    else s.cancelSuspended i
  else s.endCommand .accepted

/-- CANCEL of the ticket in a slot (R15, R47). -/
def State.cancelCommand (slot : Nat) (s : State) : State :=
  match if slot ≤ 31 then s.entryOfSlot slot else none with
  | none => s.refuse .refusedOperand
  | some i =>
    match s.flight[i] with
    | none => s.refuse .refusedOperand
    | some e =>
      let s := (s.modEntry i fun e => { e with cancelMark := true }).withdraw i
      match s.resultWrite with
      | some r =>
        if r.entry = i then (if r.held then s.endCommand .accepted else s.cancelWaits i)
        else (s.cancelComposition i e).settle
      | none => (s.cancelComposition i e).settle

/-! ### HALT, RESET and power-on (R10, R16, R17) -/

/-- HALT, taken with the controller RUNNING (R10). -/
def State.haltCommand (s : State) : State :=
  ((s.modDesk fun d => { d with controller := .halted, cause := .command }).event Event.halt).endCommand .accepted

/-- A Desk write in flight is stopped: a prefix of its bytes, no more than `bytes`, has been written (R16, FREE VALUE). -/
def State.cutShort (a : Addr) (bytes : List Byte) (s : State) : State :=
  (s.storeBytes a (bytes.take (Config.cutShort s.freeCounter))).drawFree

/-- A notice write in flight is stopped (R16). -/
def State.stopNotice (o : Owner) (s : State) : State :=
  let w := s.notices.writer o
  match w.inFlight, w.held with
  | some n, false => s.cutShort (s.noticeAddr o) n.bytes
  | _, _ => s

/-- A result write in flight is stopped before its state byte (R16). -/
def State.stopResult (s : State) : State :=
  match s.resultWrite with
  | some ⟨i, f, false⟩ =>
    match s.flight[i] with
    | some e => s.cutShort (s.slotAddr e.slot 0x18) (e.results f).bytes
    | none => s
  | _ => s

/-- Every Desk write in flight is stopped (R16). -/
def State.stopWrites (s : State) : State := (((s.stopResult.stopNotice .photoUnit).stopNotice .film).stopNotice .proof)

/-- The home input's level where a move of its channel ends or is stopped (R133). -/
def Pins.homeInput (p : Pins) (k : Channel) (level : Bool) : Pins :=
  match k with
  | .carriage => { p with home := level }
  | .turret => { p with turretIndex := level }
  | .film => p

/-- A move in flight is stopped at whatever point it has reached, with the home input asserted there or not (R132, R133, FREE VALUE, log
entry 48). -/
def State.stopMove (k : Channel) (s : State) : State :=
  if (s.motion.channel k).busy then (s.modPins fun p => p.homeInput k (Config.homeLevel s.freeCounter)).drawFree else s

/-- Every move of the two channels with a home input is stopped (R132). -/
def State.stopMoves (s : State) : State := (s.stopMove .carriage).stopMove .turret

/-- The Drum Monitor at the RESET command: a scan in flight is abandoned, and the rest stands (R141). -/
def Drum.reset (d : Drum) : Drum :=
  { d with state := if d.state = .scanning then .running else d.state, bandRead := false, secondRevolution := false }

/-- The Film Transport at the RESET command (TABLE 10-1). -/
def Film.reset (f : Film) : Film :=
  { f with
    position := 0
    deepest := 0
    galleyOpen := false
    mark := none
    unknown := f.unknown || f.galleyOpen
    filmOut := false
    knife := false
    knifeTimer := 0 }

/-- A notice writer at a reset: what was last written stands. -/
def NoticeWriter.reset (w : NoticeWriter) : NoticeWriter := { w with inFlight := none, held := false }

/-- The blocks at the RESET command (R16, R108, R128, R132, R141, R146, R147, R160). -/
def State.resetBlocks (s : State) : State :=
  { s with
    scanner := { Scanner.initial with nextRoutine := s.scanner.nextRoutine, nextFlash := s.scanner.nextFlash }
    flight := Vector.replicate 8 none
    resultWrite := none
    composer := Composer.initial
    fonts := { s.fonts with store := Vector.replicate 8 none, compositionCounter := 0 }
    store := LineStore.initial
    exposure := Exposure.initial
    motion := ⟨s.motion.carriage.stopped, s.motion.film.stopped, s.motion.turret.stopped⟩
    drum := s.drum.reset
    film := s.film.reset
    proof := s.proof.reset
    notices := ⟨s.notices.photoUnit.reset, s.notices.film.reset, s.notices.proof.reset, false, none⟩ }

/-- The RESET command (R16): EVENTS is cleared, then COMMAND is set, with HALT if the controller was RUNNING. -/
def State.resetCommand (s : State) : State :=
  let halt := if s.desk.controller = .running then Event.halt else 0
  s.stopWrites.stopMoves.resetBlocks.modDesk fun d =>
    { d with
      controller := .stopped
      cause := .none
      result := .accepted
      busy := none
      startStep := none
      started := false
      setupInUse := false
      events := Event.command ||| halt }

/-- Power-on: every block takes its initial value; host memory, the input lines and the queue stand (R17), but for the home input of a
channel whose move it stops (log entries 4 and 48). -/
def State.powerOnReset (s : State) : State :=
  let t := s.stopWrites.stopMoves
  { State.reset with mem := t.mem, pins := t.pins, bus := t.bus, freeCounter := t.freeCounter, pending := t.pending }

/-! ### Motion and the knife (R132, R133, R157) -/

/-- A homing move ends: found with its input asserted, failed when its count runs out (R133). -/
def State.homingMoveEnds (k : Channel) (home : Bool) (s : State) : State :=
  let s := s.modMotion fun m => m.modChannel k fun c => { c.ended with homing := if home then .found else .failed }
  let s := s.modExposure fun x =>
    if !home then x
    else match k with
      | .carriage => { x with carriageAt := some 0 }
      | .turret => { x with turretAt := some 0 }
      | .film => x
  s.homingEnds

/-- Where a move ends: the carriage by its ticks, the turret by its 400 steps a position (R132, R134). -/
def Exposure.moved (x : Exposure) (k : Channel) (c : MotionChannel) : Exposure :=
  match k with
  | .carriage =>
    { x with carriageAt := x.carriageAt.map fun p => if c.forward then p + c.steps else p - c.steps }
  | .turret =>
    { x with turretAt := x.turretAt.map fun p =>
        if c.forward then p + Fin.ofNat 8 (c.steps / 400) else p - Fin.ofNat 8 (c.steps / 400) }
  | .film => x

/-- A move completes and is reported to the block that requested it (R132, R136, R143, R148). -/
def State.moveCompletes (k : Channel) (s : State) : State :=
  let c := s.motion.channel k
  let s := (s.modMotion fun m => m.modChannel k MotionChannel.ended).modExposure fun x => x.moved k c
  match k, s.exposure.phase with
  | .film, .moving m => (s.setEs (.moved m)).exposureRun
  | .film, _ => s
  | _, .positioning => s.position
  | _, .coverHold => s.endCoverHold
  | _, _ => s

/-- A channel's move ends (R132, R133). -/
def State.motionEnds (k : Channel) (home : Bool) (s : State) : State :=
  if (s.motion.channel k).busy then
    let s := s.modPins fun p => p.homeInput k home
    if (s.motion.channel k).homing = .moving then s.homingMoveEnds k home else s.moveCompletes k
  else s

/-- KNIFE DONE is seen with KNIFE asserted: a cut completes, or the clearing cut of START (R156, R158). -/
def State.knifeDone (s : State) : State :=
  if s.film.knife then
    match s.exposure.phase with
    | .knife c => (s.completeCut c).exposureRun
    | _ => if s.clearing then (s.closeGalley.modFilm fun f => { f with unknown := false }).startNotices else s
  else s

/-- The knife's 500 ms run out: the cut is held at its knife step, or START's clearing cut fails (R157, R158). -/
def State.knifeTimesOut (s : State) : State :=
  if s.film.knife then
    match s.exposure.phase with
    | .knife c => (s.releaseKnife.setEs (.knifeHeld c)).fault .knife
    | _ => if s.clearing then s.releaseKnife.startFails .knife else s
  else s

/-! ### Results (R34) -/

/-- A cancel that waited for the result write of an entry ends (R47). -/
def State.endWaitingCancel (i : Fin 8) (s : State) : State :=
  if s.cancelWaiting = some i then s.endCommand .accepted else s

/-- The result write in flight reaches its end: TICKET is set and the entry removed, or a bus error holds the write (R34, R47). -/
def State.writeResult (s : State) : State :=
  match s.resultWrite with
  | some ⟨i, f, false⟩ =>
    match s.flight[i] with
    | none => s.setResultWrite none
    | some e =>
      let full := s.flightFull
      let (ok, s) := s.writeResults e.slot (e.results f) f.code
      if ok then
        let s := ((s.modFlight fun v => v.set i.val none).setResultWrite none).event Event.ticket
        let s := if full then s.trigger.testPending else s
        (s.endWaitingCancel i).settle
      else ((s.setResultWrite (some ⟨i, f, true⟩)).endWaitingCancel i).fault .deskFault
  | _ => s

/-- A scan is in flight, the flash-only scan that a Desk fault holds among them (R14, R24, R42). -/
def Scanner.scanning (c : Scanner) : Bool := c.inFlight || c.held.isSome

/-- The rescan timer would count from 1 to 0 (R24). -/
def State.rescanExpires (s : State) : State :=
  if s.desk.controller = .stopped ∨ s.scanner.timer = 0 then s
  else if s.scanner.scanning then s.modScanner fun c => { c with timer := 1, timerAtOne := true }
  else (s.modScanner fun c => { c with timer := s.desk.setup.rescan }).trigger

end Sys2Proof.Machine
end

