-- ==== Sys2Proof/Machine/Registers.lean ====
section
/-! DEFINITION. The six registers (spec 01, section 2.3; spec 11, section 12.7): writes, reads, and the STATUS pages. Reads change
nothing, so they are no commands of the table. -/

namespace Sys2Proof.Machine

/-! ### Writes -/

/-- DESKBASE takes its upper byte with the controller STOPPED and no command in progress (R1). -/
def State.writeDeskbase (v : Half) (s : State) : State :=
  if s.desk.controller = .stopped ∧ s.desk.busy = none then s.modDesk fun d => { d with base := hiByte v } else s

/-- NUDGE is a scan trigger with the controller RUNNING or HALTED (R4, R23). -/
def State.writeNudge (_v : Half) (s : State) : State := if s.desk.controller = .stopped then s else s.trigger

/-- EVENTS clears each flag written with a 1 (R5, R176). -/
def State.writeEvents (v : Half) (s : State) : State :=
  s.modDesk fun d => { d with events := d.events &&& ~~~(v.extractLsb' 0 4) }

/-- EVENTMASK replaces the enables and the page bit (R4, R176). -/
def State.writeEventmask (v : Half) (s : State) : State :=
  s.modDesk fun d => { d with mask := v.extractLsb' 0 4, page := v.getLsbD 15 }

/-- A COMMAND write of a command: refused BUSY while one is in progress, else refused STATE where its condition does not hold
(R6, TABLE 2-5). -/
def State.commandWrite (taken : Bool) (run : State → State) (s : State) : State :=
  if s.desk.busy.isSome then s.refuse .refusedBusy
  else if taken then run s
  else s.refuse .refusedState

/-! ### The states STATUS shows (TABLE 12-16) -/

/-- The Composer waits for an item or for records, until it has taken what it waits for (R84): with the controller RUNNING it stands
between two commands at a draw or an append only where it was BLOCKED there, and what comes free meanwhile is taken by ITEM_DRAW or
GROUP_APPEND. -/
def State.composerBlocked (s : State) : Bool :=
  match s.composer.phase with
  | .hyphen _ | .placing _ | .group _ | .lead _ _ | .closeCut => true
  | .begin => s.cutNext
  | .openCut => s.composer.galleyContent
  | _ => false

/-- The Composer state shown: IDLE 0, COMPOSING 1, LOADING 2, SEARCHING 3, BLOCKED 4, PAUSED 5 (R84, R85, TABLE 6-1). -/
def State.composerShown (s : State) : Half :=
  match s.composer.phase with
  | .loading _ => 2
  | .searching _ => 3
  | .idle => if s.desk.controller = .halted ∧ s.composer.preempt.isSome = true then 5 else 0
  | _ => if s.desk.controller = .halted then 5 else if s.composerBlocked then 4 else 1

/-- The state of TABLE 9-1 a phase of the Exposure Sequencer stands for: IDLE 0, LEADING 1, POSITIONING 2, FLASHING 3, CUTTING 4,
MOUNT WAIT 5, FILM WAIT 6, COVER OPEN 7, DRUM WAIT 8. While the moves in flight at a cover opening run to completion it is POSITIONING
(DESIGN CHOICE, log entry 40). -/
def State.exposureState (s : State) : Half :=
  match s.exposure.phase with
  | .idle => 0
  | .moving (.runOut _ _ _) | .knife _ | .knifeHeld _ | .knifeStep _ => 4
  | .startMove (.runOut _ _ _) | .moved (.runOut _ _ _) => 4
  | .moving _ | .startMove _ | .moved _ | .openLead _ _ | .need _ | .finish => 1
  | .positioning | .coverHold | .items | .nextItem => 2
  | .flashing _ => 3
  | .mountWait | .mountReady | .mount => if s.pins.coverOpen && s.hasExposable then 7 else 5
  | .needWait _ | .takeupWait _ => 6
  | .drumWait => 8

/-- The phases at which a halted Exposure Sequencer is PAUSED (R145). -/
def EsPhase.pauses : EsPhase → Bool
  | .idle | .needWait _ | .takeupWait _ | .mountWait | .mountReady | .drumWait | .knifeHeld _ => true
  | _ => false

/-- The Exposure Sequencer state shown; PAUSED is 9 (R129, R145). -/
def State.exposureShown (s : State) : Half :=
  if s.desk.controller = .halted ∧ s.exposure.phase.pauses = true then 9 else s.exposureState

/-- The Proof Renderer state shown, the first of TABLE 11-2 that holds: IDLE 0, RENDERING 1, SENDING 2, WAIT BAND 3, PRINTER WAIT 4,
DROPPING 5, PAUSED 6. A record in hand between two steps always waits for a band. -/
def State.proofShown (s : State) : Half :=
  if !s.proofsOn then 0
  else if s.proof.dropping then 5
  else if s.desk.controller = .halted ∧ s.proof.sending = none then 6
  else if s.printerWait then 4
  else if s.proof.drawing.isSome then 3
  else if s.proof.sending.isSome then 2
  else 0

/-- STATUS page 0 (TABLE 12-16). -/
def State.statusPage0 (s : State) : Half :=
  s.desk.controller.code ||| (s.desk.cause.code <<< 2) ||| (s.desk.result.code <<< 5)
    ||| (if s.desk.busy.isSome then bit 8 else 0) ||| (s.scanner.state.code <<< 9)

/-- STATUS page 1 (TABLE 12-16). -/
def State.statusPage1 (s : State) : Half := s.composerShown ||| (s.exposureShown <<< 3) ||| (s.proofShown <<< 7)

/-! ### Reads -/

/-- The registers of TABLE 2-3. -/
inductive Register where
  | deskbase
  | command
  | nudge
  | status
  | events
  | eventmask
  deriving DecidableEq, Repr

/-- What a register reads as (R1, R4, R5, R176). -/
def State.readRegister (s : State) : Register → Half
  | .deskbase => half 0 s.desk.base
  | .command => 0
  | .nudge => 0
  | .status => if s.desk.page then s.statusPage1 else s.statusPage0
  | .events => s.desk.events.setWidth 16
  | .eventmask => s.desk.mask.setWidth 16 ||| (if s.desk.page then bit 15 else 0)

end Sys2Proof.Machine
end

