-- ==== Sys2Proof/Machine/Steps.lean ====
section
/-! DEFINITION. The steps of the part whose bus accesses may fail, with what each asks of the state, and the bus error itself
(spec 01, sections 2.5 and 2.7). A step whose condition does not hold is no step, and leaves the state as it stands (log entry 3). -/

namespace Sys2Proof.Machine

/-! ### COMMAND writes (TABLE 2-5) -/

/-- A write of START: taken with the controller STOPPED. A START refused at the write sets HALT as every refused START does (R5,
R6). -/
def State.startWrite (s : State) : State :=
  if s.desk.busy.isSome then (s.refuse .refusedBusy).event Event.halt
  else if s.desk.controller = .stopped then s.startCommand
  else (s.refuse .refusedState).event Event.halt

/-- A write of HALT: taken with the controller RUNNING. -/
def State.haltWrite (s : State) : State := s.commandWrite (s.desk.controller == .running) State.haltCommand

/-- A write of RESUME: taken with the controller HALTED. -/
def State.resumeWrite (s : State) : State := s.commandWrite (s.desk.controller == .halted) State.resumeCommand

/-- A write of RELOAD: taken with the controller HALTED, the Flight Table empty and the Line Store empty. -/
def State.reloadWrite (s : State) : State :=
  s.commandWrite (s.desk.controller == .halted && s.flightEmpty && s.store.records.isEmpty) State.reloadCommand

/-- A write of SEQUENCE: taken with the scanner IDLE and the Flight Table empty. -/
def State.sequenceWrite (s : State) : State :=
  s.commandWrite (s.scanner.state == .idle && s.flightEmpty) State.sequenceCommand

/-- A write of CANCEL: taken with the controller RUNNING or HALTED. -/
def State.cancelWrite (operand : Byte) (s : State) : State :=
  s.commandWrite (s.desk.controller != .stopped) (State.cancelCommand operand.toNat)

/-- A write of RESET: taken in any controller state. -/
def State.resetWrite (s : State) : State := s.commandWrite true State.resetCommand

/-- A write of a code that is no command is refused OPERAND, or BUSY while a command is in progress (R6, R176). -/
def State.unknownWrite (s : State) : State :=
  if s.desk.busy.isSome then s.refuse .refusedBusy else s.refuse .refusedOperand

/-! ### Steps of the Ticket Scanner and the Composer -/

/-- The scan in flight is made, and the Composer takes up what it entered (R25, R29, R38). -/
def State.scanStep (s : State) : State := if s.scanner.inFlight && s.scanner.held.isNone then s.runScan.composerRun else s

/-- The Composer is at a draw of an item (R101). -/
def Phase.draws : Phase → Bool
  | .placing _ | .hyphen _ => true
  | _ => false

/-- The Composer is at an append of a group (R122). -/
def Phase.appends : Phase → Bool
  | .group _ | .lead _ _ | .openCut | .closeCut | .begin => true
  | _ => false

/-- A BLOCKED Composer draws its item and goes on (R101). -/
def State.drawStep (s : State) : State := if s.composer.phase.draws && s.phaseReady then s.composerRun else s

/-- A BLOCKED Composer appends its group and goes on (R122). -/
def State.appendStep (s : State) : State := if s.composer.phase.appends && s.phaseReady then s.composerRun else s

/-! ### Bus errors (R19) -/

/-- The step a bus error falls in. -/
def State.stepOf : BusStep → State → State
  | .start => State.startWrite
  | .reload => State.reloadWrite
  | .sequence => State.sequenceWrite
  | .resume => State.resumeWrite
  | .cancel operand => State.cancelWrite operand
  | .scan => State.scanStep
  | .resultWrite => State.writeResult
  | .takeCode => State.nextCode
  | .widthTableLoad => State.loadCompletes
  | .dictionaryLookup => State.lookupCompletes
  | .itemDraw => State.drawStep
  | .groupAppend => State.appendStep
  | .noticeWrite o => State.writeNotice o
  | .further during _ _ => State.stepOf during

/-- The failing accesses a step tells after the first, in their order. -/
def BusStep.later : BusStep → List (Nat × Bool)
  | .further during acked landed => (acked, landed) :: BusStep.later during
  | _ => []

/-- A step with an access that is not acknowledged, after `acked` bytes have been, and with the further failing accesses it tells. A
step that does not meet every one of them has no such bus errors, and the state stands (R19). -/
def State.failStep (during : BusStep) (acked : Nat) (landed : Bool) (s : State) : State :=
  let t := State.stepOf during (s.setBus (some ⟨acked, landed, BusStep.later during⟩))
  if t.bus = none then t else s

end Sys2Proof.Machine
end

