-- ==== Sys2Proof/Machine/DeskCommands.lean ====
section
/-! DEFINITION. The meanings of the host's register writes, power-on, bus errors and notice writes (spec 01). -/

namespace Sys2Proof.Machine

/-- START (R8, R9). -/
def execStart (_operand : Byte) (s : State) : Host.Outcome State Fault Refusal := .next s.startWrite

/-- HALT (R10). -/
def execHalt (_operand : Byte) (s : State) : Host.Outcome State Fault Refusal := .next s.haltWrite

/-- RESUME (R12). -/
def execResume (_operand : Byte) (s : State) : Host.Outcome State Fault Refusal := .next s.resumeWrite

/-- RELOAD (R13). -/
def execReload (_operand : Byte) (s : State) : Host.Outcome State Fault Refusal := .next s.reloadWrite

/-- SEQUENCE (R14). -/
def execSequence (_operand : Byte) (s : State) : Host.Outcome State Fault Refusal := .next s.sequenceWrite

/-- CANCEL (R15, R45 to R47). -/
def execCancel (operand : Byte) (s : State) : Host.Outcome State Fault Refusal := .next (s.cancelWrite operand)

/-- RESET (R16). -/
def execReset (_operand : Byte) (s : State) : Host.Outcome State Fault Refusal := .next s.resetWrite

/-- A COMMAND write whose code is no command (R6, R176). -/
def execUnknownCommand (_code _operand : Byte) (s : State) : Host.Outcome State Fault Refusal := .next s.unknownWrite

/-- A write of DESKBASE (R1). -/
def execDeskbaseWrite (value : Half) (s : State) : Host.Outcome State Fault Refusal := .next (s.writeDeskbase value)

/-- A write of NUDGE (R4). -/
def execNudge (value : Half) (s : State) : Host.Outcome State Fault Refusal := .next (s.writeNudge value)

/-- A write of EVENTS (R5). -/
def execEventsClear (value : Half) (s : State) : Host.Outcome State Fault Refusal := .next (s.writeEvents value)

/-- A write of EVENTMASK (R4, R176). -/
def execEventmaskWrite (value : Half) (s : State) : Host.Outcome State Fault Refusal := .next (s.writeEventmask value)

/-- A write of STATUS is ignored (R4). -/
def execRegisterWriteIgnored (_value : Half) (s : State) : Host.Outcome State Fault Refusal := .next s

/-- Power-on, or the RESET pin asserted and released (R17). -/
def execPowerOn (s : State) : Host.Outcome State Fault Refusal := .next s.powerOnReset

/-- A bus access that is not acknowledged, and the further ones its step tells (R19). -/
def execBusError (during : BusStep) (acked : Nat) (landed : Bool) (s : State) :
    Host.Outcome State Fault Refusal :=
  .next (s.failStep during acked landed)

/-- A notice record write completes (R20). -/
def execNoticeWriteDone (owner : Owner) (s : State) : Host.Outcome State Fault Refusal := .next (s.writeNotice owner)

end Sys2Proof.Machine
end

