-- ==== Sys2Proof/Machine/PhotoUnit.lean ====
section
/-! DEFINITION. The meanings of the steps of the Exposure Sequencer, the Motion Channels, the Drum Monitor, the cover and the Film
Transport (spec 06, 08, 09). -/

namespace Sys2Proof.Machine

/-- The Exposure Sequencer takes or skips a record (R124, R129). -/
def execExposureTakeRecord (s : State) : Host.Outcome State Fault Refusal :=
  if s.desk.controller = .running ∧ s.exposure.phase = .idle then .next s.takeFilmRecord else .next s

/-- A move of a channel ends (R132, R133). -/
def execMotionComplete (channel : Channel) (home : Bool) (s : State) : Host.Outcome State Fault Refusal :=
  .next (s.motionEnds channel home)

/-- The drum track's settle time runs out (R135, R136). -/
def execTrackSettled (s : State) : Host.Outcome State Fault Refusal :=
  if s.exposure.track.isSome ∧ s.exposure.settled = false then
    let t := s.modExposure fun x => { x with settled := true }
    if t.exposure.phase = .positioning then .next t.position else .next t
  else .next s

/-- A mark (R139 to R141, R114, R137). -/
def execMark (elapsed : Nat) (indexHigh : Bool) (s : State) : Host.Outcome State Fault Refusal :=
  match s.drum.nominal with
  | none => .next (s.modDrum fun d => d.markHigh indexHigh)
  | some n => .next (s.drumMark n elapsed indexHigh)

/-- A rising edge of INDEX: an index, or band data during a scan (R114, R139 to R141). -/
def execIndex (elapsed : Nat) (s : State) : Host.Outcome State Fault Refusal :=
  match s.drum.nominal with
  | none => .next (s.modDrum Drum.indexHigh)
  | some n =>
    if s.drum.bandData then .next (s.modDrum Drum.indexHigh) else .next (s.drumIndex n elapsed)

/-- The watch (R140, R141). -/
def execDrumWatch (s : State) : Host.Outcome State Fault Refusal :=
  if s.drum.state = .stopped then .next s else .next s.drumStops

/-- The flash delay ends (R111, R137). -/
def execFlashDelayExpiry (s : State) : Host.Outcome State Fault Refusal := .next s.fireFlash

/-- The FLASH pulse ends: the item is exposed, and the next one is taken (R136 to R138). -/
def execFlashEnd (s : State) : Host.Outcome State Fault Refusal :=
  if s.exposure.phase = .flashing .pulse then
    .next ((s.endPulse.modExposure fun x => { x with item := x.item + 1, phase := .nextItem }).exposureRun)
  else .next s

/-- The lamp-ready timer runs out (R138). -/
def execLampReady (s : State) : Host.Outcome State Fault Refusal := .next (s.modExposure fun x => { x with lampTimer := 0 })

/-- The drum-wait timer runs out: DRUM is posted and the controller halted (R142). -/
def execDrumWaitTimeout (s : State) : Host.Outcome State Fault Refusal :=
  if s.exposure.phase = .drumWait ∧ s.desk.controller = .running ∧ s.pins.coverOpen = false ∧ 0 < s.exposure.drumTimer then
    .next ((((s.modExposure fun x => { x with drumTimer := 0 }).fault .drum).modNotices
      fun n => { n with drum := true }).noticeSince .photoUnit s)
  else .next s

/-- COVER opens: the table is no longer confirmed, a scan is abandoned, a line at step 4 is stopped, and COVER OPEN is posted (R112,
R113, R118, R143). -/
def execCoverOpen (s : State) : Host.Outcome State Fault Refusal :=
  if s.pins.coverOpen then .next s
  else
    let t := (s.modPins fun p => { p with coverOpen := true }).modFonts fun c => { c with confirmed := false }
    let t := if t.drum.state = .scanning then t.leaveScan .running else t
    .next (t.coverOpens.noticeSince .photoUnit s)

/-- COVER closes: COVER OPEN leaves the set (R118, R143). -/
def execCoverClose (s : State) : Host.Outcome State Fault Refusal :=
  if s.pins.coverOpen then .next ((s.modPins fun p => { p with coverOpen := false }).noticeSince .photoUnit s) else .next s

/-- A wait for film at an insertion: it is answered, or goes on with FILM OUT set again (R152, R154). -/
def State.filmInserted (s : State) : State :=
  match s.exposure.phase with
  | .needWait g =>
    if s.needFits g then (if s.desk.controller = .running then (s.needPassed g).exposureRun else s)
    else s.modFilm fun f => { f with filmOut := true }
  | _ => s

/-- A cassette is inserted: FILM OUT leaves the set, and enters it again where the wait for film goes on (R152, R154). -/
def execCassetteInsertion (s : State) : Host.Outcome State Fault Refusal :=
  if s.pins.cassette then .next s
  else
    let t := s.modPins fun p => { p with cassette := true }
    if t.desk.controller = .stopped then .next (t.modFilm fun f => { f with inserted := true })
    else
      .next (((t.modFilm fun f => { f with supply := t.desk.setup.cassetteLength, filmOut := false }).filmInserted).noticeSince .film s)

/-- A cassette is removed, which has no effect (R154). -/
def execCassetteRemoval (s : State) : Host.Outcome State Fault Refusal :=
  .next (s.modPins fun p => { p with cassette := false })

/-- TAKEUP shows absent (R155). -/
def execTakeupAbsent (s : State) : Host.Outcome State Fault Refusal :=
  .next ((s.modPins fun p => { p with takeup := false }).noticeSince .film s)

/-- TAKEUP shows present: a movement that waited for it starts (R148, R155). -/
def execTakeupPresent (s : State) : Host.Outcome State Fault Refusal :=
  let t := (s.modPins fun p => { p with takeup := true }).noticeSince .film s
  match t.exposure.phase with
  | .takeupWait m => if t.desk.controller = .running then .next (t.startMovement m).exposureRun else .next t
  | _ => .next t

/-- KNIFE DONE is seen asserted (R156, R158). -/
def execKnifeDone (s : State) : Host.Outcome State Fault Refusal := .next s.knifeDone

/-- 500 ms have passed since KNIFE was asserted (R157, R158). -/
def execKnifeTimeout (s : State) : Host.Outcome State Fault Refusal := .next s.knifeTimesOut

end Sys2Proof.Machine
end

