-- ==== Sys2Proof/Machine/ProofPrinter.lean ====
section
/-! DEFINITION. The meanings of the steps of the Proof Renderer and the printer (spec 10). -/

namespace Sys2Proof.Machine

/-- The Proof Renderer takes, skips or passes a record (R124, R161, R171). -/
def execProofTakeRecord (s : State) : Host.Outcome State Fault Refusal :=
  if s.desk.controller = .running ∧ s.proofsOn = true ∧ s.proof.drawing = none ∧ s.store.proof.holding = false then
    .next s.takeProofRecord
  else .next s

/-- The printer takes the byte driven (R167, R168). -/
def execPrinterByte (busy : Bool) (s : State) : Host.Outcome State Fault Refusal :=
  if s.proof.sending.isSome ∧ s.printerHolds = false then .next (s.byteTaken busy) else .next s

/-- The printer timer expires in a PRINTER WAIT: the proof is dropped (R170). -/
def execProofDrop (s : State) : Host.Outcome State Fault Refusal :=
  if s.printerWait = true ∧ 0 < s.proof.timer then .next s.dropProof else .next s

/-- PBUSY has been high for 100 ms (R169). -/
def execPrinterBusyTimeout (s : State) : Host.Outcome State Fault Refusal :=
  .next (s.printerLines fun p => { p with pbusy := true, busyLong := true })

/-- PFAULT is asserted (R169). -/
def execPrinterFault (s : State) : Host.Outcome State Fault Refusal :=
  .next (s.printerLines fun p => { p with pfault := true })

/-- PFAULT is deasserted with PBUSY low (R169, R171). -/
def execPrinterReady (s : State) : Host.Outcome State Fault Refusal := .next s.printerReadies

end Sys2Proof.Machine
end

