-- ==== Sys2Proof/Machine/TakeCodes.lean ====
section
/-! DEFINITION. The meanings of the take codes (spec 03): each reads the code at the read position, where it is one of its own. -/

namespace Sys2Proof.Machine

/-- A character code 0x00 to 0x6F (R54). -/
def execCharacter (s : State) : Host.Outcome State Fault Refusal := .next (s.takeCode (fun b => b ≤ 0x6F) actCharacter)

/-- The word space 0x70 (R55). -/
def execWordSpace (s : State) : Host.Outcome State Fault Refusal := .next (s.takeCode (fun b => b == 0x70) actWordSpace)

/-- The fixed spaces 0x71 to 0x73 (R55). -/
def execFixedSpace (s : State) : Host.Outcome State Fault Refusal := .next (s.takeCode (fun b => 0x71 ≤ b && b ≤ 0x73) actFixedSpace)

/-- The discretionary hyphen 0x74 (R55). -/
def execDiscretionaryHyphen (s : State) : Host.Outcome State Fault Refusal := .next (s.takeCode (fun b => b == 0x74) actDiscretionary)

/-- The end codes 0x75 to 0x78 (R61). -/
def execEndLine (s : State) : Host.Outcome State Fault Refusal := .next (s.takeCode (fun b => 0x75 ≤ b && b ≤ 0x78) actEndLine)

/-- The end of a paragraph 0x79 (R61). -/
def execEndParagraph (s : State) : Host.Outcome State Fault Refusal := .next (s.takeCode (fun b => b == 0x79) actEndParagraph)

/-- The end of the take 0x7F (R52). -/
def execEndOfTake (s : State) : Host.Outcome State Fault Refusal := .next (s.takeCode (fun b => b == 0x7F) actEndOfTake)

/-- Mark column top 0x7A (R62, R63). -/
def execMarkColumnTop (s : State) : Host.Outcome State Fault Refusal := .next (s.takeCode (fun b => b == 0x7A) actMark)

/-- Return to mark 0x7B (R62, R63). -/
def execReturnToMark (s : State) : Host.Outcome State Fault Refusal := .next (s.takeCode (fun b => b == 0x7B) actToMark)

/-- Reverse lead 0x84 (R62, R63). -/
def execReverseLead (s : State) : Host.Outcome State Fault Refusal := .next (s.takeCode (fun b => b == 0x84) actReverse)

/-- Lead now 0x8D (R62, R63). -/
def execLeadNow (s : State) : Host.Outcome State Fault Refusal := .next (s.takeCode (fun b => b == 0x8D) actAdvance)

/-- Hyphenation off 0x7C (R59). -/
def execHyphenationOff (s : State) : Host.Outcome State Fault Refusal := .next (s.takeCode (fun b => b == 0x7C) (actHyphenation false))

/-- Hyphenation on 0x7D (R59). -/
def execHyphenationOn (s : State) : Host.Outcome State Fault Refusal := .next (s.takeCode (fun b => b == 0x7D) (actHyphenation true))

/-- Fill 0x7E (R55). -/
def execFill (s : State) : Host.Outcome State Fault Refusal := .next (s.takeCode (fun b => b == 0x7E) actFill)

/-- The font code 0x80 (R56, R103). -/
def execFont (s : State) : Host.Outcome State Fault Refusal := .next (s.takeCode (fun b => b == 0x80) actFont)

/-- The point size code 0x81 (R57). -/
def execPointSize (s : State) : Host.Outcome State Fault Refusal := .next (s.takeCode (fun b => b == 0x81) actPointSize)

/-- The set size code 0x82 (R57). -/
def execSetSize (s : State) : Host.Outcome State Fault Refusal := .next (s.takeCode (fun b => b == 0x82) actSetSize)

/-- The leading code 0x83 (R58). -/
def execLeading (s : State) : Host.Outcome State Fault Refusal := .next (s.takeCode (fun b => b == 0x83) actLeading)

/-- The measure code 0x85 (R59). -/
def execMeasure (s : State) : Host.Outcome State Fault Refusal := .next (s.takeCode (fun b => b == 0x85) actMeasure)

/-- The left indent code 0x86 (R59). -/
def execIndentLeft (s : State) : Host.Outcome State Fault Refusal := .next (s.takeCode (fun b => b == 0x86) actIndentLeft)

/-- The right indent code 0x87 (R59). -/
def execIndentRight (s : State) : Host.Outcome State Fault Refusal := .next (s.takeCode (fun b => b == 0x87) actIndentRight)

/-- Tab stop set 0x88 (R60). -/
def execTabStopSet (s : State) : Host.Outcome State Fault Refusal := .next (s.takeCode (fun b => b == 0x88) actTabStopSet)

/-- Tab to 0x89 (R60). -/
def execTabTo (s : State) : Host.Outcome State Fault Refusal := .next (s.takeCode (fun b => b == 0x89) actTabTo)

/-- Move to 0x8A (R60). -/
def execMoveTo (s : State) : Host.Outcome State Fault Refusal := .next (s.takeCode (fun b => b == 0x8A) actMoveTo)

/-- Move by 0x8B (R60). -/
def execMoveBy (s : State) : Host.Outcome State Fault Refusal := .next (s.takeCode (fun b => b == 0x8B) actMoveBy)

/-- The letterspace limit code 0x8C (R59). -/
def execLetterspaceLimit (s : State) : Host.Outcome State Fault Refusal := .next (s.takeCode (fun b => b == 0x8C) actLetterspace)

/-- A byte 0x8E to 0xFF (R65). -/
def execBadCode (s : State) : Host.Outcome State Fault Refusal := .next (s.takeCode (fun b => 0x8E ≤ b) actBadCode)

/-- The take length runs out (R53). -/
def execTakeOverrun (s : State) : Host.Outcome State Fault Refusal :=
  match s.readingTicket with
  | none => .next s
  | some e => if s.overruns e then .next s.overrun else .next s

end Sys2Proof.Machine
end

