-- ==== Sys2Proof/Machine/TicketSteps.lean ====
section
/-! DEFINITION. The meanings of the steps of the Ticket Scanner and the Flight Table (spec 02), and of the Composer's waits (spec
05, 06, 07). -/

namespace Sys2Proof.Machine

/-- The rescan timer expires (R24). -/
def execRescanTimerExpiry (s : State) : Host.Outcome State Fault Refusal := .next s.rescanExpires

/-- The scan in flight is made (R25 to R29). -/
def execScan (s : State) : Host.Outcome State Fault Refusal := .next s.scanStep

/-- The result write in flight completes (R34). -/
def execResultWrite (s : State) : Host.Outcome State Fault Refusal := .next s.writeResult

/-- The width table read in flight completes (R106). -/
def execWidthTableLoad (s : State) : Host.Outcome State Fault Refusal := .next s.loadCompletes

/-- The dictionary lookup in flight ends (R92, R93). -/
def execDictionaryLookup (s : State) : Host.Outcome State Fault Refusal := .next s.lookupCompletes

/-- A BLOCKED Composer draws its item (R101). -/
def execItemDraw (s : State) : Host.Outcome State Fault Refusal := .next s.drawStep

/-- A BLOCKED Composer appends its group (R122). -/
def execGroupAppend (s : State) : Host.Outcome State Fault Refusal := .next s.appendStep

end Sys2Proof.Machine
end

