-- ==== Sys2Proof/Machine/Dispatch.lean ====
section
/-! DEFINITION. The dispatch: one arm per command, each one direct call of its meaning. -/

namespace Sys2Proof.Machine

def exec (i : Instr) (s : State) : Host.Outcome State Fault Refusal :=
  match i with
  | .start operand => Sys2Proof.Machine.execStart operand s
  | .halt operand => Sys2Proof.Machine.execHalt operand s
  | .resume operand => Sys2Proof.Machine.execResume operand s
  | .reload operand => Sys2Proof.Machine.execReload operand s
  | .sequence operand => Sys2Proof.Machine.execSequence operand s
  | .cancel operand => Sys2Proof.Machine.execCancel operand s
  | .reset operand => Sys2Proof.Machine.execReset operand s
  | .unknownCommand code operand => Sys2Proof.Machine.execUnknownCommand code operand s
  | .deskbaseWrite value => Sys2Proof.Machine.execDeskbaseWrite value s
  | .nudge value => Sys2Proof.Machine.execNudge value s
  | .eventsClear value => Sys2Proof.Machine.execEventsClear value s
  | .eventmaskWrite value => Sys2Proof.Machine.execEventmaskWrite value s
  | .registerWriteIgnored value => Sys2Proof.Machine.execRegisterWriteIgnored value s
  | .powerOn => Sys2Proof.Machine.execPowerOn s
  | .busError during acked landed => Sys2Proof.Machine.execBusError during acked landed s
  | .rescanTimerExpiry => Sys2Proof.Machine.execRescanTimerExpiry s
  | .scan => Sys2Proof.Machine.execScan s
  | .resultWrite => Sys2Proof.Machine.execResultWrite s
  | .character => Sys2Proof.Machine.execCharacter s
  | .wordSpace => Sys2Proof.Machine.execWordSpace s
  | .fixedSpace => Sys2Proof.Machine.execFixedSpace s
  | .discretionaryHyphen => Sys2Proof.Machine.execDiscretionaryHyphen s
  | .endLine => Sys2Proof.Machine.execEndLine s
  | .endParagraph => Sys2Proof.Machine.execEndParagraph s
  | .endOfTake => Sys2Proof.Machine.execEndOfTake s
  | .takeOverrun => Sys2Proof.Machine.execTakeOverrun s
  | .markColumnTop => Sys2Proof.Machine.execMarkColumnTop s
  | .returnToMark => Sys2Proof.Machine.execReturnToMark s
  | .reverseLead => Sys2Proof.Machine.execReverseLead s
  | .leadNow => Sys2Proof.Machine.execLeadNow s
  | .hyphenationOff => Sys2Proof.Machine.execHyphenationOff s
  | .hyphenationOn => Sys2Proof.Machine.execHyphenationOn s
  | .fill => Sys2Proof.Machine.execFill s
  | .font => Sys2Proof.Machine.execFont s
  | .widthTableLoad => Sys2Proof.Machine.execWidthTableLoad s
  | .pointSize => Sys2Proof.Machine.execPointSize s
  | .setSize => Sys2Proof.Machine.execSetSize s
  | .leading => Sys2Proof.Machine.execLeading s
  | .measure => Sys2Proof.Machine.execMeasure s
  | .indentLeft => Sys2Proof.Machine.execIndentLeft s
  | .indentRight => Sys2Proof.Machine.execIndentRight s
  | .tabStopSet => Sys2Proof.Machine.execTabStopSet s
  | .tabTo => Sys2Proof.Machine.execTabTo s
  | .moveTo => Sys2Proof.Machine.execMoveTo s
  | .moveBy => Sys2Proof.Machine.execMoveBy s
  | .letterspaceLimit => Sys2Proof.Machine.execLetterspaceLimit s
  | .badCode => Sys2Proof.Machine.execBadCode s
  | .dictionaryLookup => Sys2Proof.Machine.execDictionaryLookup s
  | .itemDraw => Sys2Proof.Machine.execItemDraw s
  | .groupAppend => Sys2Proof.Machine.execGroupAppend s
  | .exposureTakeRecord => Sys2Proof.Machine.execExposureTakeRecord s
  | .motionComplete channel home => Sys2Proof.Machine.execMotionComplete channel home s
  | .trackSettled => Sys2Proof.Machine.execTrackSettled s
  | .mark elapsed indexHigh => Sys2Proof.Machine.execMark elapsed indexHigh s
  | .index elapsed => Sys2Proof.Machine.execIndex elapsed s
  | .drumWatch => Sys2Proof.Machine.execDrumWatch s
  | .flashDelayExpiry => Sys2Proof.Machine.execFlashDelayExpiry s
  | .flashEnd => Sys2Proof.Machine.execFlashEnd s
  | .lampReady => Sys2Proof.Machine.execLampReady s
  | .drumWaitTimeout => Sys2Proof.Machine.execDrumWaitTimeout s
  | .coverOpen => Sys2Proof.Machine.execCoverOpen s
  | .coverClose => Sys2Proof.Machine.execCoverClose s
  | .noticeWriteDone owner => Sys2Proof.Machine.execNoticeWriteDone owner s
  | .cassetteInsertion => Sys2Proof.Machine.execCassetteInsertion s
  | .cassetteRemoval => Sys2Proof.Machine.execCassetteRemoval s
  | .takeupAbsent => Sys2Proof.Machine.execTakeupAbsent s
  | .takeupPresent => Sys2Proof.Machine.execTakeupPresent s
  | .knifeDone => Sys2Proof.Machine.execKnifeDone s
  | .knifeTimeout => Sys2Proof.Machine.execKnifeTimeout s
  | .proofTakeRecord => Sys2Proof.Machine.execProofTakeRecord s
  | .printerByte busy => Sys2Proof.Machine.execPrinterByte busy s
  | .proofDrop => Sys2Proof.Machine.execProofDrop s
  | .printerBusyTimeout => Sys2Proof.Machine.execPrinterBusyTimeout s
  | .printerFault => Sys2Proof.Machine.execPrinterFault s
  | .printerReady => Sys2Proof.Machine.execPrinterReady s

end Sys2Proof.Machine
end

