-- ==== Sys2Proof/Safety.lean ====
section
/-! DEFINITION. What claims about runs say: the invariants of the part's state that the rules give, and runs of many steps. -/

namespace Sys2Proof.Machine

/-- The law of the Line Store (R121): at most 16 records, and both cursors between the head and the tail. -/
def State.storeLaw (s : State) : Prop :=
  s.store.records.length ≤ Config.ringPlaces
    ∧ s.store.film.reached ≤ s.store.records.length ∧ s.store.proof.reached ≤ s.store.records.length

/-- The law of the pool (R101): the free items, the items of the records and the items of the line being built are 1,536. -/
def State.poolLaw (s : State) : Prop :=
  s.store.free + (s.store.records.map Record.itemCount).sum + s.composer.drawn = Config.poolItems

/-- The items of the pool that codes hold: their characters and hyphens (R101). -/
def itemsHeld (cs : List LineCode) : Nat := (glyphsOf (elementsOf cs)).length

/-- The items drawn for the line being built are those of its codes; those of a line ended and not yet appended are its group's and the
carried part's; and a Composer that is building no line has drawn none (R101, R120). -/
def Composer.drawnLaw (k : Composer) : Prop :=
  match k.phase with
  | .group g =>
    k.drawn = g.items.length + itemsHeld g.carried ∧ (∀ o, g.after = .finishTake o → itemsHeld g.carried = 0)
      ∧ ∀ c, g.after = .place c → c.glyph? ≠ none
  | .placing c => k.drawn = itemsHeld k.line.codes ∧ c.glyph? ≠ none
  | .reading | .testing _ | .choosing _ _ | .searching _ | .hyphen _ => k.drawn = itemsHeld k.line.codes
  | .loading sel => k.drawn = itemsHeld k.line.codes ∧ (sel.purpose = .restore → k.drawn = 0)
  | .idle | .begin | .lead _ _ | .contextWrite | .openCut | .closeCut | .flashScan | .readback | .validWrite _ =>
    k.drawn = 0 ∧ itemsHeld k.line.codes = 0

/-- The law of the Composer and the Ticket Scanner that the law of the pool rests on: an IDLE scanner and an IDLE Composer hold no ticket
(R22, R84), a flash waits to preempt in LOCKED alone (R38), a held take of a routine ticket is one of an IDLE scanner (R25), and the
items drawn are those of the line being built. -/
def State.composerLaw (s : State) : Prop :=
  (s.scanner.state = .idle → s.composer.phase = .idle)
    ∧ (s.composer.preempt ≠ none → s.scanner.state = .locked)
    ∧ (s.composer.phase = .idle → s.composer.ticket = none)
    ∧ ((∃ slot seq, s.scanner.held = some (.take slot .routine seq)) ∨ (∃ slot, s.scanner.held = some (.body slot .routine)) →
      s.scanner.state = .idle)
    ∧ s.composer.drawnLaw

/-- The law of the film (R151): max(0, D − 12,000) ≤ P ≤ D. -/
def State.filmLaw (s : State) : Prop := s.film.floor ≤ s.film.position ∧ s.film.position ≤ s.film.deepest

/-- START, or a RESUME that carries out its steps, is in progress (R9, R12). -/
abbrev Desk.starts (d : Desk) : Prop := d.busy = some .start ∨ d.busy = some .resume

/-- A phase of the Exposure Sequencer that makes a backward film movement to a target (R151). -/
def EsPhase.backTo? : EsPhase → Option Nat
  | .startMove (.back _ target) | .moved (.back _ target) | .moving (.back _ target) | .takeupWait (.back _ target) => some target
  | _ => none

/-- The law of the transport that the law of the film rests on: while START is being carried out, or the part is STOPPED, no record is
exposed (R9, R129); homing is START's first step (R133); a backward movement's target lies between the reverse floor and D (R151); and the galley is closed
while the Film Transport waits for a cassette, since an open one is cut before the wait (R152). -/
def State.transportLaw (s : State) : Prop :=
  (s.desk.controller = .stopped ∨ s.desk.startStep ≠ none ∨ s.desk.starts → s.exposure.phase = .idle)
    ∧ (s.desk.controller = .running → s.desk.startStep = none ∧ ¬ s.desk.starts)
    ∧ (s.motion.carriage.homing ≠ .none ∨ s.motion.turret.homing ≠ .none → s.desk.starts ∧ s.desk.startStep = some .homing)
    ∧ s.motion.film.homing = .none
    ∧ (∀ target, s.exposure.phase.backTo? = some target → s.film.floor ≤ target ∧ target ≤ s.film.deepest)
    ∧ ∀ g, s.exposure.phase = .needWait g → s.film.galleyOpen = false

/-- Host memory has its canonical form. -/
def State.memoryLaw (s : State) : Prop := Memory.wf s.mem = true

/-- With the controller STOPPED the Line Store is empty (R127). -/
def State.stoppedLaw (s : State) : Prop := s.desk.controller = .stopped → s.store.records = []

/-- A run of `n` steps ends in a state; none when a step does not answer a next state. -/
def runs : Nat → State → Option State
  | 0, s => some s
  | n + 1, s =>
    match step s with
    | .next t => runs n t
    | _ => none

/-- A step is safe when it answers a next state: no step of the TC-610 faults or is refused. -/
def safeStep (s : State) : Prop := ∃ t, step s = .next t

/-! ### What statements ask of a state -/

/-- A code of the take is about to be read: the Composer is COMPOSING ticket `e` in flight entry `i`, between codes, no flash waits to
preempt, and the bytes at its read position are `code`, whole within the take length (R51, R53). -/
abbrev State.readsCode (s : State) (i : Fin 8) (e : Entry) (code : List Byte) : Prop :=
  s.bus = none ∧ s.desk.controller = .running ∧ s.composer.phase = .reading ∧ s.composer.preempt = none
    ∧ s.composer.ticket = some i ∧ s.flight[i] = some e
    ∧ s.composer.readPosition + code.length ≤ e.takeLength
    ∧ s.bytes (Addr.plus e.takePtr s.composer.readPosition) code.length = code

/-- What a code that places nothing leaves in the line being built: its offset, the composition state before it, and the conditions
it raised (R64, R65). -/
def Composer.trace (k : Composer) (conditions : Half) : LineCode := ⟨k.readPosition, k.current, none, false, none, conditions⟩

/-- The Composer after a code of `n` bytes that leaves `c` in the line being built. -/
def Composer.afterCode (k : Composer) (n : Nat) (c : LineCode) : Composer :=
  { k with readPosition := k.readPosition + n, line := { k.line with codes := k.line.codes ++ [c] } }

/-- The Composer after a code of `n` bytes that leaves nothing behind. -/
def Composer.pastCode (k : Composer) (n : Nat) : Composer := { k with readPosition := k.readPosition + n }

/-- The line being built holds no element. -/
abbrev Composer.lineIsEmpty (k : Composer) : Prop := elementsOf k.line.codes = []

/-- The line settings that are fixed, or that would be fixed now (R48, R72). -/
def Composer.settings (k : Composer) : Settings := k.line.settings.getD (formSettings k.current).1

/-- The word being read needs no break: the line is tabular, or the word holds no width-bearing element, or the line fits (R86). -/
abbrev Composer.needsNoBreak (k : Composer) : Prop :=
  (∃ x ∈ elementsOf k.line.codes, x.isPlacing = true) ∨ (∀ c ∈ (splitWord k.line.codes).2, c.widthBearing = false)
    ∨ fits (elementsOf k.line.codes) k.settings.effective = true

/-- The Line Store with records at its tail; with proofs disabled the proof cursor passes them as they come (R122, R124). -/
def LineStore.appended (l : LineStore) (proofs : Bool) (rs : List Record) : LineStore :=
  { l with records := l.records ++ rs, proof := if proofs then l.proof else ⟨l.records.length + rs.length, false⟩ }

/-- A line as it ends whole, set in a mode (R102): its settings, and what the Measure Unit makes of it. -/
def Composer.lineSet (k : Composer) (mode : Quad) (lineNumber : Nat) : SetLine :=
  setLine (elementsOf k.line.codes) k.settings mode lineNumber

/-- The conditions of a line that ends whole: those of its codes, its settings and its setting (R65, R72, R102). -/
def Composer.lineConditions (k : Composer) (mode : Quad) (lineNumber : Nat) : Half :=
  codeConditions k.line.codes ||| (k.line.fix k.current).conditions ||| (k.lineSet mode lineNumber).conditions

/-- The group of a line that ends whole: one TEXT record and the LEAD records of its held film codes (R63, R102). -/
def Composer.lineGroup (k : Composer) (i : Fin 8) (e : Entry) (mode : Quad) : List Record :=
  ⟨i, e.lineNumber, e.toFilm, e.toProof, false, k.lineConditions mode e.lineNumber,
      .text (k.settings.leading * 10) (k.lineSet mode e.lineNumber).items (fontSet (glyphsOf (elementsOf k.line.codes)))⟩
    :: (heldFilm k.line.codes).map fun l => ⟨i, e.lineNumber, e.toFilm, e.toProof, false, 0, .lead l⟩

/-- The ticket keeps a line log with room for another entry (R36). -/
abbrev Entry.logOpen (e : Entry) : Prop := e.logIndex < e.logCapacity

/-- Where the next line log entry of a ticket is written (R36). -/
def Entry.logAddr (e : Entry) : Addr := Addr.plus e.logPtr (16 * e.logIndex)

/-- A ticket's entry after the log entry of a line (R36). -/
def Entry.logged (e : Entry) : Entry :=
  if e.logOpen then { e with logIndex := e.logIndex + 1, logWritten := e.logWritten + 1 } else e

/-- The 16 bytes of a line log entry (TABLE 12-13, R36, R175). -/
def logEntry (lineNumber lineStart items : Nat) (hyphenated : Bool) (quad : Quad) (conditions : Half) (natural : MeasureWord)
    (firstSpace : Int) : List Byte :=
  natBytes lineNumber ++ natBytes lineStart ++ [BitVec.ofNat 8 items, (if hyphenated then 1 else 0) ||| (quad.code <<< 1)]
    ++ halfBytes (conditions &&& 0x03FF) ++ natural.bytes ++ longBytes (BitVec.ofInt 32 firstSpace)

/-- Host memory after the log entry of a line, where the ticket's log has room for it (R36). -/
def State.loggedMem (s : State) (e : Entry) (bytes : List Byte) : List Host.Cell :=
  if e.logOpen then (s.storeBytes e.logAddr bytes).mem else s.mem

/-- The log entry of a line that ends whole (R36). -/
def Composer.lineLog (k : Composer) (e : Entry) (mode : Quad) : List Byte :=
  let set := k.lineSet mode e.lineNumber
  logEntry e.lineNumber k.lineStart set.items.length false set.quad (k.lineConditions mode e.lineNumber) set.natural set.firstSpace

/-- The ticket's entry after that group is appended (R30, R31, R36, R102). -/
def Composer.lineEntry (k : Composer) (i : Fin 8) (e : Entry) (mode : Quad) : Entry :=
  Entry.logged { e.report e.lineNumber (k.lineConditions mode e.lineNumber) with
    outstanding := e.outstanding + (k.lineGroup i e mode).length
    linesSet := e.linesSet + 1
    lineNumber := e.lineNumber + 1 }

/-- A line broken without an end code, or by a forced break at its space (R96 to R99, R102): what is kept is set in JUSTIFY mode, with the
hyphen after it, and the rest is carried. -/
def Composer.brokenLine (k : Composer) (kept carried : List LineCode) (hyphen : Option Glyph) (forced : Half) (nextStart : Nat)
    (snapshot : CompState) (after : After) (lineNumber : Nat) : EndedLine :=
  let es := elementsOf kept ++ (hyphen.map Element.glyph).toList
  let set := setLine es k.settings .justify lineNumber
  { items := set.items
    fonts := fontSet (glyphsOf es)
    conditions := codeConditions kept ||| (k.line.fix k.current).conditions ||| forced ||| set.conditions
    leadTicks := k.settings.leading * 10
    leads := heldFilm kept
    quad := set.quad
    natural := set.natural
    firstSpace := set.firstSpace
    hyphenated := hyphen.isSome
    carried := carried
    nextStart := nextStart
    snapshot := snapshot
    after := after }

/-- A line broken at a take offset: the codes below it are kept and the others carried, and the snapshot is the state before the first
code carried, or the state now where none is (R63, R64). -/
def Composer.brokenAt (k : Composer) (o : Nat) (hyphen : Option Glyph) (forced : Half) (after : After) (lineNumber : Nat) : EndedLine :=
  let carried := k.line.codes.filter fun c => o ≤ c.offset
  k.brokenLine (k.line.codes.filter fun c => c.offset < o) carried hyphen forced o ((carried.head?.map LineCode.before).getD k.current)
    after lineNumber

/-- A line ended whose group finds no room: its conditions are reported, and the Composer is BLOCKED at it (R102, R122). -/
def State.blockedAtGroup (s : State) (i : Fin 8) (e : Entry) (g : EndedLine) (k : Composer) : State :=
  { s with
    flight := s.flight.set i.val (some (e.report e.lineNumber g.conditions))
    composer := { k with phase := .group g } }

/-- A line ended raises no condition that its ticket masks, and the ring has no room for its group (R33, R122). -/
abbrev State.groupWaits (s : State) (e : Entry) (g : EndedLine) : Prop :=
  (∀ n < 9, (g.conditions &&& e.stopMask).getLsbD n = false) ∧ 16 < s.store.records.length + (1 + g.leads.length)

/-- The Composer after a line ended whole by a code of one byte is appended: the next line begins after the code (R64, R90, R102). -/
def Composer.afterLine (k : Composer) (e : Entry) (mode : Quad) : Composer :=
  { k with
    readPosition := k.readPosition + 1
    lineStart := k.readPosition + 1
    current := { k.current with ladder := 0 }
    snapshot := { k.current with ladder := 0 }
    line := ⟨[], none, 0⟩
    drawn := k.drawn - (k.lineSet mode e.lineNumber).items.length
    galleyContent := true }

/-- The Composer waits: it is IDLE, or COMPOSING between codes, with no flash to preempt for. -/
abbrev State.composerAtRest (s : State) : Prop :=
  s.composer.preempt = none ∧ (s.composer.phase = .idle ∨ s.composer.phase = .reading)

/-- A table of the Desk as START and RELOAD read it: nothing where its pointer is 0 (R2, R8). -/
def State.deskTable (s : State) (ptr size : Nat) : List Byte := if ptr = 0 then [] else s.bytes (BitVec.ofNat 24 ptr) size

/-- A scan that this command leaves to end is in flight, with nothing that its end would set off (R23 to R25). -/
abbrev State.scanRuns (s : State) : Prop :=
  s.scanner.inFlight = true ∧ s.scanner.held = none ∧ s.scanner.pendingFlag = false ∧ s.scanner.timerAtOne = false
    ∧ ∀ r f, s.desk.busy ≠ some (.sequence r f)

/-- No write of the part is in flight or held: neither a result nor a notice record. -/
abbrev State.noWrites (s : State) : Prop :=
  s.resultWrite = none ∧ ∀ o : Owner, (s.notices.writer o).inFlight = none ∧ (s.notices.writer o).held = false

/-- No ticket is in flight. -/
abbrev State.noTickets (s : State) : Prop := ∀ i : Fin 8, s.flight[i] = none

/-- A byte outside the `n` bytes of memory from `base` on. -/
abbrev outsideRun (a base : Addr) (n : Nat) : Prop := ∀ i < n, a ≠ Addr.plus base i

/-- Sets event flags and a command result, as a command that ends does (R5, R6). -/
def Desk.ends (d : Desk) (r : CmdResult) : Desk := { d with result := r, events := d.events ||| Event.command }

/-- A scan can start when a routine ticket leaves the Composer: the controller RUNNING, the scanner in WATCH with no scan in flight, and
a flight entry free (R22, R23). -/
abbrev State.scanCanStart (s : State) : Prop :=
  s.desk.controller = .running ∧ s.scanner.state = .watch ∧ s.scanner.inFlight = false ∧ ∃ j : Fin 8, s.flight[j] = none

/-- The scanner after a routine ticket has left the Composer: IDLE, and a scan started by the trigger (R22, R23). -/
def Scanner.released (c : Scanner) : Scanner := { c with state := .idle, inFlight := true }

/-- The Composer after a routine ticket has left it, carrying its state (R50, R84). -/
def Composer.released (k : Composer) (carried : CompState) : Composer :=
  { k with ticket := none, phase := .idle, carried := some carried }

/-- The machine after the Composer stops routine ticket `e` of entry `i` (R32, R33): the line discarded and its items back in the pool,
the snapshot restored and carried, the entry finished and held with its reason and its stop offset. -/
def State.stopsRoutine (s : State) (i : Fin 8) (e : Entry) (r : Reason) (masked : Option Nat) : State :=
  { s with
    store := { s.store with free := s.store.free + s.composer.drawn }
    flight := s.flight.set i.val (some
      { e with held := some r, maskedBit := masked, stopOffset := s.composer.lineStart, finished := true })
    composer := ({ s.composer with
      current := s.composer.snapshot, line := ⟨[], none, 0⟩, drawn := 0, readPosition := s.composer.lineStart }).released
        s.composer.snapshot
    scanner := s.scanner.released }

/-- A character has room in the line being built: below 255 items, and its font one of the line's or the line below 8 fonts (R99). -/
abbrev Composer.roomForCharacter (k : Composer) : Prop :=
  (glyphsOf (elementsOf k.line.codes)).length < 255
    ∧ ((fontSet (glyphsOf (elementsOf k.line.codes))).length < 8
      ∨ ∃ p ∈ fontSet (glyphsOf (elementsOf k.line.codes)), p.1 = k.current.font)

/-- What a character of a resident font leaves in the line being built: its CHAR item, with the width of `units` at the set size in
effect, and the font's hyphen kept with it (R54, R67, R109). -/
def Composer.characterTrace (k : Composer) (code units : Nat) (x : FontSlot) : LineCode :=
  { k.trace 0 with
    element := some (.glyph
      { kind := .char
        font := k.current.font
        lens := k.current.lens
        code := code
        width := (units * k.current.setSize * 8 + 1) / 3
        setSize := k.current.setSize
        hyphenCode := x.table.hyphenCode
        hyphenUnits := natAt x.table.widths x.table.hyphenCode
        strip := x.strip }) }

/-- One slot of the Width Store, and no other, holds the font: slot `j`, filled with `x` (R104). -/
abbrev FontControl.holdsOnly (c : FontControl) (f : Nat) (j : Fin 8) (x : FontSlot) : Prop :=
  c.store[j] = some x ∧ x.font = f ∧ ∀ (k : Fin 8) (y : FontSlot), c.store[k] = some y → y.font = f → k = j

/-- An owner's notice stands: a write of its record is in flight, or what it should show is what was last written (R20). -/
abbrev State.noticeStands (s : State) (o : Owner) : Prop :=
  s.desk.controller = .stopped ∨ (s.notices.writer o).inFlight ≠ none ∨ (s.notices.writer o).written = some (s.noticeShown o)

/-- What a reset leaves of the input lines: each as it was, but for the home input of a channel whose move it stops, which is asserted there
or not (R132, R133). -/
def State.pinsThroughReset (s : State) (p : Pins) : Prop :=
  p = { s.pins with home := p.home, turretIndex := p.turretIndex }
    ∧ (s.motion.carriage.busy = false → p.home = s.pins.home) ∧ (s.motion.turret.busy = false → p.turretIndex = s.pins.turretIndex)

/-- The Exposure Sequencer with a record finished or skipped: IDLE, with nothing of the record kept (R130). -/
def Exposure.rested (x : Exposure) : Exposure :=
  { x with phase := .idle, item := 0, tracks := [], begun := false, coverSeen := false }

/-- The Exposure Sequencer with a record just taken, at a phase (R129, R130). -/
def Exposure.taken (x : Exposure) (p : EsPhase) : Exposure :=
  { x with phase := p, item := 0, tracks := [], begun := false, coverSeen := false, mountNext := .leading }

/-- The Line Store with the film cursor past the record it stands at, while no record is released (R123, R125). -/
def LineStore.filmPast (l : LineStore) : LineStore := { l with film := ⟨l.film.passed + 1, false⟩ }

/-- The Line Store with the proof cursor past the record it stands at, while no record is released (R123, R125). -/
def LineStore.proofPast (l : LineStore) : LineStore := { l with proof := ⟨l.proof.passed + 1, false⟩ }

/-- The Line Store with the film cursor on the record it stands before (R123). -/
def LineStore.filmHolds (l : LineStore) : LineStore := { l with film := { l.film with holding := true } }

/-- The record before the film cursor. -/
abbrev State.nextForFilm (s : State) (r : Record) : Prop := s.store.records[s.store.film.passed]? = some r

/-- The record before the proof cursor. -/
abbrev State.nextForProof (s : State) (r : Record) : Prop := s.store.records[s.store.proof.passed]? = some r

/-- An interval of `elapsed` microseconds is in step with a nominal one of `n`: within 6 per cent of it (R140). -/
abbrev inStepWith (n elapsed : Nat) : Prop := n ≤ min elapsed 4095 + n * 6 / 100 ∧ min elapsed 4095 ≤ n + n * 6 / 100

end Sys2Proof.Machine
end

