-- ==== Sys2Proof/Certificates/Slice0/Obligations.lean ====
section
/-! DEFINITION. The statements for the provers. -/

open Sys2Proof Sys2Proof.Machine

/-! ### The step and the whole machine -/

/-- The step takes the command at the front of the queue and answers what `exec` answers on the state with the queue's rest; with an
empty queue it answers the state itself (log entry 2, the model's choice). -/
def Obligations.StepRunsTheFrontCommand : Prop :=
  (∀ (c : Instr) (rest : List Instr) (s : State), step (s.setPending (c :: rest)) = exec c (s.setPending rest))
    ∧ ∀ s : State, step (s.setPending []) = .next (s.setPending [])

/-- Every command answers a next state in every state, with no fault and no refusal, and leaves the queue of waiting commands as it found
it. That no command stops the machine is the model's reading: the part reports its errors in its registers and goes on (log entry 26, DEDUCED),
and a command whose condition does not hold is answered too (log entry 3). -/
def Obligations.EveryCommandAnswersNext : Prop :=
  ∀ (c : Instr) (s : State), ∃ t, exec c s = .next t ∧ t.pending = s.pending

/-- Power-on, with no write of the part in flight, gives every block its initial value and leaves host memory, the input lines and the
queue as they were, but for the home input of a channel whose move it stops; the initial values R17 names are as it says. The input lines'
levels and what a reset does to them are the model's choice (log entries 4 and 48), as are the initial values R17 and the chapters do not give (log entry 7). -/
def Obligations.PowerOnGivesInitialValues : Prop :=
  (∀ s : State, s.noWrites →
    ∃ pins count, exec .powerOn s =
        .next { State.reset with mem := s.mem, pins := pins, bus := s.bus, freeCounter := count, pending := s.pending }
      ∧ s.pinsThroughReset pins
      ∧ (s.motion.carriage.busy = false → s.motion.turret.busy = false → pins = s.pins ∧ count = s.freeCounter))
    ∧ State.reset.desk.base = 0 ∧ State.reset.desk.events = 0 ∧ State.reset.desk.mask = 0 ∧ State.reset.interrupt = false
    ∧ State.reset.desk.controller = .stopped ∧ State.reset.desk.cause = .none ∧ State.reset.desk.result = .none
    ∧ State.reset.desk.busy = none ∧ State.reset.desk.grants = [] ∧ State.reset.desk.setupInUse = false
    ∧ State.reset.noTickets ∧ State.reset.store = ⟨[], 1536, ⟨0, false⟩, ⟨0, false⟩⟩
    ∧ State.reset.film.unknown = true ∧ State.reset.film.supply = 0 ∧ State.reset.film.galleyNumber = 0
    ∧ (∀ p : Fin 8, (State.reset.fonts.mount[p]).strip = none) ∧ State.reset.fonts.confirmed = false
    ∧ State.reset.scanner.state = .idle ∧ State.reset.scanner.nextRoutine = 0 ∧ State.reset.scanner.nextFlash = 0
    ∧ State.reset.exposure.carriageAt = none ∧ State.reset.exposure.turretAt = none
    ∧ State.reset.proof.baseline = 12 ∧ State.reset.proof.printerRow = 0

/-- The state after reset meets the laws of R101, R121, R127 and R151 (the Line Store within its bounds, the pool whole, the film within
its floor, the store empty while STOPPED), the laws of the Composer and of the transport that two of them rest on, and two of the MODEL's
own: host memory is in its canonical form (log entry 1), and no access of the bus is about to fail (`bus = none`, log entry 9). -/
def Obligations.ResetMeetsTheLaws : Prop :=
  State.reset.memoryLaw ∧ State.reset.storeLaw ∧ State.reset.poolLaw ∧ State.reset.filmLaw ∧ State.reset.stoppedLaw
    ∧ State.reset.composerLaw ∧ State.reset.transportLaw ∧ State.reset.bus = none

/-- Every step keeps host memory in its canonical form. The form (addresses rising, and 0, what an unlisted address reads as, never
listed) is the MODEL's own choice (log entry 1). -/
def Obligations.StepKeepsMemoryForm : Prop :=
  ∀ s t : State, s.memoryLaw → step s = .next t → t.memoryLaw

/-- Every step keeps the law of the Line Store: never more than 16 records, and both output cursors between the head and the tail. And
every step keeps the law of the pool, that the free items, the items of the records and the items drawn for the line being built are
1,536, together with the law of the Composer it rests on. -/
def Obligations.StepKeepsTheLineStoreLaw : Prop :=
  (∀ s t : State, s.storeLaw → step s = .next t → t.storeLaw)
    ∧ ∀ s t : State, s.composerLaw → s.poolLaw → step s = .next t → t.composerLaw ∧ t.poolLaw

/-- Every step keeps it true that the Line Store is empty while the controller is STOPPED. -/
def Obligations.StepKeepsTheStoppedStoreEmpty : Prop :=
  ∀ s t : State, s.stoppedLaw → step s = .next t → t.stoppedLaw

/-- Between steps no bus access is in hand: every step of a state whose bus is not armed ends in such a state. The bus field is the
model's own (log entry 9). -/
def Obligations.StepLeavesNoBusAccess : Prop :=
  ∀ s t : State, s.bus = none → step s = .next t → t.bus = none

/-- DESKBASE changes at its own write alone, with the controller STOPPED and no command in progress, or at power-on; the enables and
the page bit of EVENTMASK change at its own write alone, or at power-on. -/
def Obligations.DeskbaseAndEventmaskKeepTheirValues : Prop :=
  ∀ (c : Instr) (s t : State), exec c s = .next t →
    (t.desk.base ≠ s.desk.base →
      c = .powerOn ∨ ∃ v, c = .deskbaseWrite v ∧ s.desk.controller = .stopped ∧ s.desk.busy = none)
    ∧ ((t.desk.mask, t.desk.page) ≠ (s.desk.mask, s.desk.page) → c = .powerOn ∨ ∃ v, c = .eventmaskWrite v)

/-- The galley number changes only when KNIFE DONE is seen with KNIFE asserted, and then it rises by one, from 65,535 to 1; power-on
alone sets it otherwise. And every step keeps the law of the film, that P lies between the reverse floor and D, together with the law of
the transport it rests on, of which it is a part that the galley is closed while the Film Transport waits for a cassette (R152). -/
def Obligations.GalleyNumberChangesAtTheKnife : Prop :=
  (∀ (c : Instr) (s t : State), exec c s = .next t → t.film.galleyNumber ≠ s.film.galleyNumber →
    c = .powerOn
      ∨ (c = .knifeDone ∧ s.film.knife = true
        ∧ t.film.galleyNumber = if s.film.galleyNumber = 65535 then 1 else s.film.galleyNumber + 1))
    ∧ ∀ s t : State, s.transportLaw → s.filmLaw → step s = .next t → t.transportLaw ∧ t.filmLaw

/-- A strip ID of the Mount Table changes at an index alone, the one that completes an ID scan, or at power-on; and no other command
sets the confirmed flag. -/
def Obligations.MountTableChangesAtAScan : Prop :=
  ∀ (c : Instr) (s t : State), exec c s = .next t →
    ((∃ p : Fin 8, (t.fonts.mount[p]).strip ≠ (s.fonts.mount[p]).strip) ∨ (s.fonts.confirmed = false ∧ t.fonts.confirmed = true)) →
    c = .powerOn
      ∨ ∃ elapsed, c = .index elapsed ∧ s.drum.state = .scanning ∧ s.drum.secondRevolution = true ∧ s.drum.markCount = 111

/-- The level of each input line changes at the commands that report that line alone: COVER, CASSETTE and TAKEUP each at its two events,
HOME and TURRET INDEX at the end of a move of its channel and at the RESET command or power-on that stops one, PBUSY and its 100 ms at a byte taken, at their own event and at the printer
ready, and PFAULT at its own event and at the printer ready. This is the MODEL's choice (log entries 4, 12 and 48). -/
def Obligations.InputLinesChangeAtTheirEvents : Prop :=
  ∀ (c : Instr) (s t : State), exec c s = .next t →
    (t.pins.coverOpen ≠ s.pins.coverOpen → c = .coverOpen ∨ c = .coverClose)
    ∧ (t.pins.cassette ≠ s.pins.cassette → c = .cassetteInsertion ∨ c = .cassetteRemoval)
    ∧ (t.pins.takeup ≠ s.pins.takeup → c = .takeupAbsent ∨ c = .takeupPresent)
    ∧ (t.pins.home ≠ s.pins.home → s.motion.carriage.busy = true
      ∧ ((∃ level, c = .motionComplete .carriage level) ∨ (∃ operand, c = .reset operand) ∨ c = .powerOn))
    ∧ (t.pins.turretIndex ≠ s.pins.turretIndex → s.motion.turret.busy = true
      ∧ ((∃ level, c = .motionComplete .turret level) ∨ (∃ operand, c = .reset operand) ∨ c = .powerOn))
    ∧ ((t.pins.pbusy, t.pins.busyLong) ≠ (s.pins.pbusy, s.pins.busyLong) →
      (∃ busy, c = .printerByte busy) ∨ c = .printerBusyTimeout ∨ c = .printerReady)
    ∧ (t.pins.pfault ≠ s.pins.pfault → c = .printerFault ∨ c = .printerReady)

/-! ### The registers (spec 01, section 2.3) -/

/-- DESKBASE: a write with the controller STOPPED and no command in progress replaces it by the upper byte written, and every other
write is ignored and leaves no trace; it reads back with a lower byte of 0, stands over every Desk offset in a Desk address, is 0 after
power-on, and is kept through the RESET command. -/
def Obligations.DeskbaseWritesAreAcceptedWhileStopped : Prop :=
  (∀ (s : State) (upper lower : Byte), s.desk.controller = .stopped → s.desk.busy = none →
    exec (.deskbaseWrite (half lower upper)) s = .next (s.modDesk fun d => { d with base := upper }))
    ∧ (∀ (s : State) (v : Half), s.desk.controller ≠ .stopped ∨ s.desk.busy ≠ none → exec (.deskbaseWrite v) s = .next s)
    ∧ (∀ s : State, s.readRegister .deskbase = half 0 s.desk.base)
    ∧ (∀ (s : State) (offset : Half), (s.deskAddr offset).toNat = s.desk.base.toNat * 65536 + offset.toNat)
    ∧ State.reset.desk.base = 0
    ∧ ∀ (s t : State) (operand : Byte), exec (.reset operand) s = .next t → t.desk.base = s.desk.base

/-- The registers other than DESKBASE. A write of EVENTS clears each of the four flags written with a 1 and no other; a write of EVENTMASK
replaces the four enables and the page bit; a write of STATUS is ignored. Nothing else changes, and the interrupt line stands exactly while
some flag and its enable are both 1. COMMAND and NUDGE read 0; EVENTS and EVENTMASK read their bits and 0 elsewhere; STATUS reads the page
that the page bit names, with the fields of TABLE 12-16 and 0 in the bits it does not name: on page 0 the controller, the halt cause, the
last result, whether a command is in progress, and the scanner; on page 1 the states shown of the Composer (BLOCKED until it has taken what
it waits for), the Exposure Sequencer and the Proof Renderer, PAUSED with the controller HALTED at their safe points. That the Exposure
Sequencer shows POSITIONING while moves complete after a cover opening is the model's choice (log entry 40); that a mount wait with the
cover open is COVER OPEN, and with it closed MOUNT WAIT, is its reading (log entry 18), and so is that a record of the proof in hand
between two commands waits for a band (log entry 3). -/
def Obligations.EventRegisterWrites : Prop :=
  (∀ (s : State) (v : Half), ∃ e : BitVec 4, exec (.eventsClear v) s = .next (s.modDesk fun d => { d with events := e })
    ∧ ∀ n < 4, e.getLsbD n = (s.desk.events.getLsbD n && !v.getLsbD n))
    ∧ (∀ (s : State) (v : Half), ∃ m : BitVec 4,
      exec (.eventmaskWrite v) s = .next (s.modDesk fun d => { d with mask := m, page := v.getLsbD 15 })
      ∧ ∀ n < 4, m.getLsbD n = v.getLsbD n)
    ∧ (∀ (s : State) (v : Half), exec (.registerWriteIgnored v) s = .next s)
    ∧ (∀ s : State, s.interrupt = true ↔ ∃ n < 4, s.desk.events.getLsbD n = true ∧ s.desk.mask.getLsbD n = true)
    ∧ (∀ s : State, s.readRegister .command = 0 ∧ s.readRegister .nudge = 0)
    ∧ (∀ (s : State) (n : Nat),
      ((s.readRegister .events).getLsbD n = true ↔ n < 4 ∧ s.desk.events.getLsbD n = true)
      ∧ ((s.readRegister .eventmask).getLsbD n = true ↔
        (n < 4 ∧ s.desk.mask.getLsbD n = true) ∨ (n = 15 ∧ s.desk.page = true)))
    ∧ (∀ s : State, s.desk.page = false →
      let controller : Nat := match s.desk.controller with | .stopped => 0 | .running => 1 | .halted => 2
      let cause : Nat := match s.desk.cause with
        | .none => 0 | .command => 1 | .setup => 2 | .deskFault => 3 | .home => 4 | .knife => 5 | .drum => 6
      let result : Nat := match s.desk.result with
        | .none => 0 | .accepted => 1 | .refusedBusy => 2 | .refusedState => 3 | .refusedSetup => 4 | .refusedOperand => 5
      let scanner : Nat := match s.scanner.state with | .idle => 0 | .watch => 1 | .locked => 2
      (s.readRegister .status).toNat =
        controller + 4 * cause + 32 * result + (if s.desk.busy = none then 0 else 256) + 512 * scanner)
    ∧ ∀ s : State, s.desk.page = true → ∃ c e p : Nat,
      (s.readRegister .status).toNat = c + 8 * e + 128 * p ∧ c ≤ 5 ∧ e ≤ 9 ∧ p ≤ 6
      ∧ (let halted := s.desk.controller = .halted
        let exposes := ∃ r leading items fonts, s.nextForFilm r ∧ r.work = .text leading items fonts ∧ ∃ it ∈ items, it.exposable = true
        (s.composer.phase = .idle → s.composer.preempt = none → c = 0)
        ∧ (∀ sel, s.composer.phase = .loading sel → c = 2)
        ∧ (∀ t, s.composer.phase = .searching t → c = 3)
        ∧ (s.composer.phase = .reading → c = if halted then 5 else 1)
        ∧ ((∃ x, s.composer.phase = .placing x) ∨ (∃ x, s.composer.phase = .hyphen x) ∨ (∃ g, s.composer.phase = .group g)
            ∨ (∃ l n, s.composer.phase = .lead l n) ∨ s.composer.phase = .closeCut
            ∨ (s.composer.phase = .openCut ∧ s.composer.galleyContent = true)
            ∨ (s.composer.phase = .begin ∧ ∃ i x, s.composer.ticket = some i ∧ s.flight[i] = some x ∧ x.kind = .cut
              ∧ x.finished = false) →
          c = if halted then 5 else 4)
        ∧ (halted → ((∃ t cs, s.composer.phase = .choosing t cs) ∨ s.composer.phase = .begin ∨ s.composer.phase = .contextWrite
            ∨ s.composer.phase = .readback ∨ (s.composer.phase = .idle ∧ s.composer.preempt ≠ none)) → c = 5)
        ∧ (∀ m, s.exposure.phase = .moving m → e = match m with | .runOut _ _ _ => 4 | _ => 1)
        ∧ (s.exposure.phase = .positioning ∨ s.exposure.phase = .coverHold → e = 2)
        ∧ (∀ stage, s.exposure.phase = .flashing stage → e = 3)
        ∧ (∀ k, s.exposure.phase = .knife k → e = 4)
        ∧ (halted → (s.exposure.phase = .idle ∨ s.exposure.phase = .mountWait ∨ s.exposure.phase = .mountReady
            ∨ (∃ g, s.exposure.phase = .needWait g) ∨ (∃ m, s.exposure.phase = .takeupWait m) ∨ s.exposure.phase = .drumWait
            ∨ ∃ k, s.exposure.phase = .knifeHeld k) → e = 9)
        ∧ (¬ halted → (s.exposure.phase = .idle → e = 0)
          ∧ (s.exposure.phase = .mountWait → (s.pins.coverOpen = false ∨ ¬ exposes → e = 5) ∧ (s.pins.coverOpen = true → exposes → e = 7))
          ∧ ((∃ g, s.exposure.phase = .needWait g) ∨ (∃ m, s.exposure.phase = .takeupWait m) → e = 6)
          ∧ (s.exposure.phase = .drumWait → e = 8))
        ∧ (s.proofsOn = false → p = 0)
        ∧ (s.proofsOn = true → (s.proof.dropping = true → p = 5)
          ∧ (s.proof.dropping = false →
            (halted → s.proof.sending = none → p = 6)
            ∧ (s.proof.sending ≠ none → s.pins.pbusy = true ∨ s.pins.pfault = true → p = 4)
            ∧ (s.proof.sending ≠ none → s.pins.pbusy = false → s.pins.pfault = false →
              p = if s.proof.drawing = none then 2 else 3)
            ∧ (¬ halted → s.proof.sending = none → p = if s.proof.drawing = none then 0 else 3))))

/-- A NUDGE, and an expiry of the rescan timer, ask for a scan: ignored while STOPPED; remembered in the pending flag while HALTED,
LOCKED, with a scan in flight or with all eight entries in use; else a scan starts. The timer is loaded again as it expires, but holds
at 1 while a scan is in flight, the flash-only scan held by a Desk fault among them. That an expiry of a timer that stands at 0 leaves
the state as it is, since a stopped timer does not expire, is the model's reading (log entry 3). -/
def Obligations.NudgeAndRescanTimerAskForAScan : Prop :=
  ∀ (s : State) (v : Half),
    let remembered := s.desk.controller = .halted ∨ s.scanner.state = .locked ∨ s.scanner.inFlight = true
      ∨ ∀ i : Fin 8, s.flight[i] ≠ none
    (s.desk.controller = .stopped → exec (.nudge v) s = .next s ∧ exec .rescanTimerExpiry s = .next s)
    ∧ (s.scanner.timer = 0 → exec .rescanTimerExpiry s = .next s)
    ∧ (s.desk.controller ≠ .stopped → remembered →
      exec (.nudge v) s = .next (s.modScanner fun c => { c with pendingFlag := true })
      ∧ (0 < s.scanner.timer → s.scanner.inFlight = false → s.scanner.held = none → exec .rescanTimerExpiry s =
        .next (s.modScanner fun c => { c with timer := s.desk.setup.rescan, pendingFlag := true })))
    ∧ (s.desk.controller ≠ .stopped → ¬ remembered →
      exec (.nudge v) s = .next (s.modScanner fun c => { c with inFlight := true })
      ∧ (0 < s.scanner.timer → s.scanner.held = none → exec .rescanTimerExpiry s =
        .next (s.modScanner fun c => { c with timer := s.desk.setup.rescan, inFlight := true })))
    ∧ (s.desk.controller ≠ .stopped → 0 < s.scanner.timer → s.scanner.inFlight = true ∨ s.scanner.held ≠ none →
      exec .rescanTimerExpiry s = .next (s.modScanner fun c => { c with timer := 1, timerAtOne := true }))

/-! ### The commands (spec 01, sections 2.4 and 2.5) -/

/-- With a command in progress every COMMAND write is refused BUSY; with none, a command whose condition of TABLE 2-5 does not hold is
refused STATE, a CANCEL of a slot above 31 or of a slot that no flight entry holds is refused OPERAND, and so is a write whose code is
no command; COMMAND is set, and with a START refused HALT too. The refusal changes the result field and EVENTS alone. BUSY before OPERAND
for an unknown code is the model's reading (log entry 10). -/
def Obligations.CommandsAreRefusedByTheirConditions : Prop :=
  ∀ (s : State) (code operand : Byte),
    let startRefused := fun r => Host.Outcome.next (φ := Fault) (ρ := Refusal)
      (s.modDesk fun d => { d with result := r, events := d.events ||| 4#4 ||| 8#4 })
    (s.desk.busy ≠ none →
      exec (.start operand) s = startRefused .refusedBusy
      ∧ ∀ c ∈ [Instr.halt operand, .resume operand, .reload operand, .sequence operand, .cancel operand,
        .reset operand, .unknownCommand code operand],
        exec c s = .next (s.modDesk fun d => d.ends .refusedBusy))
    ∧ (s.desk.busy = none →
      let refused := Host.Outcome.next (φ := Fault) (ρ := Refusal) (s.modDesk fun d => d.ends .refusedState)
      (s.desk.controller ≠ .stopped → exec (.start operand) s = startRefused .refusedState)
      ∧ (s.desk.controller ≠ .running → exec (.halt operand) s = refused)
      ∧ (s.desk.controller ≠ .halted → exec (.resume operand) s = refused)
      ∧ (s.desk.controller ≠ .halted ∨ ¬ s.noTickets ∨ s.store.records ≠ [] → exec (.reload operand) s = refused)
      ∧ (s.scanner.state ≠ .idle ∨ ¬ s.noTickets → exec (.sequence operand) s = refused)
      ∧ (s.desk.controller = .stopped → exec (.cancel operand) s = refused)
      ∧ (s.desk.controller ≠ .stopped →
          (31 < operand.toNat ∨ ∀ i : Fin 8, ∀ e, s.flight[i] = some e → e.slot ≠ operand.toNat) →
          exec (.cancel operand) s = .next (s.modDesk fun d => d.ends .refusedOperand))
      ∧ exec (.unknownCommand code operand) s = .next (s.modDesk fun d => d.ends .refusedOperand))

/-- HALT, taken with the controller RUNNING, makes it HALTED with cause COMMAND, sets HALT, and ends ACCEPTED at once; it touches no
block. -/
def Obligations.HaltStopsTheController : Prop :=
  ∀ (s : State) (operand : Byte), s.desk.busy = none → s.desk.controller = .running →
    exec (.halt operand) s =
      .next (s.modDesk fun d =>
        { d with controller := .halted, cause := .command, result := .accepted, events := d.events ||| 4#4 ||| 8#4 })

/-- RESUME of a part at rest (no ticket in flight, nothing held, every block idle): RUNNING with cause NONE, a scan started by its
trigger, and ACCEPTED; a band still being sent takes Setup's proof timeout (log entry 36, the model's reading of R13), and nothing else
changes. -/
def Obligations.ResumeOfAPartAtRest : Prop :=
  ∀ (s : State) (operand : Byte), s.desk.busy = none → s.desk.controller = .halted → s.desk.startStep = none →
    s.noTickets → s.noWrites → s.composerAtRest → s.composer.cancelWriteHeld = false →
    s.scanner.held = none → s.scanner.state = .idle → s.scanner.inFlight = false → s.scanner.pendingFlag = false →
    s.exposure.phase = .idle → s.proof.drawing = none → s.proof.bandA.state = .free → s.proof.bandB.state = .free →
    exec (.resume operand) s =
      .next (((s.modDesk fun d =>
        { d with controller := .running, cause := .none, result := .accepted, events := d.events ||| 8#4 }).modScanner
          fun c => { c with inFlight := true }).modProof
          fun p => { p with sending := p.sending.map fun x => { x with timeout := s.desk.setup.proofTimeout } })

/-- START of a Desk whose header fails its layout check is refused SETUP: STOPPED with halt cause SETUP, HALT and COMMAND set, and
nothing else in the part or in memory changed. -/
def Obligations.StartRefusedForItsLayoutChangesNothing : Prop :=
  ∀ (s : State) (operand : Byte), s.desk.busy = none → s.desk.controller = .stopped → s.bus = none →
    headerLayoutOk (s.bytes (s.deskAddr 0) 256) = false →
    exec (.start operand) s =
      .next (s.modDesk fun d => { d with cause := .setup, result := .refusedSetup, events := d.events ||| 4#4 ||| 8#4 })

/-- START of a Desk that passes its checks, with neither home input asserted: the copies of the header, the Grant Table, the Letter and
Pair Tables, the dictionary pointer, the glyph store, the sequence presets, the defaults and the cassette length of an insertion
remembered are taken, the Width Store is emptied, and the two homing moves are started together, the carriage toward tick 0 with 20,000
steps and the turret forward with 3,200; the command stays in progress, and the controller STOPPED. Memory, the Flight Table, the Line
Store, the Mount Table's positions and the galley number stand. That the glyph store is empty where the Proof Glyph Table pointer is 0 is
the model's reading (log entry 23), and so is that the carried default state has the default point size as its set size and lens 0 until
its take-up (log entry 14). -/
def Obligations.StartTakesTheDeskAndHomes : Prop :=
  ∀ (s : State) (operand : Byte), s.desk.busy = none → s.desk.controller = .stopped → s.bus = none →
    s.pins.home = false → s.pins.turretIndex = false →
    let h := s.bytes (s.deskAddr 0) 256
    let g := grantTable (s.bytes (s.deskAddr (headerAreas h).grantTable) 64)
    headerLayoutOk h = true →
    (∀ x ∈ [(longAt h 0x14, 224), (longAt h 0x18, 256), (longAt h 0x1C, 1344)],
      x.1 ≠ 0 → rangeAllowed s.desk.base g false x.1 x.2 = true) →
    ∃ t, exec (.start operand) s = .next t
      ∧ t.desk = { s.desk with
          busy := some .start, startStep := some .homing, areas := headerAreas h, grants := g, setupInUse := true
          setup := headerSetup h, glyphsGiven := longAt h 0x1C != 0 }
      ∧ t.hyphenation = ⟨s.deskTable (longAt h 0x14) 224, s.deskTable (longAt h 0x18) 256, addrAt h 0x10⟩
      ∧ t.proof.glyphs = s.deskTable (longAt h 0x1C) 1344
      ∧ t.scanner = { s.scanner with nextRoutine := halfAt h 0x0C, nextFlash := halfAt h 0x0E }
      ∧ t.composer = { s.composer with carried := some (defaultState (headerSetup h)), galleyContent := false }
      ∧ (∀ i : Fin 8, t.fonts.store[i] = none) ∧ t.fonts.compositionCounter = 0 ∧ t.fonts.confirmed = false
      ∧ t.fonts.mount = s.fonts.mount ∧ t.fonts.flashCount = s.fonts.flashCount
      ∧ t.film = { s.film with
          supply := if s.film.inserted then (headerSetup h).cassetteLength else s.film.supply, inserted := false }
      ∧ t.drum = { s.drum with nominal := some (headerSetup h).markInterval }
      ∧ t.motion.carriage = ⟨(headerSetup h).carriage.rate, (headerSetup h).carriage.high, (headerSetup h).carriage.low, false,
          20000, 20000, true, .moving⟩
      ∧ t.motion.turret = ⟨(headerSetup h).turret.rate, (headerSetup h).turret.high, (headerSetup h).turret.low, true,
          3200, 3200, true, .moving⟩
      ∧ t.motion.film = s.motion.film
      ∧ t.exposure.carriageAt = none ∧ t.exposure.turretAt = none ∧ t.exposure.track = none
      ∧ t.proof.baseline = 12 ∧ t.proof.printerRow = 0 ∧ t.proof.bandA.state = .free ∧ t.proof.bandB.state = .free
      ∧ t.mem = s.mem ∧ t.flight = s.flight ∧ t.store = s.store ∧ t.notices = s.notices ∧ t.pins = s.pins

/-- RELOAD of a Desk that passes its checks replaces the working copies, the Letter and Pair Tables, the dictionary pointer, the glyph
store and the drum's nominal interval among them, and ends ACCEPTED with the controller still HALTED. The rescan timer is stopped by an
interval of 0 and loaded if it stood at 0; proofs that become disabled free the bands and empty the notice set, and proofs that become
enabled form it from the printer; all else stands, the sequences, the Width Store, the Mount Table, the film state, the proof baseline
and memory among it. A header that fails its layout check ends it REFUSED SETUP with every copy as it was. That an interval of 0 stops the
timer, and that the glyph store is empty where its pointer is 0, is the model's reading (log entry 23); and so is that a band being sent
keeps its mirror setting and its timeout across RELOAD (log entry 36). That the port keeps the byte driven last where the band being sent is
abandoned is its choice (log entry 7). -/
def Obligations.ReloadReplacesTheCopies : Prop :=
  ∀ (s : State) (operand : Byte), s.desk.busy = none → s.desk.controller = .halted → s.noTickets → s.store.records = [] →
    s.bus = none →
    let h := s.bytes (s.deskAddr 0) 256
    let g := grantTable (s.bytes (s.deskAddr (headerAreas h).grantTable) 64)
    let glyphs := s.deskTable (longAt h 0x1C) 1344
    let setup := headerSetup h
    (headerLayoutOk h = false → exec (.reload operand) s = .next (s.modDesk fun d => d.ends .refusedSetup))
    ∧ (headerLayoutOk h = true →
      (∀ x ∈ [(longAt h 0x14, 224), (longAt h 0x18, 256), (longAt h 0x1C, 1344)],
        x.1 ≠ 0 → rangeAllowed s.desk.base g false x.1 x.2 = true) →
      ∃ t, exec (.reload operand) s = .next t
        ∧ t.desk = { s.desk with
            areas := headerAreas h, grants := g, setupInUse := true, setup := setup
            glyphsGiven := longAt h 0x1C != 0, result := .accepted, events := s.desk.events ||| 8#4 }
        ∧ t.hyphenation = ⟨s.deskTable (longAt h 0x14) 224, s.deskTable (longAt h 0x18) 256, addrAt h 0x10⟩
        ∧ t.scanner = { s.scanner with
            timer := if setup.rescan = 0 then 0 else if s.scanner.timer = 0 ∧ s.desk.started = true then setup.rescan
              else s.scanner.timer
            timerAtOne := if setup.rescan = 0 then false else s.scanner.timerAtOne }
        ∧ t.drum = { s.drum with nominal := some setup.markInterval }
        ∧ (s.proofsOn = t.proofsOn → t.proof = { s.proof with glyphs := glyphs } ∧ t.notices = s.notices)
        ∧ (s.proofsOn = true → t.proofsOn = false →
          t.proof = { s.proof with
            glyphs := glyphs, bandA := Band.initial, bandB := Band.initial, sending := none, drawing := none, timer := 0
            printer := false, dropping := false, separatorDue := false
            printerRow := (s.proof.sending.map fun x => 16 * x.band + 16).getD s.proof.printerRow }
          ∧ t.notices = (State.noticeSince .proof { t with notices := s.notices } s).notices)
        ∧ (s.proofsOn = false → t.proofsOn = true →
          t.proof = { s.proof with glyphs := glyphs, printer := s.pins.pfault || s.pins.busyLong }
          ∧ t.notices = (State.noticeSince .proof { t with notices := s.notices } s).notices)
        ∧ t.composer = s.composer ∧ t.fonts = s.fonts ∧ t.film = s.film ∧ t.store = s.store ∧ t.flight = s.flight
        ∧ t.resultWrite = s.resultWrite ∧ t.motion = s.motion ∧ t.exposure = s.exposure
        ∧ t.proof.baseline = s.proof.baseline ∧ t.mem = s.mem ∧ t.pins = s.pins ∧ t.bus = none
        ∧ t.freeCounter = s.freeCounter ∧ t.pending = s.pending)

/-- SEQUENCE, with the scanner IDLE, the Flight Table empty and no scan in flight, loads both next-sequence values from the presets in
the header and ends ACCEPTED, with a scan started if the controller is RUNNING. With a scan in flight that no Desk fault holds it waits
for that scan with the presets it has read, and when the scan ends, having found nothing to act on, it loads them and ends ACCEPTED, again
with a scan started if RUNNING. With a scan that a Desk fault holds it loads them at once, and, if RUNNING, a trigger is remembered. -/
def Obligations.SequenceLoadsThePresets : Prop :=
  (∀ (s : State) (operand : Byte), s.desk.busy = none → s.scanner.state = .idle → s.noTickets → s.bus = none →
    let presets := s.bytes (s.deskAddr 0x0C) 4
    (s.scanner.inFlight = false → exec (.sequence operand) s =
      .next ((s.modScanner fun c =>
        { c with
          nextRoutine := halfAt presets 0, nextFlash := halfAt presets 2
          inFlight := s.desk.controller == .running }).modDesk fun d => d.ends .accepted))
    ∧ (s.scanner.inFlight = true → s.scanner.held = none → exec (.sequence operand) s =
      .next (s.modDesk fun d => { d with busy := some (.sequence (halfAt presets 0) (halfAt presets 2)) }))
    ∧ (s.scanner.inFlight = true → s.scanner.held ≠ none → exec (.sequence operand) s =
      .next ((s.modScanner fun c =>
        { c with
          nextRoutine := halfAt presets 0, nextFlash := halfAt presets 2
          pendingFlag := c.pendingFlag || s.desk.controller == .running }).modDesk fun d => d.ends .accepted)))
    ∧ ∀ (s : State) (routine flash : Half), s.bus = none → s.desk.busy = some (.sequence routine flash) → s.scanner.state = .idle →
      s.noTickets → s.scanner.inFlight = true → s.scanner.held = none → s.scanner.pendingFlag = false →
      s.scanner.timerAtOne = false → s.composerAtRest →
      (∀ slot < 32,
        let b := s.bytes (s.slotAddr slot 0) 6
        byteAt b 0 ≠ 1
          ∨ 32768 ≤ ((if byteAt b 2 = 1 then s.scanner.nextFlash else s.scanner.nextRoutine) - halfAt b 4).toNat) →
      exec .scan s = .next { s with
        scanner := { s.scanner with nextRoutine := routine, nextFlash := flash, inFlight := s.desk.controller == .running }
        desk := { s.desk.ends .accepted with busy := none } }

/-- CANCEL, its ticket's slot in flight and no result of it being written: the cancel mark is set, each record of the ticket that stands
after both cursors gets its withdrawn flag, but for the closing cut of a flash, and no other record changes; and the galley-content flag
is set when a CUT with FILM is withdrawn so. With the ticket's composition finished the command then ends ACCEPTED, and every other
component stands but for what settles (R34). A routine TAKE ticket being composed is stopped as well: its line is discarded with its items
back in the pool, its entry is finished with the line start as its stop offset, the state as it stands is carried, and the scanner goes
to IDLE with a scan. That the closing cut stays is R41's word against R126's (log entry 34). -/
def Obligations.CancelOfADrainingTicket : Prop :=
  ∀ (s : State) (operand : Byte) (i : Fin 8) (e : Entry), s.desk.busy = none → s.desk.controller ≠ .stopped →
    operand.toNat ≤ 31 → s.flight[i] = some e → e.slot = operand.toNat →
    (∀ (j : Fin 8) (f : Entry), s.flight[j] = some f → f.slot = operand.toNat → j = i) →
    s.resultWrite = none → s.composer.preempt ≠ some i → s.composer.suspended ≠ some i →
    let reached := max s.store.film.reached s.store.proof.reached
    let withdrawn := fun (n : Nat) (r : Record) => decide (reached ≤ n) && (r.entry == i) && (r.work != .cut .flashClose)
    let records := s.store.records.mapIdx fun n r => if withdrawn n r then { r with withdrawn := true } else r
    let uncut := (s.store.records.mapIdx fun n r =>
      withdrawn n r && !r.withdrawn && r.toFilm && (match r.work with | .cut _ => true | _ => false)).any id
    (e.finished = true → exec (.cancel operand) s =
      .next (State.settle (((((s.modFlight fun v => v.set i.val (some { e with cancelMark := true })).modStore
        fun l => { l with records := records }).modComposer
        fun c => { c with galleyContent := c.galleyContent || uncut }).modDesk fun d => d.ends .accepted))))
    ∧ (e.finished = false → e.cls = .routine → e.kind = .take → s.composer.ticket = some i → s.composer.phase = .reading →
      s.composer.preempt = none → s.scanCanStart → exec (.cancel operand) s =
      .next (State.settle { s with
        store := { s.store with records := records, free := s.store.free + s.composer.drawn }
        flight := s.flight.set i.val (some
          { e with cancelMark := true, stopOffset := s.composer.lineStart, finished := true })
        composer := ({ s.composer with
          galleyContent := s.composer.galleyContent || uncut
          line := ⟨[], none, 0⟩, drawn := 0, readPosition := s.composer.lineStart }).released s.composer.current
        scanner := s.scanner.released
        desk := s.desk.ends .accepted }))

/-- The RESET command, taken with no command in progress: the controller STOPPED with cause NONE, EVENTS cleared and then COMMAND set,
with HALT if it was RUNNING, result ACCEPTED; the Flight Table, the Line Store, the pool, the bands, the line and the Width Store empty;
the scanner IDLE with its sequences kept; positions unknown; DESKBASE, EVENTMASK, the Setup and Grant Table copies, the Mount Table, the
galley number and the supply kept; the film state unknown if a galley was open; and, with no write in flight, memory untouched. That the
input lines' levels stand through it, but for the home input of a channel whose move it stops, is the model's choice (log entries 4 and
48). -/
def Obligations.ResetCommandReturnsToStopped : Prop :=
  ∀ (s : State) (operand : Byte), s.desk.busy = none → ∃ t, exec (.reset operand) s = .next t
    ∧ t.desk = { s.desk with
        controller := .stopped, cause := .none, result := .accepted, startStep := none, started := false, setupInUse := false
        events := if s.desk.controller = .running then 12#4 else 8#4 }
    ∧ t.noTickets ∧ t.resultWrite = none ∧ t.store = ⟨[], 1536, ⟨0, false⟩, ⟨0, false⟩⟩
    ∧ (∀ i : Fin 8, t.fonts.store[i] = none) ∧ t.fonts.compositionCounter = 0
    ∧ t.fonts.mount = s.fonts.mount ∧ t.fonts.flashCount = s.fonts.flashCount ∧ t.fonts.confirmed = s.fonts.confirmed
    ∧ t.scanner.state = .idle ∧ t.scanner.pendingFlag = false ∧ t.scanner.inFlight = false ∧ t.scanner.timer = 0
    ∧ t.scanner.nextRoutine = s.scanner.nextRoutine ∧ t.scanner.nextFlash = s.scanner.nextFlash
    ∧ t.composer.phase = .idle ∧ t.composer.ticket = none ∧ t.composer.line.codes = [] ∧ t.composer.drawn = 0
    ∧ t.composer.galleyContent = false
    ∧ t.exposure.phase = .idle ∧ t.exposure.carriageAt = none ∧ t.exposure.turretAt = none ∧ t.exposure.track = none
    ∧ t.exposure.lampTimer = 0 ∧ t.exposure.drumTimer = 0
    ∧ (∀ k : Channel, (t.motion.channel k).busy = false ∧ (t.motion.channel k).counter = 0)
    ∧ t.drum.state ≠ .scanning ∧ t.drum.nominal = s.drum.nominal ∧ t.drum.bandRead = false
    ∧ t.film = { s.film with
        position := 0, deepest := 0, galleyOpen := false, mark := none, unknown := s.film.unknown || s.film.galleyOpen
        filmOut := false, knife := false, knifeTimer := 0 }
    ∧ t.proof.baseline = 12 ∧ t.proof.printerRow = 0 ∧ t.proof.bandA = Band.initial ∧ t.proof.bandB = Band.initial
    ∧ t.proof.drawing = none ∧ t.proof.sending = none ∧ t.proof.dropping = false ∧ t.proof.separatorDue = false
    ∧ t.proof.glyphs = s.proof.glyphs
    ∧ t.notices.drum = false ∧ t.notices.mount = none ∧ s.pinsThroughReset t.pins
    ∧ (s.noWrites → t.mem = s.mem)

/-! ### Writes of the part into the Desk, and bus errors (R19, R20, R34) -/

/-- A result write reaches its end: result bytes 0x18 to 0x2F and then the state byte are written, TICKET is set, and the entry leaves
the table; every other byte of memory stands. With the table not full and no CANCEL waiting for this write, nothing else changes but
what settles (R34). -/
def Obligations.ResultWriteCompletes : Prop :=
  ∀ (s : State) (i : Fin 8) (e : Entry) (f : Final), s.bus = none → s.resultWrite = some ⟨i, f, false⟩ → s.flight[i] = some e →
    (∃ j : Fin 8, s.flight[j] = none) → s.desk.busy ≠ some (.cancel i) →
    ∃ t, exec .resultWrite s = .next t
      ∧ t = State.settle (((((s.storeBytes (s.slotAddr e.slot 0x18) (e.results f).bytes).storeBytes
          (s.slotAddr e.slot 0) [f.code]).modFlight fun v => v.set i.val none).setResultWrite none).modDesk
          fun d => { d with events := d.events ||| 1#4 })
      ∧ (s.memoryLaw → t.byte (s.slotAddr e.slot 0) = f.code)
      ∧ (s.memoryLaw → ∀ n < 24, some (t.byte (Addr.plus (s.slotAddr e.slot 0x18) n)) = (e.results f).bytes[n]?)
      ∧ ∀ a : Addr, outsideRun a (s.slotAddr e.slot 0x18) 24 → a ≠ s.slotAddr e.slot 0 → t.byte a = s.byte a

/-- A notice write reaches its end: the eight bytes of the record are written, NOTICE is set, and the record is written once more only if
what it should show has changed; every other byte of memory stands. In step 4 of START, or of the RESUME that carries it out, the write
that leaves none in flight makes step 5 as well: RUNNING with cause NONE, the rescan timer loaded, a scan started by its trigger, and the
command ended ACCEPTED. That a notice changed meanwhile is written again in step 4 too, with the controller still STOPPED, is the model's
reading (log entry 23); that the record written is the one that the area offsets name at the write's end is its choice (log entry 41). -/
def Obligations.NoticeWriteCompletes : Prop :=
  ∀ (s : State) (o : Owner) (n : Notice), s.bus = none → (s.notices.writer o).inFlight = some n →
    (s.notices.writer o).held = false →
    let written := ((s.storeBytes (s.noticeAddr o) n.bytes).modDesk fun d => { d with events := d.events ||| 2#4 }).modNotices
      fun x => x.modWriter o fun _ => ⟨some n, if s.noticeShown o = n then none else some (s.noticeShown o), false⟩
    let last := s.noticeShown o = n ∧ ∀ p : Owner, p ≠ o → (s.notices.writer p).inFlight = none
    (s.desk.startStep ≠ some .notices ∨ ¬ last →
      ∃ t, exec (.noticeWriteDone o) s = .next t ∧ t = written
        ∧ (s.memoryLaw → ∀ k < 8, some (t.byte (Addr.plus (s.noticeAddr o) k)) = n.bytes[k]?)
        ∧ ∀ a : Addr, outsideRun a (s.noticeAddr o) 8 → t.byte a = s.byte a)
    ∧ (s.desk.startStep = some .notices → s.desk.starts → last → s.scanner.state ≠ .locked → s.scanner.inFlight = false →
      s.scanner.pendingFlag = false → (∃ j : Fin 8, s.flight[j] = none) →
      exec (.noticeWriteDone o) s = .next { written with
        desk := { s.desk with
          controller := .running, cause := .none, startStep := none, started := true, busy := none, result := .accepted
          events := s.desk.events ||| 2#4 ||| 8#4 }
        scanner := { s.scanner with timer := s.desk.setup.rescan, timerAtOne := false, inFlight := true } })

/-- A bus error in a result write, with the controller RUNNING, in its result bytes or at the state byte: a Desk fault halts it, the write
is held for RESUME with its entry in the table, the bytes acknowledged before the failing one are written, and the failing byte, those
after it and the state byte are not, so that the ticket's state byte is as it was. A bus error at the locked write of TAKEN, in a scan that
refuses a stale ticket: a Desk fault too, the refusal held, and the slot's state byte TAKEN exactly where the failing write reached it all
the same; of host memory nothing else changes. How a bus error is told to the model is its own choice (log entry 9). -/
def Obligations.BusErrorHoldsTheResultWrite : Prop :=
  (∀ (s : State) (i : Fin 8) (e : Entry) (f : Final) (acked : Nat) (landed : Bool), s.resultWrite = some ⟨i, f, false⟩ →
    s.flight[i] = some e → s.desk.controller = .running → s.desk.busy = none → s.bus = none → acked ≤ 24 →
    ∃ t, exec (.busError .resultWrite acked landed) s = .next t
      ∧ t = (((s.storeBytes (s.slotAddr e.slot 0x18) ((e.results f).bytes.take acked)).modDesk
          fun d => { d with controller := .halted, cause := .deskFault, events := d.events ||| 4#4 }).setResultWrite
          (some ⟨i, f, true⟩))
      ∧ t.byte (s.slotAddr e.slot 0) = s.byte (s.slotAddr e.slot 0)
      ∧ ∀ a : Addr, outsideRun a (s.slotAddr e.slot 0x18) acked → t.byte a = s.byte a)
    ∧ ∀ (s : State) (slot : Nat) (landed : Bool), s.bus = none → s.desk.controller = .running → s.desk.busy = none → s.scanRuns →
      s.noTickets → slot < 32 → (∀ k < slot, byteAt (s.bytes (s.slotAddr k 0) 6) 0 ≠ 1) →
      let b := s.bytes (s.slotAddr slot 0) 6
      let behind := ((if byteAt b 2 = 1 then s.scanner.nextFlash else s.scanner.nextRoutine) - halfAt b 4).toNat
      byteAt b 0 = 1 → 1 ≤ behind → behind ≤ 32767 →
      exec (.busError .scan (6 * slot + 7) landed) s = .next { s with
        mem := if landed then (s.storeBytes (s.slotAddr slot 0) [2]).mem else s.mem
        scanner := { s.scanner with held := some (.staleLock slot) }
        desk := { s.desk with controller := .halted, cause := .deskFault, events := s.desk.events ||| 4#4 } }

/-- The Flight Table settles: with the controller RUNNING, every entry that is finished with no outstanding record, and for which the
Composer has nothing more to append, is due and stays due; a result write is in flight afterwards, of a due entry and with its final
state, whenever one is due; and everything else of each entry, and every other component of the state, stands. That one result write is in
flight at a time is the model's reading (log entry 13). -/
def Obligations.SettleBeginsTheResultWriteOfADueEntry : Prop :=
  ∀ s : State,
    (∀ (i : Fin 8) (e : Entry), s.flight[i] = some e → s.settle.flight[i] = some { e with
      due := e.due || (decide (s.desk.controller = .running) && e.finished && (e.outstanding == 0)
        && (s.composer.ticket != some i) && (s.composer.preempt != some i)) })
    ∧ (∀ i : Fin 8, s.flight[i] = none → s.settle.flight[i] = none)
    ∧ (∀ w, s.resultWrite = some w → s.settle.resultWrite = some w)
    ∧ (s.resultWrite = none → (∃ i : Fin 8, ∃ e, s.settle.flight[i] = some e ∧ e.due = true) →
      ∃ i : Fin 8, ∃ e, s.settle.flight[i] = some e ∧ e.due = true ∧ s.settle.resultWrite = some ⟨i, e.final, false⟩)
    ∧ (s.resultWrite = none → (∀ i : Fin 8, ∀ e, s.settle.flight[i] = some e → e.due = false) → s.settle.resultWrite = none)
    ∧ s.settle = { s with
        flight := s.settle.flight, resultWrite := s.settle.resultWrite, freeCounter := s.settle.freeCounter }

/-! ### The Ticket Scanner (spec 02, section 3.2) -/

/-- A scan that finds no slot it may act on: each slot belongs to a ticket in flight, or is not FILED, or holds a sequence ahead of its
class's next one. The scan ends, and with no trigger remembered and the Composer at rest nothing else changes but what settles (R34). -/
def Obligations.ScanWithNothingToActOnEnds : Prop :=
  ∀ s : State, s.bus = none → s.scanner.inFlight = true → s.scanner.held = none → s.scanner.pendingFlag = false →
    s.scanner.timerAtOne = false → (∀ r f, s.desk.busy ≠ some (.sequence r f)) → s.composerAtRest →
    (∀ slot < 32,
      let b := s.bytes (s.slotAddr slot 0) 6
      (∃ (i : Fin 8) (e : Entry), s.flight[i] = some e ∧ e.slot = slot) ∨ byteAt b 0 ≠ 1
        ∨ 32768 ≤ ((if byteAt b 2 = 1 then s.scanner.nextFlash else s.scanner.nextRoutine) - halfAt b 4).toNat) →
    exec .scan s = .next (State.settle (s.modScanner fun c => { c with inFlight := false }))

/-- A scan that finds one FILED ticket it may act on takes it: its state byte becomes TAKEN, the next sequence of its class rises by one,
and it stands in flight entry 0 as its slot gives it. A routine TAKE ticket that passes its validation is taken by a scan in IDLE, and no
other byte of memory changes. A flash TAKE ticket is taken by a scan in WATCH, while a routine TAKE ticket is being composed: the scanner
is LOCKED, the line is discarded with its items back in the pool, the routine ticket is suspended with its line start and snapshot, the
Context Record is written with them, and no other byte of memory changes; with content on the galley and the ring full the Composer is
then BLOCKED at the FLASH-OPEN cut. That the scanner state which says what a scan looks for is the one at its reads is the model's choice
(log entry 37). -/
def Obligations.ScanTakesTheRoutineTicketInTurn : Prop :=
  (∀ (s : State) (slot : Nat), s.bus = none → s.memoryLaw → s.desk.controller = .running → s.scanner.state = .idle →
    s.scanner.inFlight = true → s.scanner.held = none → s.scanner.pendingFlag = false → s.scanner.timerAtOne = false →
    (∀ r f, s.desk.busy ≠ some (.sequence r f)) → s.noTickets → s.resultWrite = none →
    s.composer.phase = .idle → s.composer.preempt = none → s.composer.ticket = none → slot < 32 →
    let t := s.bytes (s.slotAddr slot 0) 24
    byteAt t 0 = 1 → byteAt t 1 = 1 → byteAt t 2 ≠ 1 → byteAt t 3 &&& 3 ≠ 0 → halfAt t 4 = s.scanner.nextRoutine →
    halfAt t 10 ≠ 0 → s.allowed false (longAt t 12) (halfAt t 10).toNat = true → longAt t 16 = 0 →
    (∀ k < 32, k ≠ slot → byteAt (s.bytes (s.slotAddr k 0) 6) 0 ≠ 1) →
    ∃ u, exec .scan s = .next u
      ∧ u.byte (s.slotAddr slot 0) = 2 ∧ (∀ a : Addr, a ≠ s.slotAddr slot 0 → u.byte a = s.byte a)
      ∧ u.scanner.nextRoutine = s.scanner.nextRoutine + 1 ∧ u.scanner.nextFlash = s.scanner.nextFlash
      ∧ (∃ e, u.flight[(0 : Fin 8)] = some e ∧ e.slot = slot ∧ e.cls = .routine ∧ e.kind = .take
        ∧ e.takePtr = addrAt t 12 ∧ e.takeLength = (halfAt t 10).toNat ∧ e.toFilm = (byteAt t 3).getLsbD 0
        ∧ e.toProof = (byteAt t 3).getLsbD 1 ∧ e.stopMask = halfAt t 6 ∧ e.logCapacity = 0)
      ∧ ∀ i : Fin 8, i ≠ 0 → u.flight[i] = none)
    ∧ ∀ (s : State) (slot : Nat) (j : Fin 8) (e : Entry), s.bus = none → s.memoryLaw → s.desk.controller = .running →
      s.scanner.state = .watch → s.scanRuns → s.flight[(0 : Fin 8)] = none → s.flight[j] = some e → e.kind = .take →
      (∀ (i : Fin 8) (f : Entry), s.flight[i] = some f → f.slot ≠ slot) →
      s.composer.phase = .reading → s.composer.preempt = none → s.composer.ticket = some j → slot < 32 →
      let t := s.bytes (s.slotAddr slot 0) 24
      let context := s.areaAddr s.desk.areas.context 0
      let record := contextBytes (some j) s.composer.lineStart s.composer.snapshot
      byteAt t 0 = 1 → byteAt t 1 = 1 → byteAt t 2 = 1 → byteAt t 3 &&& 3 ≠ 0 → halfAt t 4 = s.scanner.nextFlash →
      halfAt t 10 ≠ 0 → s.allowed false (longAt t 12) (halfAt t 10).toNat = true → longAt t 16 = 0 →
      (∀ k < 32, k ≠ slot → byteAt (s.bytes (s.slotAddr k 0) 6) 0 ≠ 1) →
      s.composer.galleyContent = true → 16 ≤ s.store.records.length →
      ∃ u, exec .scan s = .next u
        ∧ u.mem = ((s.storeBytes (s.slotAddr slot 0) [2]).storeBytes context record).mem
        ∧ (∀ n < 64, some (u.byte (Addr.plus context n)) = record[n]?)
        ∧ record.take 4 = [1, BitVec.ofNat 8 j.val] ++ natBytes s.composer.lineStart
        ∧ (∀ a : Addr, a ≠ s.slotAddr slot 0 → outsideRun a context 64 → u.byte a = s.byte a)
        ∧ u.scanner = { s.scanner with state := .locked, inFlight := false, nextFlash := s.scanner.nextFlash + 1 }
        ∧ u.composer = { s.composer with
            phase := .openCut, ticket := some 0, suspended := some j, line := ⟨[], none, 0⟩, drawn := 0
            readPosition := s.composer.lineStart, savedOffset := s.composer.lineStart, saved := s.composer.snapshot }
        ∧ u.store = { s.store with free := s.store.free + s.composer.drawn }
        ∧ ∃ f, u.flight[(0 : Fin 8)] = some f ∧ f.slot = slot ∧ f.cls = .flash ∧ f.kind = .take ∧ f.finished = false
          ∧ f.takePtr = addrAt t 12 ∧ f.takeLength = (halfAt t 10).toNat

/-- The stale refusal. A scan whose one FILED ticket that no flight entry holds bears a sequence 1 to 32,767 behind its class's next one
refuses it: the state byte becomes TAKEN, the result bytes say STALE with no masked condition and 0 elsewhere, the state byte becomes
REFUSED, TICKET is set and the scan ends; every other byte of memory and component stands but for what settles (R34). Of the locked
sequence alone: with the state byte still FILED it refuses the slot so, and with any other state byte the slot is left as it is. -/
def Obligations.StaleTicketIsRefused : Prop :=
  ∀ (s : State) (slot : Nat), s.bus = none → s.memoryLaw →
    let results := [1, 0xFF] ++ List.replicate 22 (0 : Byte)
    (s.scanRuns → s.composerAtRest → slot < 32 → (∀ (i : Fin 8) (e : Entry), s.flight[i] = some e → e.slot ≠ slot) →
      (∀ k < 32, k ≠ slot → byteAt (s.bytes (s.slotAddr k 0) 6) 0 ≠ 1) →
      let b := s.bytes (s.slotAddr slot 0) 6
      let behind := ((if byteAt b 2 = 1 then s.scanner.nextFlash else s.scanner.nextRoutine) - halfAt b 4).toNat
      byteAt b 0 = 1 → 1 ≤ behind → behind ≤ 32767 →
      ∃ u, exec .scan s = .next (State.settle u)
        ∧ u = (((((s.storeBytes (s.slotAddr slot 0) [2]).storeBytes (s.slotAddr slot 0x18) results).storeBytes
            (s.slotAddr slot 0) [5]).modDesk fun d => { d with events := d.events ||| 1#4 }).modScanner
            fun c => { c with inFlight := false })
        ∧ u.byte (s.slotAddr slot 0) = 5
        ∧ (∀ n < 24, some (u.byte (Addr.plus (s.slotAddr slot 0x18) n)) = results[n]?)
        ∧ ∀ a : Addr, outsideRun a (s.slotAddr slot 0x18) 24 → a ≠ s.slotAddr slot 0 → u.byte a = s.byte a)
    ∧ (s.byte (s.slotAddr slot 0) = 1 → ∃ u, s.refuseStale slot false = (true, u)
      ∧ u = { s with mem := u.mem, desk := { s.desk with events := s.desk.events ||| 1#4 } }
      ∧ u.byte (s.slotAddr slot 0) = 5
      ∧ (∀ n < 24, some (u.byte (Addr.plus (s.slotAddr slot 0x18) n)) = results[n]?)
      ∧ ∀ a : Addr, outsideRun a (s.slotAddr slot 0x18) 24 → a ≠ s.slotAddr slot 0 → u.byte a = s.byte a)
    ∧ (s.byte (s.slotAddr slot 0) ≠ 1 → s.refuseStale slot false = (true, s))

/-! ### The take language (spec 03) -/

/-- The composition commands that place nothing: each sets its own part of the composition state and no other, and leaves its conditions
in the line being built. Set size is clamped to 10 to 144 and the letterspace limit to 15, raising CLAMPED; a tab stop above 15 sets
none and raises CLAMPED. -/
def Obligations.CompositionCommandsSetTheirOwnValue : Prop :=
  ∀ (s : State) (i : Fin 8) (e : Entry) (n lo hi : Byte),
    let became := fun (size : Nat) (conditions : Half) (c : CompState) =>
      Host.Outcome.next (φ := Fault) (ρ := Refusal)
        (State.settle (s.modComposer fun k => { k.afterCode size (k.trace conditions) with current := c }))
    let now := s.composer.current
    (s.readsCode i e [0x7C] → exec .hyphenationOff s = became 1 0 { now with hyphenation := false })
    ∧ (s.readsCode i e [0x7D] → exec .hyphenationOn s = became 1 0 { now with hyphenation := true })
    ∧ (s.readsCode i e [0x83, n] → exec .leading s = became 2 0 { now with leading := n.toNat })
    ∧ (s.readsCode i e [0x82, n] → exec .setSize s =
      became 2 (if n.toNat < 10 ∨ 144 < n.toNat then 0x80 else 0) { now with setSize := max 10 (min 144 n.toNat) })
    ∧ (s.readsCode i e [0x8C, n] → exec .letterspaceLimit s =
      became 2 (if 15 < n.toNat then 0x80 else 0) { now with letterspace := min 15 n.toNat })
    ∧ (s.readsCode i e [0x88, n, lo, hi] → exec .tabStopSet s =
      if n.toNat ≤ 15 then became 4 0 { now with tabs := now.tabs.set n.toNat (some (half lo hi).toNat) } else became 4 0x80 now)

/-- The point size code takes the nearest nonempty Lens Table size, the smaller of two that are equally near and the lower position of
two that hold one size: the point size, the lens position and the set size become it, and a size that differs from the one asked for
raises SUBSTITUTED. -/
def Obligations.PointSizeTakesTheNearestLens : Prop :=
  ∀ (s : State) (i : Fin 8) (e : Entry) (p : Byte) (j : Fin 8),
    let size := fun k : Fin 8 => s.desk.setup.lens[k]
    let gap := fun k : Fin 8 => ((size k : Int) - p.toNat).natAbs
    s.readsCode i e [0x81, p] → size j ≠ 0 →
    (∀ k : Fin 8, size k ≠ 0 →
      gap j < gap k ∨ (gap j = gap k ∧ size j < size k) ∨ (gap j = gap k ∧ size j = size k ∧ j ≤ k)) →
    exec .pointSize s = .next (State.settle (s.modComposer fun k =>
      { k.afterCode 2 (k.trace (if size j = p.toNat then 0 else 0x40)) with
        current := { k.current with pointSize := size j, lens := j, setSize := size j } }))

/-- The measure code clamps its operand to 17,280 ticks and both indents to the new measure; an indent code clamps its own indent to the
measure in effect; each raises CLAMPED once where it clamps. -/
def Obligations.MeasureAndIndentsAreClamped : Prop :=
  ∀ (s : State) (i : Fin 8) (e : Entry) (lo hi : Byte),
    let n := (half lo hi).toNat
    let m := min 17280 n
    let now := s.composer.current
    let became := fun (clamped : Prop) [Decidable clamped] (c : CompState) =>
      Host.Outcome.next (φ := Fault) (ρ := Refusal)
        (State.settle (s.modComposer fun k => { k.afterCode 3 (k.trace (if clamped then 0x80 else 0)) with current := c }))
    (s.readsCode i e [0x85, lo, hi] → exec .measure s =
      became (17280 < n ∨ m < now.indentLeft ∨ m < now.indentRight)
        { now with measure := m, indentLeft := min m now.indentLeft, indentRight := min m now.indentRight })
    ∧ (s.readsCode i e [0x86, lo, hi] → exec .indentLeft s =
      became (now.measure < n) { now with indentLeft := min now.measure n })
    ∧ (s.readsCode i e [0x87, lo, hi] → exec .indentRight s =
      became (now.measure < n) { now with indentRight := min now.measure n })

/-- The font code. An operand above 63 raises BAD CODE and changes nothing else. With the font's directory entry valid and its strip ID
not 0: a resident font of the entry's revision is selected at once, its slot stamped with a new counter value and given the entry's
strip ID; a font that is not resident is LOADING, into the lowest EMPTY slot, from a table the grants allow. The load, complete with a
table that passes its check, fills that slot and selects the font. The load of the state read back at the end of a flash chain fills its
slot too, writes 0 into the Context Record's Valid byte, and resumes the TAKE ticket suspended at its resume offset, with the state read
back as its snapshot and the scanner in WATCH; or, with none suspended, carries that state, with the scanner IDLE and a scan. -/
def Obligations.FontCodeSelectsOrLoadsAFont : Prop :=
  (∀ (s : State) (i : Fin 8) (e : Entry) (f : Byte), s.readsCode i e [0x80, f] → 63 < f.toNat →
    exec .font s = .next (State.settle (s.modComposer fun k => k.afterCode 2 (k.trace 0x100))))
    ∧ (∀ (s : State) (i : Fin 8) (e : Entry) (f : Byte) (j : Fin 8), s.readsCode i e [0x80, f] → f.toNat ≤ 63 →
      let d := s.bytes (s.areaAddr s.desk.areas.fontDirectory (12 * f.toNat)) 12
      byteAt d 0 ≠ 0 → halfAt d 2 ≠ 0 →
      (∀ x : FontSlot, s.fonts.holdsOnly f.toNat j x → x.revision = byteAt d 1 →
        exec .font s = .next (State.settle ((s.modFonts fun c =>
          { c with
            compositionCounter := c.compositionCounter + 1
            store := c.store.set j.val (some { x with strip := halfAt d 2, stamp := c.compositionCounter + 1 }) }).modComposer
          fun k => { k.afterCode 2 (k.trace 0) with current := { k.current with font := f.toNat } })))
      ∧ ((∀ (k : Fin 8) (x : FontSlot), s.fonts.store[k] = some x → x.font ≠ f.toNat) →
        s.fonts.store[j] = none → (∀ k < j, s.fonts.store[k] ≠ none) → s.allowed false (longAt d 4) 128 = true →
        exec .font s = .next (State.settle (s.modComposer fun k =>
          { k.afterCode 2 (k.trace 0) with
            phase := .loading ⟨f.toNat, byteAt d 1, halfAt d 2, BitVec.ofNat 24 (longAt d 4), j, .code⟩ }))))
    ∧ ∀ (s : State) (sel : Selection), s.bus = none → s.composer.phase = .loading sel → s.composer.preempt = none →
      (∀ i, s.desk.busy ≠ some (.cancel i)) →
      let t := widthTable (s.bytes sel.table 128)
      let filled := { s.fonts with
        compositionCounter := s.fonts.compositionCounter + 1
        store := s.fonts.store.set sel.target.val
          (some ⟨sel.font, sel.revision, sel.strip, t, s.fonts.compositionCounter + 1⟩) }
      t.ok = true →
      (sel.purpose = .code → exec .widthTableLoad s = .next (State.settle { s with
        fonts := filled
        composer := { s.composer with current := { s.composer.current with font := sel.font }, phase := .reading } }))
      ∧ (sel.purpose = .restore → s.composer.ticket = none → s.desk.controller = .running → s.scanner.pendingFlag = false →
        let mem := (s.storeBytes (s.areaAddr s.desk.areas.context 0) [0]).mem
        (∀ i e, s.composer.suspended = some i → s.flight[i] = some e → e.kind = .take →
          exec .widthTableLoad s = .next (State.settle { s with
            mem := mem
            fonts := filled
            scanner := { s.scanner with state := .watch }
            composer := { s.composer with
              ticket := some i, suspended := none, snapshot := s.composer.current, lineStart := s.composer.resumeOffset
              readPosition := s.composer.resumeOffset, phase := .reading } }))
        ∧ (s.composer.suspended = none → s.scanner.inFlight = false → (∃ j : Fin 8, s.flight[j] = none) →
          exec .widthTableLoad s = .next (State.settle { s with
            mem := mem
            fonts := filled
            scanner := s.scanner.released
            composer := { s.composer with carried := some s.composer.current, line := ⟨[], none, 0⟩, phase := .idle } })))

/-- The codes that draw no item. Em, en and thin spaces place 60, 30 and 12 units at the set size in effect; the discretionary hyphen
marks its place; fill leaves nothing; a byte above 0x8D raises BAD CODE; tab to, move to and move by place the measure word of their
operand, VOID for a stop that is undefined or above 15. Nothing else changes but what settles (R34). -/
def Obligations.CodesThatDrawNoItem : Prop :=
  ∀ (s : State) (i : Fin 8) (e : Entry) (n lo hi : Byte),
    let became := fun (size : Nat) (c : LineCode) =>
      Host.Outcome.next (φ := Fault) (ρ := Refusal) (State.settle (s.modComposer fun k => k.afterCode size c))
    let plain := s.composer.trace 0
    (∀ x ∈ [((0x71 : Byte), 60), (0x72, 30), (0x73, 12)], s.readsCode i e [x.1] →
      exec .fixedSpace s = became 1 { plain with element := some (.fixed ((x.2 * s.composer.current.setSize * 8 + 1) / 3)) })
    ∧ (s.readsCode i e [0x74] → exec .discretionaryHyphen s = became 1 { plain with discretionary := true })
    ∧ (s.readsCode i e [0x7E] → exec .fill s = .next (State.settle (s.modComposer fun k => k.pastCode 1)))
    ∧ (s.readsCode i e [n] → 0x8E ≤ n.toNat → exec .badCode s = became 1 (s.composer.trace 0x100))
    ∧ (s.readsCode i e [0x89, n] → exec .tabTo s = became 2 { plain with
        element := some (.place (match if n.toNat ≤ 15 then s.composer.current.tabs.getD n.toNat none else none with
          | some t => if t ≤ 32767 then .num (16 * t) else .overPlus
          | none => .void)) })
    ∧ (s.readsCode i e [0x8A, lo, hi] → exec .moveTo s = became 3 { plain with
        element := some (.place (if (half lo hi).toNat ≤ 32767 then .num (16 * (half lo hi).toNat) else .overPlus)) })
    ∧ (s.readsCode i e [0x8B, lo, hi] → exec .moveBy s = became 3 { plain with
        element := some (.shift (.num (16 * (half lo hi).toInt))) })

/-- A character code with the font in effect resident. An unassigned character leaves an en space and SUBSTITUTED. Any other draws its
item from the pool, fixes the line settings if it is the line's first, and is placed with its width; with no item free the Composer is
BLOCKED at it. A character that would pass a limit of its line, the 256th item or a ninth font, is dropped from a tabular line with FORCED;
a line that is not tabular and fits ends before it in JUSTIFY mode with FORCED, and waits to be appended, where its ticket masks none of
its conditions and the ring has no room, with the character to be placed in the next line. -/
def Obligations.CharacterIsPlacedOrSubstituted : Prop :=
  ∀ (s : State) (i : Fin 8) (e : Entry) (c : Byte) (j : Fin 8) (x : FontSlot),
    s.readsCode i e [c] → c.toNat ≤ 0x6F → s.fonts.holdsOnly s.composer.current.font j x →
    let units := (x.table.widths.getD c.toNat 255).toNat
    let placed := s.composer.characterTrace c.toNat units x
    (units = 255 → exec .character s = .next (State.settle (s.modComposer fun k => k.afterCode 1
      { k.trace 0x40 with element := some (.fixed ((30 * k.current.setSize * 8 + 1) / 3)) })))
    ∧ (units ≠ 255 → s.composer.roomForCharacter → 0 < s.store.free →
      exec .character s = .next (State.settle ((s.modStore fun l => { l with free := l.free - 1 }).modComposer fun k =>
        { k with
          readPosition := k.readPosition + 1
          drawn := k.drawn + 1
          line := { k.line.fix k.current with codes := k.line.codes ++ [placed] } })))
    ∧ (units ≠ 255 → s.composer.roomForCharacter → s.store.free = 0 →
      exec .character s = .next (State.settle (s.modComposer fun k =>
        { k with readPosition := k.readPosition + 1, phase := .placing placed })))
    ∧ (units ≠ 255 → ¬ s.composer.roomForCharacter → (∃ z ∈ elementsOf s.composer.line.codes, z.isPlacing = true) →
      exec .character s = .next (State.settle (s.modComposer fun k => k.afterCode 1 (k.trace 4))))
    ∧ (units ≠ 255 → ¬ s.composer.roomForCharacter → (∀ z ∈ elementsOf s.composer.line.codes, z.isPlacing = false) →
      fits (elementsOf s.composer.line.codes) s.composer.settings.effective = true →
      (∀ z ∈ s.composer.line.codes, z.offset < s.composer.readPosition) →
      let g := s.composer.brokenLine s.composer.line.codes [] none 4 s.composer.readPosition s.composer.current (.place placed)
        e.lineNumber
      s.groupWaits e g → exec .character s = .next (State.settle (s.blockedAtGroup i e g (s.composer.pastCode 1))))

/-- A word space with the font in effect resident: discarded on an empty line; a justifying space of the font's three widths where the
line with the word before it needs no break; and where it needs one that a dictionary lookup must be made for, the Composer is
SEARCHING with the space still to come. Where the candidates are gathered without a lookup the line is broken at once: at the chosen
point with a hyphen drawn from the pool (or BLOCKED at the draw), or before the word, or, the word being alone, by a forced break within
it or at its space; and the line ended waits to be appended, where its ticket masks none of its conditions and the ring has no room.
The point chosen is the rightmost preferred one whose trial fits, else the rightmost allowed one; a forced break keeps the longest
prefix that fits, else the first width-bearing element; and a hyphen takes the strip ID of its font's slot. That it keeps its character's
strip ID where no slot holds its font any more is the model's choice (log entry 32), and so are that a line keeps the settings that an item
its break carries has fixed (log entry 38) and that the test is the same in a line whose E is below one em (log entry 44). -/
def Obligations.WordSpaceIsDiscardedPlacedOrTested : Prop :=
  (∀ (s : State) (i : Fin 8) (e : Entry) (j : Fin 8) (x : FontSlot),
    s.readsCode i e [0x70] → s.fonts.holdsOnly s.composer.current.font j x →
    let width := fun u => (u * s.composer.current.setSize * 8 + 1) / 3
    let mn := width x.table.spaceMin
    let op := width x.table.spaceOpt
    let mx := width x.table.spaceMax
    (s.composer.lineIsEmpty → exec .wordSpace s = .next (State.settle (s.modComposer fun k => k.pastCode 1)))
    ∧ (¬ s.composer.lineIsEmpty → s.composer.needsNoBreak →
      exec .wordSpace s = .next (State.settle (s.modComposer fun k =>
        k.afterCode 1 { k.trace 0 with element := some (.space mn op mx) })))
    ∧ (¬ s.composer.lineIsEmpty → ¬ s.composer.needsNoBreak →
      let source := candidateSource s.hyphenation s.desk.setup s.composer.current (splitWord s.composer.line.codes).2
      let k := s.composer
      let past := k.pastCode 1
      let space := Trigger.space k.readPosition mn op mx
      let before := (splitWord k.line.codes).1
      let word := (splitWord k.line.codes).2
      let effective := k.settings.effective
      let point := fun cs => choosePoint k.line.codes (charsOf (s.hyphenation.core word)) effective cs
      let waits := fun (u : State) (g : EndedLine) (c : Composer) =>
        u.groupWaits e g → exec .wordSpace s = .next (State.settle (u.blockedAtGroup i e g c))
      (source = .lookup →
        exec .wordSpace s = .next (State.settle (s.modComposer fun _ => { past with phase := .searching space })))
      ∧ ∀ cs, source = .gathered cs →
        (∀ (h : Glyph) (o : Nat), point cs = some (h, o) →
          (s.store.free = 0 →
            exec .wordSpace s = .next (State.settle (s.modComposer fun _ => { past with phase := .hyphen ⟨h, o, space⟩ })))
          ∧ (0 < s.store.free →
            waits (s.modStore fun l => { l with free := l.free - 1 })
              (k.brokenAt o (some (s.placedHyphen h)) 0 (.retest space) e.lineNumber) { past with drawn := past.drawn + 1 }))
        ∧ (point cs = none → (∃ c ∈ before, c.widthBearing = true) →
          ∀ c, word.find? LineCode.widthBearing = some c → waits s (k.brokenAt c.offset none 0 (.retest space) e.lineNumber) past)
        ∧ (point cs = none → (∀ c ∈ before, c.widthBearing = false) →
          (∀ o, forcedOffset word effective = some o → waits s (k.brokenAt o none 4 (.retest space) e.lineNumber) past)
          ∧ (forcedOffset word effective = none →
            waits s (k.brokenLine (k.line.codes ++ [{ k.trace 0 with element := some (.space mn op mx) }]) [] none 4
              (k.readPosition + 1) k.current .readOn e.lineNumber) past))))
    ∧ (∀ (codes : List LineCode) (chars : List (Nat × Glyph)) (effective : Int) (cs : List Candidate),
      cs.Pairwise (fun c d => c.after < d.after) →
      let fit := fun c => trial codes chars effective c
      (∀ c ∈ cs, fit c ≠ none →
        (∀ d ∈ cs, fit d ≠ none → d = c ∨ (c.preferred = true ∧ d.preferred = false) ∨ (c.preferred = d.preferred ∧ d.after < c.after)) →
        choosePoint codes chars effective cs = fit c)
      ∧ ((∀ c ∈ cs, fit c = none) → choosePoint codes chars effective cs = none))
    ∧ (∀ (word : List LineCode) (effective : Int),
      let wide := word.filter LineCode.widthBearing
      let fit := fun c : LineCode => fits (elementsOf (word.filter fun d => d.offset < c.offset)) effective = true
      (wide.length ≤ 1 → forcedOffset word effective = none)
      ∧ ∀ (n : Nat) (c : LineCode), 1 ≤ n → wide[n]? = some c → (∀ m d, n < m → wide[m]? = some d → ¬ fit d) →
        fit c ∨ n = 1 → forcedOffset word effective = some c.offset)
    ∧ ∀ (s : State) (h : Glyph),
      (∀ j x, s.fonts.holdsOnly h.font j x → s.placedHyphen h = { h with strip := x.strip })
      ∧ ((∀ (k : Fin 8) (y : FontSlot), s.fonts.store[k] = some y → y.font ≠ h.font) → s.placedHyphen h = h)

/-- The film codes. REVERSE and ADVANCE of 0 leave nothing, with eight codes held as well (log entry 30, the model's reading of R63). In
a line that is not empty a film code is held, and with eight held it raises BAD CODE instead. In an empty line its LEAD record is appended
at once, the line start and snapshot move past the code, and the galley-content flag is set; codes before it leave their conditions alone
in the line that begins after it (log entry 31, the model's reading). With the ring full the Composer is BLOCKED at it. -/
def Obligations.FilmCodesAreAppendedOrHeld : Prop :=
  ∀ (s : State) (i : Fin 8) (e : Entry) (lo hi : Byte),
    let became := fun u : State => Host.Outcome.next (φ := Fault) (ρ := Refusal) u.settle
    (s.readsCode i e [0x84, 0, 0] → exec .reverseLead s = became (s.modComposer fun k => k.pastCode 3))
    ∧ (s.readsCode i e [0x8D, 0, 0] → exec .leadNow s = became (s.modComposer fun k => k.pastCode 3))
    ∧ ∀ x ∈ [(Instr.markColumnTop, [(0x7A : Byte)], Lead.mark), (.returnToMark, [0x7B], .toMark),
        (.reverseLead, [0x84, lo, hi], .reverse (half lo hi).toNat), (.leadNow, [0x8D, lo, hi], .advance (half lo hi).toNat)],
      s.readsCode i e x.2.1 → x.2.2 ≠ .reverse 0 → x.2.2 ≠ .advance 0 →
      let size := x.2.1.length
      let past := s.composer.readPosition + size
      (¬ s.composer.lineIsEmpty → (heldFilm s.composer.line.codes).length < 8 →
        exec x.1 s = became (s.modComposer fun k => k.afterCode size { k.trace 0 with film := some x.2.2 }))
      ∧ (¬ s.composer.lineIsEmpty → 8 ≤ (heldFilm s.composer.line.codes).length →
        exec x.1 s = became (s.modComposer fun k => k.afterCode size (k.trace 0x100)))
      ∧ (s.composer.lineIsEmpty → s.store.records.length < 16 →
        exec x.1 s = became { s with
          store := s.store.appended s.proofsOn [⟨i, e.lineNumber, e.toFilm, e.toProof, false, 0, .lead x.2.2⟩]
          flight := s.flight.set i.val (some { e with outstanding := e.outstanding + 1 })
          composer := { s.composer with
            readPosition := past, lineStart := past, snapshot := s.composer.current, galleyContent := true
            line := ⟨[], none, s.composer.line.conditions ||| codeConditions s.composer.line.codes⟩ } })
      ∧ (s.composer.lineIsEmpty → 16 ≤ s.store.records.length →
        exec x.1 s = became (s.modComposer fun k => { k with readPosition := past, phase := .lead x.2.2 past }))

/-- The codes 0x75 to 0x78, and 0x79 in a line that is not empty, end the line being built in their quad mode, where the line needs no
break, raises no condition its ticket masks, and finds room in the ring: its TEXT record and the LEAD records of its held film codes are
appended with its conditions and settings, its 16-byte entry is written where the ticket's log has room, the ticket's counts rise, and
the next line begins after the code. No other byte of memory changes. -/
def Obligations.EndCodesAppendTheLine : Prop :=
  ∀ (s : State) (i : Fin 8) (e : Entry),
    ∀ x ∈ [(Instr.endLine, (0x75 : Byte), Quad.left), (.endLine, 0x76, .center), (.endLine, 0x77, .right),
      (.endLine, 0x78, .justify), (.endParagraph, 0x79, .left)],
    s.readsCode i e [x.2.1] → (x.2.1 = 0x79 → ¬ s.composer.lineIsEmpty) → s.composer.needsNoBreak →
    (∀ n < 9, (s.composer.lineConditions x.2.2 e.lineNumber &&& e.stopMask).getLsbD n = false) →
    s.store.records.length + (s.composer.lineGroup i e x.2.2).length ≤ 16 →
    ∃ t, exec x.1 s = .next (State.settle t)
      ∧ t = { s with
        mem := s.loggedMem e (s.composer.lineLog e x.2.2)
        store := s.store.appended s.proofsOn (s.composer.lineGroup i e x.2.2)
        flight := s.flight.set i.val (some (s.composer.lineEntry i e x.2.2))
        composer := s.composer.afterLine e x.2.2 }
      ∧ ∀ a : Addr, (e.logOpen → outsideRun a e.logAddr 16) → t.byte a = s.byte a

/-- The code 0x79, and 0x7F, in an empty line that raises no condition its ticket masks: no record is made, the line's conditions are
reported under the line number, and 0x7F finishes the ticket's composition with its own offset as the stop offset; a routine ticket
then leaves the Composer and carries its state, and the scanner goes to IDLE with a scan. That the line start stands, and that the
settings of the empty line are formed, is the model's reading (log entry 15); that the codes read in the empty line are in no later word is
its choice (log entry 31). -/
def Obligations.EmptyLineEndsWithoutARecord : Prop :=
  ∀ (s : State) (i : Fin 8) (e : Entry), s.composer.lineIsEmpty →
    let raised := codeConditions s.composer.line.codes ||| (s.composer.line.fix s.composer.current).conditions
    let reported := e.report e.lineNumber raised
    let past := { s.composer.pastCode 1 with line := ⟨[], none, 0⟩ }
    (∀ n < 9, (raised &&& e.stopMask).getLsbD n = false) →
    (s.readsCode i e [0x79] →
      exec .endParagraph s = .next (State.settle { s with flight := s.flight.set i.val (some reported), composer := past }))
    ∧ (s.readsCode i e [0x7F] → e.cls = .routine → s.scanCanStart →
      exec .endOfTake s = .next (State.settle { s with
        flight := s.flight.set i.val (some { reported with stopOffset := s.composer.readPosition, finished := true })
        composer := past.released s.composer.current
        scanner := s.scanner.released }))

/-- The code 0x7F in a line that is not empty appends the line as 0x79 would, with its log entry, and finishes the ticket's composition.
Said of a routine ticket. -/
def Obligations.EndOfTakeAppendsTheLineAndFinishes : Prop :=
  ∀ (s : State) (i : Fin 8) (e : Entry), s.readsCode i e [0x7F] → ¬ s.composer.lineIsEmpty → s.composer.needsNoBreak →
    (∀ n < 9, (s.composer.lineConditions .left e.lineNumber &&& e.stopMask).getLsbD n = false) →
    s.store.records.length + (s.composer.lineGroup i e .left).length ≤ 16 → e.cls = .routine → s.scanCanStart →
    exec .endOfTake s = .next (State.settle { s with
      mem := s.loggedMem e (s.composer.lineLog e .left)
      store := s.store.appended s.proofsOn (s.composer.lineGroup i e .left)
      flight := s.flight.set i.val (some
        { s.composer.lineEntry i e .left with stopOffset := s.composer.readPosition, finished := true })
      composer := (s.composer.afterLine e .left).released { s.composer.current with ladder := 0 }
      scanner := s.scanner.released })

/-- A routine ticket is stopped where its take runs out at a code or at an operand, with reason TAKE OVERRUN; and where a line it ends
raises a condition of its stop mask, with reason MASKED and the lowest such condition, the line's conditions being reported first. Its
line is discarded with its items back in the pool, its stop offset is the line start, the snapshot is restored and carried, and the
scanner goes to IDLE with a scan. -/
def Obligations.RoutineTicketIsStopped : Prop :=
  ∀ (s : State) (i : Fin 8) (e : Entry), s.bus = none → s.composer.phase = .reading → s.composer.preempt = none →
    s.composer.ticket = some i → s.flight[i] = some e → e.cls = .routine → s.scanCanStart →
    (e.takeLength ≤ s.composer.readPosition
        ∨ e.takeLength < s.composer.readPosition + 1 + operandCount (s.byte (Addr.plus e.takePtr s.composer.readPosition)) →
      exec .takeOverrun s = .next (State.settle (s.stopsRoutine i e .takeOverrun none)))
    ∧ ∀ (x : Byte × Quad) (b : Nat), x ∈ [((0x75 : Byte), Quad.left), (0x76, .center), (0x77, .right), (0x78, .justify)] →
      s.readsCode i e [x.1] → s.composer.needsNoBreak → b < 9 →
      let raised := s.composer.lineConditions x.2 e.lineNumber
      (raised &&& e.stopMask).getLsbD b = true → (∀ n < b, (raised &&& e.stopMask).getLsbD n = false) →
      exec .endLine s = .next (State.settle (s.stopsRoutine i (e.report e.lineNumber raised) .masked (some b)))

/-! ### The waits of the Composer (spec 05, spec 07) -/

/-- A dictionary lookup ends, no cancel or flash waiting for it. With its bucket empty it gives the word's pair candidates; with the first
entry of the chain holding the word, the candidates of that entry's mask; kept in both cases within the bounds of Setup. In a part that is
HALTED the outcome is taken at once (log entry 20, the model's reading), and the choice of point follows at RESUME. In a RUNNING part the
line is broken at once: at the point chosen among them, with a hyphen drawn from the pool (or BLOCKED at the draw); or before the word; or,
the word being alone, by a forced break within it or, at a space, at that space; and the line ended waits to be appended, where its ticket
masks none of its conditions and the ring has no room. A hyphen whose font has left the Width Store keeps its character's strip ID, the
model's choice (log entry 32), and settings fixed by an item that the break carries stay, the model's choice too (log entry 38); so is that
a line whose E is below one em is broken as any other (log entry 44). -/
def Obligations.DictionaryLookupGivesCandidates : Prop :=
  ∀ (s : State) (t : Trigger), s.bus = none → s.composer.phase = .searching t → s.composer.preempt = none →
    (∀ j, s.desk.busy ≠ some (.cancel j)) →
    let k := s.composer
    let before := (splitWord k.line.codes).1
    let word := (splitWord k.line.codes).2
    let effective := k.settings.effective
    let chars := charsOf (s.hyphenation.core word)
    let key := chars.map fun c => s.hyphenation.foldOf c.2.code
    let bucket := s.hyphenation.dictionary.toNat + 4 * ((3 * natAt key 0 + natAt key 1 + key.length) % 64)
    let found := longAt (s.bytes (BitVec.ofNat 24 bucket) 4) 0
    let entry := s.bytes (BitVec.ofNat 24 (found + 1)) (4 + key.length)
    let became := fun u : State => exec .dictionaryLookup s = .next (State.settle u)
    let gives := fun cs : List Candidate =>
      let kept := cs.filter (keepPoint s.desk.setup chars.length)
      let point := choosePoint k.line.codes chars effective kept
      (s.desk.controller = .halted → became (s.modComposer fun k => { k with phase := .choosing t kept }))
      ∧ (s.desk.controller = .running → ∀ (i : Fin 8) (e : Entry), k.ticket = some i → s.flight[i] = some e →
        let waits := fun (u : State) (g : EndedLine) (c : Composer) => u.groupWaits e g → became (u.blockedAtGroup i e g c)
        (∀ (h : Glyph) (o : Nat), point = some (h, o) →
          (s.store.free = 0 → became (s.modComposer fun k => { k with phase := .hyphen ⟨h, o, t⟩ }))
          ∧ (0 < s.store.free →
            waits (s.modStore fun l => { l with free := l.free - 1 })
              (k.brokenAt o (some (s.placedHyphen h)) 0 (.retest t) e.lineNumber) { k with drawn := k.drawn + 1 }))
        ∧ (point = none → (∃ c ∈ before, c.widthBearing = true) →
          ∀ c, word.find? LineCode.widthBearing = some c → waits s (k.brokenAt c.offset none 0 (.retest t) e.lineNumber) k)
        ∧ (point = none → (∀ c ∈ before, c.widthBearing = false) →
          (∀ o, forcedOffset word effective = some o → waits s (k.brokenAt o none 4 (.retest t) e.lineNumber) k)
          ∧ ∀ o mn op mx, t = .space o mn op mx → forcedOffset word effective = none →
            waits s (k.brokenLine (k.line.codes ++ [⟨o, k.current, some (.space mn op mx), false, none, 0⟩]) [] none 4 (o + 1) k.current
              .readOn e.lineNumber) k))
    s.allowed false bucket 4 = true →
    (found = 0 → gives (s.hyphenation.pairCandidates chars))
    ∧ (found ≠ 0 → s.allowed false found 1 = true → natAt (s.bytes (BitVec.ofNat 24 found) 1) 0 = key.length →
      1 ≤ key.length → key.length ≤ 31 → s.allowed false (found + 1) (4 + key.length) = true → entry.take key.length = key →
      gives (maskPoints (longAt entry key.length)))

/-- A BLOCKED Composer goes on as soon as it can, and while what it waits for is not free it waits (log entry 3). At a character, with an
item free, the character is placed. At a film code of an empty line, with a place free, its LEAD record is appended, and codes before it
leave their conditions alone (log entry 31). At the group of an ended line, with places for all of it, the group is appended, its log
entry written where the ticket's log has room, and the next line begun; and the space or character that broke it is tried there. At
the leading cut of a flash its FLASH-OPEN record is appended; at a CUT ticket its own record, and the ticket is finished. At the closing
cut FLASH-CLOSE is appended, and the flash-only scan made: a flash ticket in turn that it finds is taken and begun; with every flight
entry in use it is passed, the Context Record is read back and taken up, and its font, not resident, is LOADING. That a carried part's settings are
formed from the state at the break is the model's reading (log entry 15), and so is the set size of the state taken up (log entry 14). -/
def Obligations.BlockedComposerGoesOn : Prop :=
  ∀ (s : State) (i : Fin 8) (e : Entry), s.bus = none → s.desk.controller = .running → s.composer.preempt = none →
    s.composer.ticket = some i → s.flight[i] = some e →
    let room := 16 - s.store.records.length
    let one := fun (film proof : Bool) (w : Work) =>
      s.store.appended s.proofsOn [⟨i, e.lineNumber, film, proof, false, 0, w⟩]
    let counted := { e with outstanding := e.outstanding + 1 }
    let became := fun u : State => exec .groupAppend s = .next (State.settle u)
    (∀ (c : LineCode) (g : Glyph), s.composer.phase = .placing c → c.element = some (.glyph g) →
      g.font = s.composer.current.font → s.composer.roomForCharacter →
      (s.store.free = 0 → exec .itemDraw s = .next s)
      ∧ (0 < s.store.free →
        exec .itemDraw s = .next (State.settle ((s.modStore fun l => { l with free := l.free - 1 }).modComposer fun k =>
          { k with
            drawn := k.drawn + 1
            line := { k.line.fix k.current with codes := k.line.codes ++ [c] }
            phase := .reading }))))
    ∧ (∀ (l : Lead) (n : Nat), s.composer.phase = .lead l n →
      (room = 0 → exec .groupAppend s = .next s)
      ∧ (0 < room → became { s with
          store := one e.toFilm e.toProof (.lead l)
          flight := s.flight.set i.val (some counted)
          composer := { s.composer with
            line := ⟨[], none, s.composer.line.conditions ||| codeConditions s.composer.line.codes⟩
            lineStart := n, snapshot := s.composer.current, galleyContent := true, phase := .reading } }))
    ∧ (∀ g : EndedLine, s.composer.phase = .group g →
      (room < 1 + g.leads.length → exec .groupAppend s = .next s)
      ∧ (1 + g.leads.length ≤ room →
        let ladder := if g.hyphenated then min 255 (s.composer.current.ladder + 1) else 0
        let current := { s.composer.current with ladder := ladder }
        let next := { s.composer with
          drawn := s.composer.drawn - g.items.length
          galleyContent := true
          current := current
          lineStart := g.nextStart
          snapshot := { g.snapshot with ladder := ladder }
          line := Line.carriedFrom g.carried current
          phase := .reading }
        let goesOn := fun k : Composer => became { s with
          mem := s.loggedMem e (logEntry e.lineNumber s.composer.lineStart g.items.length g.hyphenated g.quad g.conditions g.natural
            g.firstSpace)
          store := s.store.appended s.proofsOn
            (⟨i, e.lineNumber, e.toFilm, e.toProof, false, g.conditions, .text g.leadTicks g.items g.fonts⟩
              :: g.leads.map fun l => ⟨i, e.lineNumber, e.toFilm, e.toProof, false, 0, .lead l⟩)
          flight := s.flight.set i.val (some (Entry.logged
            { e with
              outstanding := e.outstanding + (1 + g.leads.length)
              linesSet := e.linesSet + 1
              hyphenated := if g.hyphenated then e.hyphenated + 1 else e.hyphenated
              lineNumber := e.lineNumber + 1 }))
          composer := k }
        (g.after = .readOn → goesOn next)
        ∧ (∀ c x, g.after = .place c → c.element = some (.glyph x) → g.carried = [] → s.store.free = 0 →
          goesOn { next with phase := .placing c })
        ∧ (∀ o mn op mx, g.after = .retest (.space o mn op mx) → next.needsNoBreak →
          goesOn { next with line := { next.line with
            codes := next.line.codes ++ [⟨o, current, some (.space mn op mx), false, none, 0⟩] } })))
    ∧ (s.composer.phase = .openCut → s.composer.galleyContent = true → e.kind = .cut → e.finished = false →
      (room = 0 → exec .groupAppend s = .next s)
      ∧ (room = 1 → became { s with
          store := one true true (.cut .flashOpen)
          flight := s.flight.set i.val (some counted)
          composer := { s.composer with galleyContent := false, phase := .begin } }))
    ∧ (s.composer.phase = .begin → e.kind = .cut → e.finished = false →
      let finished := { counted with finished := true }
      let content := s.composer.galleyContent && !e.toFilm
      (room = 0 → exec .groupAppend s = .next s)
      ∧ (e.cls = .flash → room = 1 → became { s with
          store := one e.toFilm e.toProof (.cut .flash)
          flight := s.flight.set i.val (some finished)
          composer := { s.composer with galleyContent := content, phase := .closeCut } })
      ∧ (e.cls = .routine → 0 < room → s.scanCanStart → became { s with
          store := one e.toFilm e.toProof (.cut .routine)
          flight := s.flight.set i.val (some finished)
          composer := { s.composer with galleyContent := content, ticket := none, phase := .idle }
          scanner := s.scanner.released }))
    ∧ (s.composer.phase = .closeCut → s.scanner.held = none → s.scanner.timerAtOne = false →
      let flight := s.flight.set i.val (some counted)
      (room = 0 → exec .groupAppend s = .next s)
      ∧ (0 < room → (∀ j : Fin 8, s.flight[j] ≠ none) →
        let r := s.bytes (s.areaAddr s.desk.areas.context 0) 64
        let taken := takeUp s.desk.setup (contextState r).1
        let d := s.bytes (s.areaAddr s.desk.areas.fontDirectory (12 * taken.1.font)) 12
        ∀ j : Fin 8, byteAt d 0 ≠ 0 → halfAt d 2 ≠ 0 →
          (∀ (k : Fin 8) (x : FontSlot), s.fonts.store[k] = some x → x.font ≠ taken.1.font) →
          s.fonts.store[j] = none → (∀ k < j, s.fonts.store[k] ≠ none) → s.allowed false (longAt d 4) 128 = true →
          became { s with
            store := one true true (.cut .flashClose)
            flight := flight
            composer := { s.composer with
              ticket := none
              galleyContent := false
              current := taken.1
              resumeOffset := contextOffset r
              line := ⟨[], none, taken.2 ||| if (contextState r).2 then 0x80 else 0⟩
              phase := .loading ⟨taken.1.font, byteAt d 1, halfAt d 2, BitVec.ofNat 24 (longAt d 4), j, .restore⟩ } })
      ∧ ∀ slot < 32, room = 1 → s.flight[(0 : Fin 8)] = none →
        (∀ (j : Fin 8) (f : Entry), s.flight[j] = some f → f.slot ≠ slot) →
        let t := s.bytes (s.slotAddr slot 0) 24
        byteAt t 0 = 1 → byteAt t 1 = 2 → byteAt t 2 = 1 → byteAt t 3 &&& 3 ≠ 0 → halfAt t 4 = s.scanner.nextFlash →
        (∀ k < 32, k ≠ slot → byteAt (s.bytes (s.slotAddr k 0) 6) 0 ≠ 1) →
        ∃ f, f.slot = slot ∧ f.cls = .flash ∧ f.kind = .cut ∧ f.finished = false ∧ f.toFilm = (byteAt t 3).getLsbD 0
          ∧ f.toProof = (byteAt t 3).getLsbD 1
          ∧ became { s with
            mem := (s.storeBytes (s.slotAddr slot 0) [2]).mem
            store := one true true (.cut .flashClose)
            flight := flight.set 0 (some f)
            scanner := { s.scanner with state := .locked, nextFlash := s.scanner.nextFlash + 1 }
            composer := { s.composer with galleyContent := false, ticket := some 0, phase := .begin } })

/-! ### The Measure Unit (spec 04) -/

/-- Measure words are added by R69 in either order and negated as it says; the words that are no NUM lie in no range it asks about: a line
whose W_min is one does not fit, and an item there is not exposable. -/
def Obligations.MeasureWordsAreAddedAndNegated : Prop :=
  (∀ x y : MeasureWord, x.add y = y.add x)
    ∧ (∀ x : MeasureWord, MeasureWord.add .void x = .void)
    ∧ (∀ x : MeasureWord, x = .overPlus ∨ (∃ n, x = .num n) → MeasureWord.add .overPlus x = .overPlus)
    ∧ (∀ x : MeasureWord, x = .overMinus ∨ (∃ n, x = .num n) → MeasureWord.add .overMinus x = .overMinus)
    ∧ MeasureWord.add .overPlus .overMinus = .void
    ∧ (∀ x y : Int, MeasureWord.add (.num x) (.num y) =
      if 524287 < x + y then .overPlus else if x + y < -524288 then .overMinus else .num (x + y))
    ∧ (∀ x : Int, -524288 < x → x ≤ 524287 → MeasureWord.neg (.num x) = .num (-x))
    ∧ MeasureWord.neg (.num (-524288)) = .overPlus ∧ MeasureWord.neg .overPlus = .overMinus
    ∧ MeasureWord.neg .overMinus = .overPlus ∧ MeasureWord.neg .void = .void
    ∧ (∀ (es : List Element) (effective : Int), (∀ n, minWidth es ≠ .num n) → fits es effective = false)
    ∧ MeasureWord.exposable .overPlus = false ∧ MeasureWord.exposable .overMinus = false ∧ MeasureWord.exposable .void = false

/-- The law of escapement: the carriage tick of an exposable item at x fine is floor((x + 8) ÷ 16), from 0 to 18,000, stored with the item,
and lies less than 8 fine below x and at most 8 above it. -/
def Obligations.CarriageTickKeepsTheLawOfEscapement : Prop :=
  (∀ x : Int, 0 ≤ x → x ≤ 288007 →
    let t := MeasureWord.tick (.num x)
    (t : Int) = Int.fdiv (x + 8) 16 ∧ t ≤ 18000 ∧ 16 * (t : Int) ≤ x + 8 ∧ x - 8 < 16 * (t : Int))
    ∧ ∀ (g : Glyph) (w : MeasureWord), itemsOf [g] [w] = [⟨g.kind, g.font, g.lens, g.code, w, w.tick⟩]

/-- A line ended in JUSTIFY mode with counting spaces, fitting, not tabular and not loose: every space takes its opt width plus
floor(S ÷ n), and r of them 1 fine more, the first r on an odd line number and the last r on an even one; the widths together take up
the slack exactly; nothing goes between letters; and TIGHT is raised exactly when a space lies below its min. That the slack is taken
from the exact sum even where W_opt is OVER+ is the model's reading (log entry 16). -/
def Obligations.JustificationSpreadsTheSlack : Prop :=
  ∀ (es : List Element) (st : Settings) (lineNumber : Nat),
    let spaces := countingSpaces es
    let n := spaces.length
    let slack := st.effective - exactOpt es
    let q := Int.fdiv slack n
    let r := slack - q * n
    let set := settingOf es st .justify lineNumber
    glyphsOf es ≠ [] → tabular es = false → fits es st.effective = true → n ≠ 0 →
    (∀ x ∈ spaces, (x.2.1 : Int) + q ≤ x.2.2) →
    set.quad = .justify ∧ set.offset = 0 ∧ (∀ a ∈ set.gaps, a = 0)
      ∧ set.spaces.length = n
      ∧ (∀ (k : Nat) (x : Nat × Nat × Nat), spaces[k]? = some x →
        set.spaces[k]? = some (x.2.1 + q + if (if lineNumber % 2 = 1 then (k : Int) < r else n - r ≤ k) then 1 else 0))
      ∧ set.spaces.sum = (spaces.map fun x => (x.2.1 : Int)).sum + slack
      ∧ (set.conditions.getLsbD 1 = true ↔ ∃ (k : Nat) (x : Nat × Nat × Nat) (w : Int),
        spaces[k]? = some x ∧ set.spaces[k]? = some w ∧ w < (x.1 : Int))

/-! ### Exposure and film (spec 06, spec 08, spec 09) -/

/-- The record before the film cursor, the controller RUNNING and the Exposure Sequencer IDLE. A withdrawn record and one without FILM
are skipped, and released with its items once both cursors are past it. A MARK sets the mark; an ADVANCE and a REVERSE start the film
channel; a CUT starts its run-out, or with no galley open is finished at once; a TEXT record with exposable items waits for the ID scan
while the Mount Table is not confirmed. -/
def Obligations.ExposureSequencerTakesARecord : Prop :=
  ∀ (s : State) (r : Record), s.desk.controller = .running → s.exposure.phase = .idle → s.nextForFilm r →
    let fresh := fun n : Nat => s.film.position + n - s.film.deepest
    let moving := fun (supply n : Nat) (forward : Bool) (m : Movement) => Host.Outcome.next (φ := Fault) (ρ := Refusal) { s with
      store := s.store.filmHolds
      film := { s.film with supply := supply }
      motion := { s.motion with
        film := ⟨s.desk.setup.film.rate, s.desk.setup.film.high, s.desk.setup.film.low, forward, n, n, true, .none⟩ }
      exposure := s.exposure.taken (.moving m) }
    (r.withdrawn = true ∨ r.toFilm = false →
      (s.store.proof.passed = 0 →
        exec .exposureTakeRecord s = .next (State.settle (s.modStore LineStore.filmPast)))
      ∧ (s.store.film.passed = 0 → 0 < s.store.proof.passed →
        exec .exposureTakeRecord s = .next (State.settle { s with
          store := { s.store with
            records := s.store.records.tail
            free := s.store.free + r.itemCount
            film := ⟨0, false⟩
            proof := { s.store.proof with passed := s.store.proof.passed - 1 } }
          flight := s.flight.set r.entry.val
            (s.flight[r.entry].map fun e => { e with outstanding := e.outstanding - 1 }) })))
    ∧ (r.withdrawn = false → r.toFilm = true →
      (r.work = .lead .mark → s.store.proof.passed = 0 →
        exec .exposureTakeRecord s = .next (State.settle { s with
          store := s.store.filmPast
          film := { s.film with mark := some s.film.position }
          exposure := s.exposure.taken .idle }))
      ∧ (∀ c, r.work = .cut c → s.film.galleyOpen = false → s.store.proof.passed = 0 →
        exec .exposureTakeRecord s = .next (State.settle { s with
          store := s.store.filmPast, exposure := s.exposure.taken .idle }))
      ∧ (∀ c, r.work = .cut c → s.film.galleyOpen = true → s.pins.takeup = true →
        let n := s.film.deepest - s.film.position + s.desk.setup.trailer
        n ≠ 0 → exec .exposureTakeRecord s =
          moving (s.film.supply - s.desk.setup.trailer) n true (.runOut n s.desk.setup.trailer .record))
      ∧ (∀ n, r.work = .lead (.advance n) → n ≠ 0 → s.film.galleyOpen = true → s.pins.takeup = true →
        fresh n + s.desk.setup.trailer ≤ s.film.supply →
        exec .exposureTakeRecord s = moving (s.film.supply - fresh n) n true (.lead n (fresh n) .advance))
      ∧ (∀ n, r.work = .lead (.reverse n) → n ≠ 0 → s.pins.takeup = true → s.film.deepest - 12000 + n ≤ s.film.position →
        exec .exposureTakeRecord s = moving s.film.supply n false (.back n (s.film.position - n)))
      ∧ ∀ leading items fonts, r.work = .text leading items fonts → s.film.galleyOpen = true →
        fresh leading + s.desk.setup.trailer ≤ s.film.supply → s.fonts.confirmed = false →
        (∃ it ∈ items, it.exposable = true ∧ ∃ f ∈ fonts, f.1 = it.font) →
        exec .exposureTakeRecord s = .next { s with
          store := s.store.filmHolds, exposure := s.exposure.taken .mountWait })

/-- Moves that end. A channel that is not busy reports nothing (log entry 3). A homing move takes its position as tick 0 where its home
input is asserted, and else has failed. START waits for the other; with both found it goes on to its clearing cut, or with the film state
known to its notice writes, and else it ends HALTED with cause HOME. A carriage move leaves the carriage at the item's tick while the
turret still turns. The film move of an ADVANCE record moves P, and D with it, reports its new film to the ticket, and finishes the
record. -/
def Obligations.MovesEndAtTheirTargets : Prop :=
  ∀ (s : State) (level : Bool),
    (∀ k : Channel, (s.motion.channel k).busy = false → exec (.motionComplete k level) s = .next s)
    ∧ (s.motion.carriage.busy = true → s.motion.carriage.homing = .moving → s.motion.turret.homing = .moving →
      exec (.motionComplete .carriage level) s = .next { s with
        pins := { s.pins with home := level }
        motion := { s.motion with carriage := { s.motion.carriage with
          counter := 0, busy := false, homing := if level then .found else .failed } }
        exposure := { s.exposure with carriageAt := if level then some 0 else s.exposure.carriageAt } })
    ∧ (s.motion.turret.busy = true → s.motion.turret.homing = .moving → s.motion.carriage.homing = .moving →
      exec (.motionComplete .turret level) s = .next { s with
        pins := { s.pins with turretIndex := level }
        motion := { s.motion with turret := { s.motion.turret with
          counter := 0, busy := false, homing := if level then .found else .failed } }
        exposure := { s.exposure with turretAt := if level then some 0 else s.exposure.turretAt } })
    ∧ (∀ x ∈ [(Channel.carriage, Channel.turret), (.turret, .carriage)],
      (s.motion.channel x.1).busy = true → (s.motion.channel x.1).homing = .moving →
      let other := (s.motion.channel x.2).homing
      let motion := s.motion.modChannel x.1 fun c => { c with counter := 0, busy := false }
      let ended := { s with
        pins := if x.1 = Channel.carriage then { s.pins with home := level } else { s.pins with turretIndex := level }
        motion := { motion with
          carriage := { motion.carriage with homing := .none }, turret := { motion.turret with homing := .none } }
        exposure := { s.exposure with
          carriageAt := if x.1 = Channel.carriage ∧ level = true then some 0 else s.exposure.carriageAt
          turretAt := if x.1 = Channel.turret ∧ level = true then some 0 else s.exposure.turretAt } }
      (level = true → other = .found →
        (s.film.unknown = true → exec (.motionComplete x.1 level) s = .next { ended with
          desk := { s.desk with startStep := some .clearingCut }, film := { s.film with knife := true, knifeTimer := 500 } })
        ∧ (s.film.unknown = false → (∀ o : Owner, (s.notices.writer o).inFlight = none) →
          let t := { ended with desk := { s.desk with startStep := some .notices } }
          exec (.motionComplete x.1 level) s = .next { t with notices :=
            { t.notices with
              photoUnit := { t.notices.photoUnit with inFlight := some (t.noticeShown .photoUnit), held := false }
              film := { t.notices.film with inFlight := some (t.noticeShown .film), held := false }
              proof := { t.notices.proof with inFlight := some (t.noticeShown .proof), held := false } } }))
      ∧ (other = .failed ∨ (level = false ∧ other = .found) → exec (.motionComplete x.1 level) s = .next { ended with
          desk := { s.desk with
            controller := .halted, cause := .home, result := .accepted, busy := none
            events := s.desk.events ||| 4#4 ||| 8#4 } }))
    ∧ (∀ r leading items fonts it p, s.motion.carriage.busy = true → s.motion.carriage.homing = .none →
      s.motion.turret.busy = true → s.exposure.phase = .positioning → s.nextForFilm r → r.work = .text leading items fonts →
      items[s.exposure.item]? = some it → s.exposure.carriageAt = some p →
      (if s.motion.carriage.forward then it.tick = p + s.motion.carriage.steps else p = it.tick + s.motion.carriage.steps) →
      exec (.motionComplete .carriage level) s = .next { s with
        pins := { s.pins with home := level }
        motion := { s.motion with carriage := { s.motion.carriage with counter := 0, busy := false } }
        exposure := { s.exposure with carriageAt := some it.tick } })
    ∧ ∀ r e n fresh, s.motion.film.busy = true → s.motion.film.homing = .none →
      s.exposure.phase = .moving (.lead n fresh .advance) → s.nextForFilm r → r.work = .lead (.advance n) →
      s.flight[r.entry] = some e → s.store.proof.passed = 0 →
      exec (.motionComplete .film level) s = .next (State.settle { s with
        motion := { s.motion with film := { s.motion.film with counter := 0, busy := false } }
        film := { s.film with position := s.film.position + n, deepest := max s.film.deepest (s.film.position + n) }
        flight := s.flight.set r.entry.val (some { e with depth := e.depth + BitVec.ofNat 32 fresh })
        exposure := s.exposure.rested
        store := s.store.filmPast })

/-- Marks and indexes, with the Exposure Sequencer IDLE. Before the first START has given a nominal interval they change the two levels
alone. A mark raises the mark count, up to 111, and an index sets it to 0. The first one puts a STOPPED drum in SYNCING; one that is out
of step, in interval or in count, puts a RUNNING drum back there; an in-step index that closes a qualifying revolution makes the drum
RUNNING where no ID scan is due: with the table confirmed, the part STOPPED or the cover open. Where one is due, that index, or an in-step index of a RUNNING drum, begins the scan at position 0; the
next in-step index begins its second revolution at position 4; and the one after it completes the scan, the drum RUNNING again and the
Mount Table replaced by the readings and confirmed. During a scan the positions are selected at marks 28, 56 and 84 of a revolution, a mark
in a read window sets its bit of the reading to the INDEX level, and an INDEX edge with the count from 1 to 110 is band data alone. That
the count stands at 111 where an index is missed, and that nothing else is seen before START, is the model's reading (log entry 17); and so
is that MARK is low again at a rising edge of INDEX (log entry 12). That an index out of step puts a RUNNING drum in SYNCING also where a
scan is due is its choice (log entry 39); that none is due with the cover open, whenever it opened, its reading of R113 and R118 (log
entry 33). -/
def Obligations.DrumEventsAreCountedAndTested : Prop :=
  ∀ (s : State) (n elapsed : Nat) (level : Bool), s.exposure.phase = .idle →
    let d := s.drum
    let marked := { d with intervalCounter := 4095, markLevel := true, indexLevel := level }
    let indexed := { d with intervalCounter := 4095, markCount := 0, markLevel := false, indexLevel := true, qualifying := true }
    (d.nominal = none →
      exec (.mark elapsed level) s = .next { s with drum := { d with markLevel := true, indexLevel := level } }
      ∧ exec (.index elapsed) s = .next { s with drum := { d with markLevel := false, indexLevel := true } })
    ∧ (d.nominal = some n → d.state = .stopped →
      (d.markCount ≠ 111 → exec (.mark elapsed level) s =
        .next { s with drum := { marked with markCount := d.markCount + 1, state := .syncing, qualifying := false } })
      ∧ (d.markCount = 111 → exec (.index elapsed) s = .next { s with drum := { indexed with state := .syncing } }))
    ∧ (d.nominal = some n → d.state = .syncing ∨ d.state = .running →
      (inStepWith n elapsed → d.markCount ≠ 111 →
        exec (.mark elapsed level) s = .next { s with drum := { marked with markCount := d.markCount + 1 } })
      ∧ (¬ inStepWith n elapsed ∨ d.markCount = 111 → exec (.mark elapsed level) s = .next { s with
        drum := { marked with
          markCount := if d.markCount = 111 then 111 else d.markCount + 1, state := .syncing, qualifying := false } })
      ∧ (¬ inStepWith n elapsed ∨ d.markCount ≠ 111 →
        exec (.index elapsed) s = .next { s with drum := { indexed with state := .syncing } }))
    ∧ (d.nominal = some n → inStepWith n elapsed → d.markCount = 111 →
      s.fonts.confirmed = true ∨ s.desk.controller = .stopped ∨ s.pins.coverOpen = true →
      (d.state = .running → exec (.index elapsed) s = .next { s with drum := indexed })
      ∧ (d.state = .syncing → d.qualifying = false → exec (.index elapsed) s = .next { s with drum := indexed })
      ∧ (d.state = .syncing → d.qualifying = true → s.notices.drum = false →
        exec (.index elapsed) s = .next { s with drum := { indexed with state := .running } }))
    ∧ (d.nominal = some n → inStepWith n elapsed → d.markCount = 111 →
      (s.fonts.confirmed = false → s.desk.controller ≠ .stopped → s.pins.coverOpen = false →
        d.state = .running ∨ (d.state = .syncing ∧ d.qualifying = true) →
        exec (.index elapsed) s = .next { s with drum := { indexed with
          state := .scanning, secondRevolution := false, readings := Vector.replicate 8 0, trackOut := 0, bandRead := true } })
      ∧ (d.state = .scanning → d.secondRevolution = false →
        exec (.index elapsed) s = .next { s with drum := { indexed with secondRevolution := true, trackOut := 4 } })
      ∧ (d.state = .scanning → d.secondRevolution = true → s.notices.drum = false →
        ∃ mount, exec (.index elapsed) s = .next { s with
            drum := { indexed with state := .running, secondRevolution := false, bandRead := false }
            fonts := { s.fonts with confirmed := true, mount := mount }
            exposure := { s.exposure with track := none, settled := false } }
          ∧ ∀ p : Fin 8, (mount[p]).strip = some d.readings[p]
            ∧ (mount[p]).stamp = if (s.fonts.mount[p]).strip = some d.readings[p] then (s.fonts.mount[p]).stamp else 0))
    ∧ (d.nominal = some n → d.state = .scanning →
      (inStepWith n elapsed → d.markCount < 111 →
        let count := d.markCount + 1
        ∀ p : Fin 8, p.val = (if d.secondRevolution then 4 else 0) + count / 28 →
        (8 ≤ count % 28 → count % 28 ≤ 23 →
          exec (.mark elapsed level) s = .next { s with drum := { marked with
            markCount := count
            readings := if level then d.readings.set p.val (d.readings[p] ||| bit (count % 28 - 8)) else d.readings } })
        ∧ (count % 28 = 0 →
          exec (.mark elapsed level) s = .next { s with drum := { marked with markCount := count, trackOut := p } }))
      ∧ (1 ≤ d.markCount → d.markCount ≤ 110 →
        exec (.index elapsed) s = .next { s with drum := { d with markLevel := false, indexLevel := true } }))

/-- The watch stops the drum, abandoning a scan in flight, and sends a FLASHING item that waits for its mark to DRUM WAIT for 2 s; with the
drum STOPPED it does nothing (log entry 3). That both levels are low then is the model's reading (log entry 12). DRUM WAIT that lasts out
its time with the cover closed and the controller RUNNING halts the part with cause DRUM and adds DRUM to the notice set. -/
def Obligations.DrumWatchStopsTheDrumAndDrumWaitHalts : Prop :=
  ∀ s : State,
    let stopped := { s.drum with
      state := .stopped, intervalCounter := 0, qualifying := false, markLevel := false, indexLevel := false }
    (s.drum.state = .stopped → exec .drumWatch s = .next s)
    ∧ (s.drum.state = .syncing ∨ (s.drum.state = .running ∧ s.exposure.phase = .idle) →
      exec .drumWatch s = .next { s with drum := stopped })
    ∧ (s.drum.state = .scanning → exec .drumWatch s = .next { s with
        drum := { stopped with bandRead := false, secondRevolution := false }
        exposure := { s.exposure with track := none, settled := false } })
    ∧ (s.drum.state = .running → s.exposure.phase = .flashing .awaiting →
      exec .drumWatch s = .next { s with
        drum := stopped, exposure := { s.exposure with phase := .drumWait, drumTimer := 2000, flashTimer := 0 } })
    ∧ (s.exposure.phase ≠ .drumWait ∨ s.pins.coverOpen = true → exec .drumWaitTimeout s = .next s)
    ∧ (s.exposure.phase = .drumWait → s.pins.coverOpen = false → s.desk.controller = .running → 0 < s.exposure.drumTimer →
      exec .drumWaitTimeout s = .next (State.noticeSince .photoUnit { s with
        desk := { s.desk with controller := .halted, cause := .drum, events := s.desk.events ||| 4#4 }
        exposure := { s.exposure with drumTimer := 0 }
        notices := { s.notices with drum := true } } s))

/-- From the track to the next flash. A track that settles with the carriage and the turret in place makes the item FLASHING; the mark of
its code, with the lamp ready, the cover closed and the table confirmed, starts the flash delay; the delay's end starts the pulse, raises
the flash count and stamps the drum position; the pulse's end starts the lamp-ready timer, and after the last exposable item the record
is finished and its galley reported. The lamp-ready timer's end makes the lamp ready. An event
that none of these waits for changes nothing (log entry 3). -/
def Obligations.FlashGoesFromTrackToLamp : Prop :=
  (∀ s : State, exec .lampReady s = .next { s with exposure := { s.exposure with lampTimer := 0 } })
    ∧ (∀ s : State,
      (s.exposure.track = none ∨ s.exposure.settled = true → exec .trackSettled s = .next s)
      ∧ (s.exposure.phase ≠ .flashing .delay → exec .flashDelayExpiry s = .next s)
      ∧ (s.exposure.phase ≠ .flashing .pulse → exec .flashEnd s = .next s))
    ∧ ∀ (s : State) (r : Record) (leading : Nat) (items : List Item) (fonts : List (Nat × Half)) (it : Item) (t : Fin 8),
      s.nextForFilm r → r.work = .text leading items fonts → items[s.exposure.item]? = some it → s.exposure.track = some t →
      (s.exposure.settled = false → s.exposure.phase = .positioning → s.motion.carriage.busy = false →
        s.motion.turret.busy = false → s.exposure.carriageAt = some it.tick → s.exposure.turretAt = some it.lens →
        s.drum.state = .running →
        exec .trackSettled s = .next { s with
          exposure := { s.exposure with settled := true, phase := .flashing .awaiting, drumTimer := 0 } })
      ∧ (∀ n elapsed level, s.exposure.phase = .flashing .awaiting → s.drum.state = .running → s.drum.nominal = some n →
        inStepWith n elapsed → s.drum.markCount < 111 → it.code = s.drum.markCount + 1 → s.exposure.lampTimer = 0 →
        s.pins.coverOpen = false → s.fonts.confirmed = true →
        exec (.mark elapsed level) s = .next { s with
          drum := { s.drum with
            intervalCounter := 4095, markLevel := true, indexLevel := level, markCount := s.drum.markCount + 1 }
          exposure := { s.exposure with phase := .flashing .delay, flashTimer := s.desk.setup.flashDelay } })
      ∧ (s.exposure.phase = .flashing .delay → s.drum.state = .running → s.pins.coverOpen = false →
        exec .flashDelayExpiry s = .next { s with
          fonts := { s.fonts with
            flashCount := s.fonts.flashCount + 1
            mount := s.fonts.mount.set t.val { s.fonts.mount[t] with stamp := s.fonts.flashCount + 1 } }
          exposure := { s.exposure with
            phase := .flashing .pulse, begun := true, flashTimer := s.desk.setup.flashLength[it.lens] } })
      ∧ ∀ e, s.exposure.phase = .flashing .pulse → (∀ x ∈ items.drop (s.exposure.item + 1), x.exposable = false) →
        s.flight[r.entry] = some e → s.store.proof.passed = 0 →
        exec .flashEnd s = .next (State.settle { s with
          store := s.store.filmPast
          flight := s.flight.set r.entry.val (some { e with
            firstGalley := if e.firstGalley = 0 then s.film.galleyNumber else e.firstGalley
            lastGalley := s.film.galleyNumber })
          exposure := { s.exposure.rested with lampTimer := s.desk.setup.lampRecharge, flashTimer := 0 } })

/-- The cover. Opening it makes the Mount Table unconfirmed and posts COVER OPEN; a line begun at step 4 is spoiled, its ticket told,
and its record waits for a mount check, to be exposed again after the spoil gap; and a record whose mount check passed while HALTED waits
for a mount check again. Closing it takes COVER OPEN away. A cover already there changes nothing (log entry 3). That the opening takes
back a check passed while HALTED, and that the begun flag is clear from the spoiling on, is the model's reading (log entry 18). -/
def Obligations.CoverOpeningSpoilsALineBegun : Prop :=
  ∀ s : State,
    (s.pins.coverOpen = true → exec .coverOpen s = .next s
      ∧ exec .coverClose s = .next (State.notice .photoUnit { s with pins := { s.pins with coverOpen := false } }))
    ∧ (s.pins.coverOpen = false → exec .coverClose s = .next s
      ∧ (s.drum.state ≠ .scanning → s.exposure.phase = .idle →
        exec .coverOpen s = .next (State.notice .photoUnit { s with
          pins := { s.pins with coverOpen := true }
          fonts := { s.fonts with confirmed := false }
          exposure := { s.exposure with coverSeen := true } }))
      ∧ (s.drum.state ≠ .scanning → s.exposure.phase = .mountReady →
        exec .coverOpen s = .next (State.notice .photoUnit { s with
          pins := { s.pins with coverOpen := true }
          fonts := { s.fonts with confirmed := false }
          exposure := { s.exposure with phase := .mountWait } }))
      ∧ ∀ r e, s.drum.state ≠ .scanning → s.exposure.phase = .positioning → s.exposure.begun = true →
        s.motion.carriage.busy = false → s.motion.turret.busy = false → s.nextForFilm r → s.flight[r.entry] = some e →
        exec .coverOpen s = .next (State.notice .photoUnit { s with
          pins := { s.pins with coverOpen := true }
          fonts := { s.fonts with confirmed := false }
          flight := s.flight.set r.entry.val (some (e.report r.lineNumber 0x400))
          exposure := { s.exposure with
            phase := .mountWait, mountNext := .spoilGap, begun := false, flashTimer := 0, drumTimer := 0 } }))

/-- The cassette and the take-up. An insertion fills the film supply and clears FILM OUT, and while STOPPED is remembered. A wait for film
that the new cassette answers waits for RESUME with the controller HALTED; that of an ADVANCE record, RUNNING, with the galley closed (as
it is in every such wait, by the law of the transport), opens the galley: its leader movement starts or, with a leader of 0, the lead
itself, and either waits with the take-up absent. A wait that the cassette cannot answer goes on with FILM OUT set again. A removal does
nothing but change the line, and an insertion of what is there nothing at all (log entry 3). TAKE-UP ABSENT follows the line, and a
movement that waited for the take-up starts when it is there: an ADVANCE's leader, or a forward lead. -/
def Obligations.CassetteAndTakeupAnswerTheirWaits : Prop :=
  ∀ s : State,
    let moves := fun (film : Film) (ticks consumed : Nat) (m : Movement) (u : State) => { u with
      film := { film with supply := film.supply - consumed }
      motion := { s.motion with
        film := ⟨s.desk.setup.film.rate, s.desk.setup.film.high, s.desk.setup.film.low, true, ticks, ticks, true, .none⟩ }
      exposure := { s.exposure with phase := .moving m } }
    exec .cassetteRemoval s = .next { s with pins := { s.pins with cassette := false } }
    ∧ (s.pins.cassette = true → exec .cassetteInsertion s = .next s)
    ∧ (s.pins.cassette = false →
      let present := { s with pins := { s.pins with cassette := true } }
      let filled := { s.film with supply := s.desk.setup.cassetteLength, filmOut := false }
      let became := fun u : State => exec .cassetteInsertion s = .next (State.noticeSince .film u s)
      (s.desk.controller = .stopped →
        exec .cassetteInsertion s = .next { present with film := { s.film with inserted := true } })
      ∧ (s.desk.controller ≠ .stopped → (∀ g, s.exposure.phase ≠ .needWait g) → became { present with film := filled })
      ∧ (∀ g, s.desk.controller ≠ .stopped → s.exposure.phase = .needWait g →
        (s.desk.setup.cassetteLength < filled.need s.desk.setup g.ticks → became { present with film := { filled with filmOut := true } })
        ∧ (filled.need s.desk.setup g.ticks ≤ s.desk.setup.cassetteLength → s.desk.controller = .halted →
          became { present with film := filled }))
      ∧ ∀ n, s.desk.controller = .running → s.exposure.phase = .needWait (.advance n) → s.film.galleyOpen = false →
        let leader := s.desk.setup.leader
        let fresh := s.film.position + n - s.film.deepest
        let opened := { filled with galleyOpen := true }
        leader + fresh + s.desk.setup.trailer ≤ s.desk.setup.cassetteLength →
        (leader ≠ 0 →
          (s.pins.takeup = true → became (moves opened leader leader (.leader leader n .advance) present))
          ∧ (s.pins.takeup = false → became { present with
            film := opened, exposure := { s.exposure with phase := .takeupWait (.leader leader n .advance) } }))
        ∧ (leader = 0 → n ≠ 0 →
          (s.pins.takeup = true → became (moves opened n fresh (.lead n fresh .advance) present))
          ∧ (s.pins.takeup = false → became { present with
            film := opened, exposure := { s.exposure with phase := .takeupWait (.lead n fresh .advance) } })))
    ∧ exec .takeupAbsent s = .next (State.noticeSince .film { s with pins := { s.pins with takeup := false } } s)
    ∧ (let seated := State.noticeSince .film { s with pins := { s.pins with takeup := true } } s
      ((∀ m, s.exposure.phase ≠ .takeupWait m) ∨ s.desk.controller = .halted → exec .takeupPresent s = .next seated)
      ∧ (∀ n next lead, s.desk.controller = .running → s.exposure.phase = .takeupWait (.leader n next lead) → n ≠ 0 →
        exec .takeupPresent s = .next (moves s.film n n (.leader n next lead) seated))
      ∧ ∀ n fresh lead, s.desk.controller = .running → s.exposure.phase = .takeupWait (.lead n fresh lead) → n ≠ 0 →
        exec .takeupPresent s = .next (moves s.film n fresh (.lead n fresh lead) seated))

/-- The knife. With KNIFE not asserted neither event does anything (log entry 3). KNIFE DONE completes a CUT record that is no FLASH-OPEN:
the galley number rises, the galley closes, the ticket is told of the galley cut and the record is finished; or it completes START's
clearing cut, after which the film state is known and the three notice records are written. 500 ms without it hold the cut and halt the
part with cause KNIFE, or end START with its step held. -/
def Obligations.KnifeClosesTheGalleyOrHalts : Prop :=
  ∀ s : State,
    let cut := { s.film with
      knife := false, knifeTimer := 0, position := 0, deepest := 0, mark := none, galleyOpen := false
      galleyNumber := if s.film.galleyNumber = 65535 then 1 else s.film.galleyNumber + 1 }
    (s.film.knife = false → exec .knifeDone s = .next s ∧ exec .knifeTimeout s = .next s)
    ∧ (s.film.knife = true →
      (∀ r e c, s.exposure.phase = .knife .record → s.nextForFilm r → r.work = .cut c → c ≠ .flashOpen →
        s.flight[r.entry] = some e → s.store.proof.passed = 0 →
        exec .knifeDone s = .next (State.settle { s with
          film := cut
          store := s.store.filmPast
          flight := s.flight.set r.entry.val (some { e with
            firstGalley := if e.firstGalley = 0 then s.film.galleyNumber else e.firstGalley
            lastGalley := s.film.galleyNumber })
          exposure := s.exposure.rested }))
      ∧ (s.exposure.phase = .knife .record → s.desk.controller = .running →
        exec .knifeTimeout s = .next { s with
          film := { s.film with knife := false, knifeTimer := 0 }
          exposure := { s.exposure with phase := .knifeHeld .record }
          desk := { s.desk with controller := .halted, cause := .knife, events := s.desk.events ||| 4#4 } })
      ∧ (s.exposure.phase = .idle → s.desk.starts → s.desk.startStep = some .clearingCut →
        ((∀ o : Owner, (s.notices.writer o).inFlight = none) →
          let t := { s with film := { cut with unknown := false }, desk := { s.desk with startStep := some .notices } }
          exec .knifeDone s = .next { t with notices :=
            { t.notices with
              photoUnit := { t.notices.photoUnit with inFlight := some (t.noticeShown .photoUnit), held := false }
              film := { t.notices.film with inFlight := some (t.noticeShown .film), held := false }
              proof := { t.notices.proof with inFlight := some (t.noticeShown .proof), held := false } } })
        ∧ exec .knifeTimeout s = .next { s with
          film := { s.film with knife := false, knifeTimer := 0 }
          desk := { s.desk with
            controller := .halted, cause := .knife, result := .accepted, busy := none
            events := s.desk.events ||| 4#4 ||| 8#4 } }))

/-! ### The proof and the notices (spec 10, spec 01, section 2.8) -/

/-- The record before the proof cursor, with proofs enabled, the controller RUNNING and no record in hand. A withdrawn record and one
without PROOF are skipped; while dropping, a record is passed with PROOF LOST reported to its ticket; an ADVANCE raises the baseline by
its rows and is passed. With both buffers FREE: a TEXT record raises the baseline, opens the bands of its rows, sets the ink of each
exposable item's glyph at its column, and inverts the bar over its items where it is highlighted; a REVERSE or TO MARK, or the separator
due before another record, draws one solid row and raises the baseline by 14; a CUT draws three and raises it on to a row 12 of a band.
A band left wholly above the glyph top is READY, and the first such is sent. With no buffer FREE it waits, its record in hand. With proofs disabled
nothing is taken (log entry 3). -/
def Obligations.ProofRendererTakesARecord : Prop :=
  ∀ (s : State) (r : Record),
    (s.proofsOn = false → exec .proofTakeRecord s = .next s)
    ∧ (s.proofsOn = true → s.desk.controller = .running → s.proof.drawing = none → s.store.proof.holding = false →
      s.nextForProof r → s.store.film.passed = 0 →
      let became := fun p : ProofRenderer =>
        exec .proofTakeRecord s = .next (State.settle { s with store := s.store.proofPast, proof := p })
      (r.withdrawn = true ∨ r.toProof = false → became s.proof)
      ∧ (r.withdrawn = false → r.toProof = true →
        (∀ e, s.proof.dropping = true → s.flight[r.entry] = some e →
          exec .proofTakeRecord s = .next (State.settle { s with
            store := s.store.proofPast
            flight := s.flight.set r.entry.val (some (e.report r.lineNumber 0x2000)) }))
        ∧ (s.proof.dropping = false → s.proof.sending = none → s.proof.bandA.state = .free → s.proof.bandB.state = .free →
          let base := s.proof.baseline
          let inked := fun (b : Band) (k : Nat) (ink invert : Nat → Nat → Prop) => ∀ (row : Fin 16) (c : Nat), c < 1152 →
            ((b.ink[row]).getLsbD c = true ↔ ink (16 * k + row.val) c)
            ∧ ((b.invert[row]).getLsbD c = true ↔ invert (16 * k + row.val) c)
          let sends := fun (k : Nat) (p : ProofRenderer) => { p with
            sending := some ⟨k, 16 * k - s.proof.printerRow, 0, s.desk.setup.proofMirror, s.desk.setup.proofTimeout⟩
            port := if s.proof.printerRow < 16 * k then 0xB2 else 0xB1
            timer := if s.pins.pbusy = true ∨ s.pins.pfault = true then s.desk.setup.proofTimeout else 0 }
          (∀ n, s.proof.separatorDue = false → r.work = .lead (.advance n) →
            became { s.proof with baseline := base + (n + 8) / 16 })
          ∧ (∀ leading items fonts, s.proof.separatorDue = false → r.work = .text leading items fonts →
            let b := base + (leading + 8) / 16
            let first := (b - 9) / 16
            let last := (b + 2) / 16
            let ink := fun row c => ∃ x ∈ items, x.exposable = true ∧ x.tick / 16 ≤ c ∧ ∃ j < 12, row = b - 9 + j
              ∧ (byteAt s.proof.glyphs (12 * x.code + j)).getLsbD (c - x.tick / 16) = true
            let invert := fun row c => r.conditions &&& s.desk.setup.highlightMask &&& 0x03FF ≠ 0 ∧ b - 9 ≤ row ∧ row < b - 9 + 12
              ∧ (∃ x ∈ items, x.exposable = true ∧ x.tick / 16 ≤ c) ∧ ∃ x ∈ items, x.exposable = true ∧ c ≤ x.tick / 16 + 7
            ((∀ x ∈ items, x.exposable = false) → became { s.proof with baseline := b })
            ∧ ((∃ x ∈ items, x.exposable = true) → ∃ A B : Band, became { s.proof with baseline := b, bandA := A, bandB := B }
              ∧ A.state = .opened first ∧ inked A first ink invert
              ∧ (if last = first then B = s.proof.bandB else B.state = .opened last ∧ inked B last ink invert)))
          ∧ ((s.proof.separatorDue = false ∧ (r.work = .lead .toMark ∨ ∃ n, r.work = .lead (.reverse n)))
              ∨ (s.proof.separatorDue = true ∧ r.work = .lead .mark) →
            let k := (base + 3) / 16
            ∃ A : Band,
              let drawn := { s.proof with baseline := base + 14, bandA := A, separatorDue := false }
              inked A k (fun row _ => row = base + 3) (fun _ _ => False)
              ∧ (if 16 * k + 24 < base + 14 then A.state = .printing k ∧ became (sends k drawn)
                else A.state = .opened k ∧ became drawn))
          ∧ (∀ c, s.proof.separatorDue = false → r.work = .cut c →
            let first := (base + 3) / 16
            let last := (base + 5) / 16
            let ink := fun row (_ : Nat) => base + 3 ≤ row ∧ row ≤ base + 5
            ∃ A B : Band,
              became (sends first { s.proof with
                baseline := base + 48 + (28 - (base + 48) % 16) % 16, bandA := A, bandB := B })
              ∧ A.state = .printing first ∧ inked A first ink (fun _ _ => False)
              ∧ (if last = first then B = s.proof.bandB else B.state = .ready last ∧ inked B last ink fun _ _ => False)))
        ∧ ∀ c j k, s.proof.dropping = false → s.proof.separatorDue = false → r.work = .cut c → s.proof.sending ≠ none →
          s.proof.bandA.state = .printing j → s.proof.bandB.state = .ready k →
          exec .proofTakeRecord s = .next { s with
            store := { s.store with proof := { s.store.proof with holding := true } }
            proof := { s.proof with drawing := some ⟨[.solid [3, 4, 5], .cutRise], false⟩ } }))

/-- A byte is taken when one is driven and the printer is ready for it: the next byte of the sending is driven and the paper's advance
counted, and after the last byte of a band its buffer is FREE and the printer row stands past it. The bytes are the advance pairs, 0xB2
and the rows, 255 a pair but for the last; then 0xB1; then two bytes a column, the upper eight rows and the lower, of the ink exclusive-or
the invert cells, from column 0 on or, mirrored, from column 1,151 down. A PRINTER WAIT that begins with a byte loads the timer with the
timeout of its band (log entry 36, the model's reading of R13). One that lasts out its timer drops the proof: both buffers are freed, the
printer row goes past the band abandoned, and PROOF DROPPING is posted. That the port keeps the byte driven last at a band's end and
at a drop is the model's choice (log entry 7). Neither event does anything where no byte is driven, or none waits
(log entry 3). -/
def Obligations.PrinterBytesAndDrops : Prop :=
  ∀ (s : State) (busy : Bool),
    (s.proof.sending = none ∨ s.pins.pbusy = true ∨ s.pins.pfault = true → exec (.printerByte busy) s = .next s)
    ∧ (∀ x, s.proof.sending = some x → s.pins.pbusy = false → s.pins.pfault = false →
      let pins := { s.pins with pbusy := busy, busyLong := false }
      let pairs := (x.advance + 254) / 255
      let bytes := 2 * pairs + 2305
      let rows := fun n => min 255 (x.advance - 255 * (n / 2))
      let band := if s.proof.bandA.state = .printing x.band then s.proof.bandA else s.proof.bandB
      let sent := x.sent + 1
      (sent < bytes → ∃ port : Byte,
        exec (.printerByte busy) s = .next { s with
          pins := pins
          proof := { s.proof with
            printerRow := s.proof.printerRow + if x.sent < 2 * pairs ∧ x.sent % 2 = 1 then rows x.sent else 0
            sending := some { x with sent := sent }
            port := port
            timer := if busy then x.timeout else 0 } }
        ∧ (sent < 2 * pairs → port = if sent % 2 = 0 then 0xB2 else BitVec.ofNat 8 (rows sent))
        ∧ (sent = 2 * pairs → port = 0xB1)
        ∧ (2 * pairs < sent →
          let n := sent - (2 * pairs + 1)
          let column := if x.mirror then 1151 - n / 2 else n / 2
          ∀ (q : Fin 8) (row : Fin 16), row.val = 8 * (n % 2) + q.val →
            port.getLsbD q.val = ((band.ink[row]).getLsbD column ^^ (band.invert[row]).getLsbD column)))
      ∧ (bytes ≤ sent → s.proof.drawing = none → s.proof.bandA.state = .printing x.band → s.proof.bandB.state = .free →
        exec (.printerByte busy) s = .next { s with
          pins := pins
          proof := { s.proof with
            printerRow := 16 * x.band + 16, bandA := Band.initial, sending := none, timer := 0 } }))
    ∧ (s.proof.sending = none ∨ s.proof.timer = 0 → exec .proofDrop s = .next s)
    ∧ ∀ x, s.proof.sending = some x → s.pins.pbusy = true ∨ s.pins.pfault = true → 0 < s.proof.timer → s.proof.drawing = none →
      exec .proofDrop s = .next (State.noticeSince .proof { s with
        proof := { s.proof with
          printerRow := 16 * x.band + 16, bandA := Band.initial, bandB := Band.initial, sending := none, timer := 0
          dropping := true } } s)

/-- The printer's lines. PBUSY high for 100 ms and PFAULT make the printer not ready: with proofs enabled and the controller not STOPPED,
PRINTER is posted; a byte driven with the printer free before it begins its wait with the timer loaded. The printer ready again stops the
timer, takes PRINTER away, and turns dropping into a separator due. That the lines take their levels at these events, PBUSY high with the
100 ms event among them and with it a wait that begins then, is the model's reading (log entry 12), and so is what is kept while STOPPED
(log entry 23), and that the wait loads the timer with the timeout the sending band itself keeps (log entry 36). A notice is written only
where a condition arises or clears. -/
def Obligations.PrinterReadinessIsPosted : Prop :=
  ∀ s : State,
    let timer := if s.pins.pbusy = false ∧ s.pins.pfault = false then (s.proof.sending.map fun x => x.timeout).getD s.proof.timer
      else s.proof.timer
    let watched := s.proofsOn = true ∧ s.desk.controller ≠ .stopped
    let late := { s.pins with pbusy := true, busyLong := true }
    let faulty := { s.pins with pfault := true }
    let ready := { s.pins with pbusy := false, busyLong := false, pfault := false }
    (¬ watched →
      exec .printerBusyTimeout s = .next { s with pins := late, proof := { s.proof with timer := timer } }
      ∧ exec .printerFault s = .next { s with pins := faulty, proof := { s.proof with timer := timer } }
      ∧ exec .printerReady s = .next { s with pins := ready, proof := { s.proof with timer := 0 } })
    ∧ (watched →
      exec .printerBusyTimeout s =
        .next (State.noticeSince .proof { s with pins := late, proof := { s.proof with timer := timer, printer := true } } s)
      ∧ exec .printerFault s =
        .next (State.noticeSince .proof { s with pins := faulty, proof := { s.proof with timer := timer, printer := true } } s)
      ∧ exec .printerReady s = .next (State.noticeSince .proof { s with
        pins := ready
        proof := { s.proof with
          timer := 0, printer := false, dropping := false, separatorDue := s.proof.separatorDue || s.proof.dropping } } s))

/-- The notices. An event that changes no condition of an owner's set, nor a MOUNT condition's arguments, writes nothing. After one that
does, the record's write begins, with what the record should show, when the controller is not STOPPED, no write of it is in flight and it
shows something else than was last written; and begins not otherwise. What it shows is the highest-ranked condition of its owner's set, or
NONE. That nothing written since power-on counts as something else than any content is the model's choice (log entry 42). -/
def Obligations.NoticeWritesBeginWhereTheRecordWouldChange : Prop :=
  (∀ (s : State) (o : Owner),
    (s.noticeStands o → s.notice o = s)
    ∧ (¬ s.noticeStands o → s.notice o = s.modNotices fun n =>
      n.modWriter o fun w => { w with inFlight := some (s.noticeShown o), held := false }))
    ∧ (∀ (s before : State) (o : Owner),
      let same := match o with
        | .photoUnit => s.pins.coverOpen = before.pins.coverOpen ∧ s.notices.drum = before.notices.drum
          ∧ s.notices.mount = before.notices.mount
        | .film => s.film.filmOut = before.film.filmOut ∧ s.pins.takeup = before.pins.takeup
        | .proof => s.proof.dropping = before.proof.dropping ∧ s.proof.printer = before.proof.printer
      (same → s.noticeSince o before = s) ∧ (¬ same → s.noticeSince o before = s.notice o))
    ∧ ∀ s : State,
      (s.pins.coverOpen = true → s.noticeShown .photoUnit = .coverOpen)
      ∧ (s.pins.coverOpen = false → s.notices.drum = true → s.noticeShown .photoUnit = .drum)
      ∧ (s.pins.coverOpen = false → s.notices.drum = false →
        (∀ f strip p, s.notices.mount = some (f, strip, p) → s.noticeShown .photoUnit = .mount f strip p)
        ∧ (s.notices.mount = none → s.noticeShown .photoUnit = .none))
      ∧ (s.film.filmOut = true → s.noticeShown .film = .filmOut)
      ∧ (s.film.filmOut = false → s.noticeShown .film = if s.pins.takeup then .none else .takeupAbsent)
      ∧ (s.proof.dropping = true → s.noticeShown .proof = .proofDropping)
      ∧ (s.proof.dropping = false → s.noticeShown .proof = if s.proof.printer then .printer else .none)
end

