-- ==== Sys2Proof/Laws/State.lean ====
section
/-! SUPPORT. One lemma per field of the state and per named update of one component, each true by `rfl`. -/

namespace Sys2Proof.Machine.State

section Modmem
variable (f : List Host.Cell → List Host.Cell) (s : State)
@[simp] theorem modMem_mem : (s.modMem f).mem = f s.mem := rfl
@[simp] theorem modMem_desk : (s.modMem f).desk = s.desk := rfl
@[simp] theorem modMem_scanner : (s.modMem f).scanner = s.scanner := rfl
@[simp] theorem modMem_flight : (s.modMem f).flight = s.flight := rfl
@[simp] theorem modMem_resultWrite : (s.modMem f).resultWrite = s.resultWrite := rfl
@[simp] theorem modMem_composer : (s.modMem f).composer = s.composer := rfl
@[simp] theorem modMem_hyphenation : (s.modMem f).hyphenation = s.hyphenation := rfl
@[simp] theorem modMem_fonts : (s.modMem f).fonts = s.fonts := rfl
@[simp] theorem modMem_store : (s.modMem f).store = s.store := rfl
@[simp] theorem modMem_exposure : (s.modMem f).exposure = s.exposure := rfl
@[simp] theorem modMem_motion : (s.modMem f).motion = s.motion := rfl
@[simp] theorem modMem_drum : (s.modMem f).drum = s.drum := rfl
@[simp] theorem modMem_film : (s.modMem f).film = s.film := rfl
@[simp] theorem modMem_proof : (s.modMem f).proof = s.proof := rfl
@[simp] theorem modMem_notices : (s.modMem f).notices = s.notices := rfl
@[simp] theorem modMem_pins : (s.modMem f).pins = s.pins := rfl
@[simp] theorem modMem_bus : (s.modMem f).bus = s.bus := rfl
@[simp] theorem modMem_freeCounter : (s.modMem f).freeCounter = s.freeCounter := rfl
@[simp] theorem modMem_pending : (s.modMem f).pending = s.pending := rfl
end Modmem

section Moddesk
variable (f : Desk → Desk) (s : State)
@[simp] theorem modDesk_mem : (s.modDesk f).mem = s.mem := rfl
@[simp] theorem modDesk_desk : (s.modDesk f).desk = f s.desk := rfl
@[simp] theorem modDesk_scanner : (s.modDesk f).scanner = s.scanner := rfl
@[simp] theorem modDesk_flight : (s.modDesk f).flight = s.flight := rfl
@[simp] theorem modDesk_resultWrite : (s.modDesk f).resultWrite = s.resultWrite := rfl
@[simp] theorem modDesk_composer : (s.modDesk f).composer = s.composer := rfl
@[simp] theorem modDesk_hyphenation : (s.modDesk f).hyphenation = s.hyphenation := rfl
@[simp] theorem modDesk_fonts : (s.modDesk f).fonts = s.fonts := rfl
@[simp] theorem modDesk_store : (s.modDesk f).store = s.store := rfl
@[simp] theorem modDesk_exposure : (s.modDesk f).exposure = s.exposure := rfl
@[simp] theorem modDesk_motion : (s.modDesk f).motion = s.motion := rfl
@[simp] theorem modDesk_drum : (s.modDesk f).drum = s.drum := rfl
@[simp] theorem modDesk_film : (s.modDesk f).film = s.film := rfl
@[simp] theorem modDesk_proof : (s.modDesk f).proof = s.proof := rfl
@[simp] theorem modDesk_notices : (s.modDesk f).notices = s.notices := rfl
@[simp] theorem modDesk_pins : (s.modDesk f).pins = s.pins := rfl
@[simp] theorem modDesk_bus : (s.modDesk f).bus = s.bus := rfl
@[simp] theorem modDesk_freeCounter : (s.modDesk f).freeCounter = s.freeCounter := rfl
@[simp] theorem modDesk_pending : (s.modDesk f).pending = s.pending := rfl
end Moddesk

section Modscanner
variable (f : Scanner → Scanner) (s : State)
@[simp] theorem modScanner_mem : (s.modScanner f).mem = s.mem := rfl
@[simp] theorem modScanner_desk : (s.modScanner f).desk = s.desk := rfl
@[simp] theorem modScanner_scanner : (s.modScanner f).scanner = f s.scanner := rfl
@[simp] theorem modScanner_flight : (s.modScanner f).flight = s.flight := rfl
@[simp] theorem modScanner_resultWrite : (s.modScanner f).resultWrite = s.resultWrite := rfl
@[simp] theorem modScanner_composer : (s.modScanner f).composer = s.composer := rfl
@[simp] theorem modScanner_hyphenation : (s.modScanner f).hyphenation = s.hyphenation := rfl
@[simp] theorem modScanner_fonts : (s.modScanner f).fonts = s.fonts := rfl
@[simp] theorem modScanner_store : (s.modScanner f).store = s.store := rfl
@[simp] theorem modScanner_exposure : (s.modScanner f).exposure = s.exposure := rfl
@[simp] theorem modScanner_motion : (s.modScanner f).motion = s.motion := rfl
@[simp] theorem modScanner_drum : (s.modScanner f).drum = s.drum := rfl
@[simp] theorem modScanner_film : (s.modScanner f).film = s.film := rfl
@[simp] theorem modScanner_proof : (s.modScanner f).proof = s.proof := rfl
@[simp] theorem modScanner_notices : (s.modScanner f).notices = s.notices := rfl
@[simp] theorem modScanner_pins : (s.modScanner f).pins = s.pins := rfl
@[simp] theorem modScanner_bus : (s.modScanner f).bus = s.bus := rfl
@[simp] theorem modScanner_freeCounter : (s.modScanner f).freeCounter = s.freeCounter := rfl
@[simp] theorem modScanner_pending : (s.modScanner f).pending = s.pending := rfl
end Modscanner

section Modflight
variable (f : Vector (Option Entry) 8 → Vector (Option Entry) 8) (s : State)
@[simp] theorem modFlight_mem : (s.modFlight f).mem = s.mem := rfl
@[simp] theorem modFlight_desk : (s.modFlight f).desk = s.desk := rfl
@[simp] theorem modFlight_scanner : (s.modFlight f).scanner = s.scanner := rfl
@[simp] theorem modFlight_flight : (s.modFlight f).flight = f s.flight := rfl
@[simp] theorem modFlight_resultWrite : (s.modFlight f).resultWrite = s.resultWrite := rfl
@[simp] theorem modFlight_composer : (s.modFlight f).composer = s.composer := rfl
@[simp] theorem modFlight_hyphenation : (s.modFlight f).hyphenation = s.hyphenation := rfl
@[simp] theorem modFlight_fonts : (s.modFlight f).fonts = s.fonts := rfl
@[simp] theorem modFlight_store : (s.modFlight f).store = s.store := rfl
@[simp] theorem modFlight_exposure : (s.modFlight f).exposure = s.exposure := rfl
@[simp] theorem modFlight_motion : (s.modFlight f).motion = s.motion := rfl
@[simp] theorem modFlight_drum : (s.modFlight f).drum = s.drum := rfl
@[simp] theorem modFlight_film : (s.modFlight f).film = s.film := rfl
@[simp] theorem modFlight_proof : (s.modFlight f).proof = s.proof := rfl
@[simp] theorem modFlight_notices : (s.modFlight f).notices = s.notices := rfl
@[simp] theorem modFlight_pins : (s.modFlight f).pins = s.pins := rfl
@[simp] theorem modFlight_bus : (s.modFlight f).bus = s.bus := rfl
@[simp] theorem modFlight_freeCounter : (s.modFlight f).freeCounter = s.freeCounter := rfl
@[simp] theorem modFlight_pending : (s.modFlight f).pending = s.pending := rfl
end Modflight

section Modcomposer
variable (f : Composer → Composer) (s : State)
@[simp] theorem modComposer_mem : (s.modComposer f).mem = s.mem := rfl
@[simp] theorem modComposer_desk : (s.modComposer f).desk = s.desk := rfl
@[simp] theorem modComposer_scanner : (s.modComposer f).scanner = s.scanner := rfl
@[simp] theorem modComposer_flight : (s.modComposer f).flight = s.flight := rfl
@[simp] theorem modComposer_resultWrite : (s.modComposer f).resultWrite = s.resultWrite := rfl
@[simp] theorem modComposer_composer : (s.modComposer f).composer = f s.composer := rfl
@[simp] theorem modComposer_hyphenation : (s.modComposer f).hyphenation = s.hyphenation := rfl
@[simp] theorem modComposer_fonts : (s.modComposer f).fonts = s.fonts := rfl
@[simp] theorem modComposer_store : (s.modComposer f).store = s.store := rfl
@[simp] theorem modComposer_exposure : (s.modComposer f).exposure = s.exposure := rfl
@[simp] theorem modComposer_motion : (s.modComposer f).motion = s.motion := rfl
@[simp] theorem modComposer_drum : (s.modComposer f).drum = s.drum := rfl
@[simp] theorem modComposer_film : (s.modComposer f).film = s.film := rfl
@[simp] theorem modComposer_proof : (s.modComposer f).proof = s.proof := rfl
@[simp] theorem modComposer_notices : (s.modComposer f).notices = s.notices := rfl
@[simp] theorem modComposer_pins : (s.modComposer f).pins = s.pins := rfl
@[simp] theorem modComposer_bus : (s.modComposer f).bus = s.bus := rfl
@[simp] theorem modComposer_freeCounter : (s.modComposer f).freeCounter = s.freeCounter := rfl
@[simp] theorem modComposer_pending : (s.modComposer f).pending = s.pending := rfl
end Modcomposer

section Modhyphenation
variable (f : Hyphenation → Hyphenation) (s : State)
@[simp] theorem modHyphenation_mem : (s.modHyphenation f).mem = s.mem := rfl
@[simp] theorem modHyphenation_desk : (s.modHyphenation f).desk = s.desk := rfl
@[simp] theorem modHyphenation_scanner : (s.modHyphenation f).scanner = s.scanner := rfl
@[simp] theorem modHyphenation_flight : (s.modHyphenation f).flight = s.flight := rfl
@[simp] theorem modHyphenation_resultWrite : (s.modHyphenation f).resultWrite = s.resultWrite := rfl
@[simp] theorem modHyphenation_composer : (s.modHyphenation f).composer = s.composer := rfl
@[simp] theorem modHyphenation_hyphenation : (s.modHyphenation f).hyphenation = f s.hyphenation := rfl
@[simp] theorem modHyphenation_fonts : (s.modHyphenation f).fonts = s.fonts := rfl
@[simp] theorem modHyphenation_store : (s.modHyphenation f).store = s.store := rfl
@[simp] theorem modHyphenation_exposure : (s.modHyphenation f).exposure = s.exposure := rfl
@[simp] theorem modHyphenation_motion : (s.modHyphenation f).motion = s.motion := rfl
@[simp] theorem modHyphenation_drum : (s.modHyphenation f).drum = s.drum := rfl
@[simp] theorem modHyphenation_film : (s.modHyphenation f).film = s.film := rfl
@[simp] theorem modHyphenation_proof : (s.modHyphenation f).proof = s.proof := rfl
@[simp] theorem modHyphenation_notices : (s.modHyphenation f).notices = s.notices := rfl
@[simp] theorem modHyphenation_pins : (s.modHyphenation f).pins = s.pins := rfl
@[simp] theorem modHyphenation_bus : (s.modHyphenation f).bus = s.bus := rfl
@[simp] theorem modHyphenation_freeCounter : (s.modHyphenation f).freeCounter = s.freeCounter := rfl
@[simp] theorem modHyphenation_pending : (s.modHyphenation f).pending = s.pending := rfl
end Modhyphenation

section Modfonts
variable (f : FontControl → FontControl) (s : State)
@[simp] theorem modFonts_mem : (s.modFonts f).mem = s.mem := rfl
@[simp] theorem modFonts_desk : (s.modFonts f).desk = s.desk := rfl
@[simp] theorem modFonts_scanner : (s.modFonts f).scanner = s.scanner := rfl
@[simp] theorem modFonts_flight : (s.modFonts f).flight = s.flight := rfl
@[simp] theorem modFonts_resultWrite : (s.modFonts f).resultWrite = s.resultWrite := rfl
@[simp] theorem modFonts_composer : (s.modFonts f).composer = s.composer := rfl
@[simp] theorem modFonts_hyphenation : (s.modFonts f).hyphenation = s.hyphenation := rfl
@[simp] theorem modFonts_fonts : (s.modFonts f).fonts = f s.fonts := rfl
@[simp] theorem modFonts_store : (s.modFonts f).store = s.store := rfl
@[simp] theorem modFonts_exposure : (s.modFonts f).exposure = s.exposure := rfl
@[simp] theorem modFonts_motion : (s.modFonts f).motion = s.motion := rfl
@[simp] theorem modFonts_drum : (s.modFonts f).drum = s.drum := rfl
@[simp] theorem modFonts_film : (s.modFonts f).film = s.film := rfl
@[simp] theorem modFonts_proof : (s.modFonts f).proof = s.proof := rfl
@[simp] theorem modFonts_notices : (s.modFonts f).notices = s.notices := rfl
@[simp] theorem modFonts_pins : (s.modFonts f).pins = s.pins := rfl
@[simp] theorem modFonts_bus : (s.modFonts f).bus = s.bus := rfl
@[simp] theorem modFonts_freeCounter : (s.modFonts f).freeCounter = s.freeCounter := rfl
@[simp] theorem modFonts_pending : (s.modFonts f).pending = s.pending := rfl
end Modfonts

section Modstore
variable (f : LineStore → LineStore) (s : State)
@[simp] theorem modStore_mem : (s.modStore f).mem = s.mem := rfl
@[simp] theorem modStore_desk : (s.modStore f).desk = s.desk := rfl
@[simp] theorem modStore_scanner : (s.modStore f).scanner = s.scanner := rfl
@[simp] theorem modStore_flight : (s.modStore f).flight = s.flight := rfl
@[simp] theorem modStore_resultWrite : (s.modStore f).resultWrite = s.resultWrite := rfl
@[simp] theorem modStore_composer : (s.modStore f).composer = s.composer := rfl
@[simp] theorem modStore_hyphenation : (s.modStore f).hyphenation = s.hyphenation := rfl
@[simp] theorem modStore_fonts : (s.modStore f).fonts = s.fonts := rfl
@[simp] theorem modStore_store : (s.modStore f).store = f s.store := rfl
@[simp] theorem modStore_exposure : (s.modStore f).exposure = s.exposure := rfl
@[simp] theorem modStore_motion : (s.modStore f).motion = s.motion := rfl
@[simp] theorem modStore_drum : (s.modStore f).drum = s.drum := rfl
@[simp] theorem modStore_film : (s.modStore f).film = s.film := rfl
@[simp] theorem modStore_proof : (s.modStore f).proof = s.proof := rfl
@[simp] theorem modStore_notices : (s.modStore f).notices = s.notices := rfl
@[simp] theorem modStore_pins : (s.modStore f).pins = s.pins := rfl
@[simp] theorem modStore_bus : (s.modStore f).bus = s.bus := rfl
@[simp] theorem modStore_freeCounter : (s.modStore f).freeCounter = s.freeCounter := rfl
@[simp] theorem modStore_pending : (s.modStore f).pending = s.pending := rfl
end Modstore

section Modexposure
variable (f : Exposure → Exposure) (s : State)
@[simp] theorem modExposure_mem : (s.modExposure f).mem = s.mem := rfl
@[simp] theorem modExposure_desk : (s.modExposure f).desk = s.desk := rfl
@[simp] theorem modExposure_scanner : (s.modExposure f).scanner = s.scanner := rfl
@[simp] theorem modExposure_flight : (s.modExposure f).flight = s.flight := rfl
@[simp] theorem modExposure_resultWrite : (s.modExposure f).resultWrite = s.resultWrite := rfl
@[simp] theorem modExposure_composer : (s.modExposure f).composer = s.composer := rfl
@[simp] theorem modExposure_hyphenation : (s.modExposure f).hyphenation = s.hyphenation := rfl
@[simp] theorem modExposure_fonts : (s.modExposure f).fonts = s.fonts := rfl
@[simp] theorem modExposure_store : (s.modExposure f).store = s.store := rfl
@[simp] theorem modExposure_exposure : (s.modExposure f).exposure = f s.exposure := rfl
@[simp] theorem modExposure_motion : (s.modExposure f).motion = s.motion := rfl
@[simp] theorem modExposure_drum : (s.modExposure f).drum = s.drum := rfl
@[simp] theorem modExposure_film : (s.modExposure f).film = s.film := rfl
@[simp] theorem modExposure_proof : (s.modExposure f).proof = s.proof := rfl
@[simp] theorem modExposure_notices : (s.modExposure f).notices = s.notices := rfl
@[simp] theorem modExposure_pins : (s.modExposure f).pins = s.pins := rfl
@[simp] theorem modExposure_bus : (s.modExposure f).bus = s.bus := rfl
@[simp] theorem modExposure_freeCounter : (s.modExposure f).freeCounter = s.freeCounter := rfl
@[simp] theorem modExposure_pending : (s.modExposure f).pending = s.pending := rfl
end Modexposure

section Modmotion
variable (f : Motion → Motion) (s : State)
@[simp] theorem modMotion_mem : (s.modMotion f).mem = s.mem := rfl
@[simp] theorem modMotion_desk : (s.modMotion f).desk = s.desk := rfl
@[simp] theorem modMotion_scanner : (s.modMotion f).scanner = s.scanner := rfl
@[simp] theorem modMotion_flight : (s.modMotion f).flight = s.flight := rfl
@[simp] theorem modMotion_resultWrite : (s.modMotion f).resultWrite = s.resultWrite := rfl
@[simp] theorem modMotion_composer : (s.modMotion f).composer = s.composer := rfl
@[simp] theorem modMotion_hyphenation : (s.modMotion f).hyphenation = s.hyphenation := rfl
@[simp] theorem modMotion_fonts : (s.modMotion f).fonts = s.fonts := rfl
@[simp] theorem modMotion_store : (s.modMotion f).store = s.store := rfl
@[simp] theorem modMotion_exposure : (s.modMotion f).exposure = s.exposure := rfl
@[simp] theorem modMotion_motion : (s.modMotion f).motion = f s.motion := rfl
@[simp] theorem modMotion_drum : (s.modMotion f).drum = s.drum := rfl
@[simp] theorem modMotion_film : (s.modMotion f).film = s.film := rfl
@[simp] theorem modMotion_proof : (s.modMotion f).proof = s.proof := rfl
@[simp] theorem modMotion_notices : (s.modMotion f).notices = s.notices := rfl
@[simp] theorem modMotion_pins : (s.modMotion f).pins = s.pins := rfl
@[simp] theorem modMotion_bus : (s.modMotion f).bus = s.bus := rfl
@[simp] theorem modMotion_freeCounter : (s.modMotion f).freeCounter = s.freeCounter := rfl
@[simp] theorem modMotion_pending : (s.modMotion f).pending = s.pending := rfl
end Modmotion

section Moddrum
variable (f : Drum → Drum) (s : State)
@[simp] theorem modDrum_mem : (s.modDrum f).mem = s.mem := rfl
@[simp] theorem modDrum_desk : (s.modDrum f).desk = s.desk := rfl
@[simp] theorem modDrum_scanner : (s.modDrum f).scanner = s.scanner := rfl
@[simp] theorem modDrum_flight : (s.modDrum f).flight = s.flight := rfl
@[simp] theorem modDrum_resultWrite : (s.modDrum f).resultWrite = s.resultWrite := rfl
@[simp] theorem modDrum_composer : (s.modDrum f).composer = s.composer := rfl
@[simp] theorem modDrum_hyphenation : (s.modDrum f).hyphenation = s.hyphenation := rfl
@[simp] theorem modDrum_fonts : (s.modDrum f).fonts = s.fonts := rfl
@[simp] theorem modDrum_store : (s.modDrum f).store = s.store := rfl
@[simp] theorem modDrum_exposure : (s.modDrum f).exposure = s.exposure := rfl
@[simp] theorem modDrum_motion : (s.modDrum f).motion = s.motion := rfl
@[simp] theorem modDrum_drum : (s.modDrum f).drum = f s.drum := rfl
@[simp] theorem modDrum_film : (s.modDrum f).film = s.film := rfl
@[simp] theorem modDrum_proof : (s.modDrum f).proof = s.proof := rfl
@[simp] theorem modDrum_notices : (s.modDrum f).notices = s.notices := rfl
@[simp] theorem modDrum_pins : (s.modDrum f).pins = s.pins := rfl
@[simp] theorem modDrum_bus : (s.modDrum f).bus = s.bus := rfl
@[simp] theorem modDrum_freeCounter : (s.modDrum f).freeCounter = s.freeCounter := rfl
@[simp] theorem modDrum_pending : (s.modDrum f).pending = s.pending := rfl
end Moddrum

section Modfilm
variable (f : Film → Film) (s : State)
@[simp] theorem modFilm_mem : (s.modFilm f).mem = s.mem := rfl
@[simp] theorem modFilm_desk : (s.modFilm f).desk = s.desk := rfl
@[simp] theorem modFilm_scanner : (s.modFilm f).scanner = s.scanner := rfl
@[simp] theorem modFilm_flight : (s.modFilm f).flight = s.flight := rfl
@[simp] theorem modFilm_resultWrite : (s.modFilm f).resultWrite = s.resultWrite := rfl
@[simp] theorem modFilm_composer : (s.modFilm f).composer = s.composer := rfl
@[simp] theorem modFilm_hyphenation : (s.modFilm f).hyphenation = s.hyphenation := rfl
@[simp] theorem modFilm_fonts : (s.modFilm f).fonts = s.fonts := rfl
@[simp] theorem modFilm_store : (s.modFilm f).store = s.store := rfl
@[simp] theorem modFilm_exposure : (s.modFilm f).exposure = s.exposure := rfl
@[simp] theorem modFilm_motion : (s.modFilm f).motion = s.motion := rfl
@[simp] theorem modFilm_drum : (s.modFilm f).drum = s.drum := rfl
@[simp] theorem modFilm_film : (s.modFilm f).film = f s.film := rfl
@[simp] theorem modFilm_proof : (s.modFilm f).proof = s.proof := rfl
@[simp] theorem modFilm_notices : (s.modFilm f).notices = s.notices := rfl
@[simp] theorem modFilm_pins : (s.modFilm f).pins = s.pins := rfl
@[simp] theorem modFilm_bus : (s.modFilm f).bus = s.bus := rfl
@[simp] theorem modFilm_freeCounter : (s.modFilm f).freeCounter = s.freeCounter := rfl
@[simp] theorem modFilm_pending : (s.modFilm f).pending = s.pending := rfl
end Modfilm

section Modproof
variable (f : ProofRenderer → ProofRenderer) (s : State)
@[simp] theorem modProof_mem : (s.modProof f).mem = s.mem := rfl
@[simp] theorem modProof_desk : (s.modProof f).desk = s.desk := rfl
@[simp] theorem modProof_scanner : (s.modProof f).scanner = s.scanner := rfl
@[simp] theorem modProof_flight : (s.modProof f).flight = s.flight := rfl
@[simp] theorem modProof_resultWrite : (s.modProof f).resultWrite = s.resultWrite := rfl
@[simp] theorem modProof_composer : (s.modProof f).composer = s.composer := rfl
@[simp] theorem modProof_hyphenation : (s.modProof f).hyphenation = s.hyphenation := rfl
@[simp] theorem modProof_fonts : (s.modProof f).fonts = s.fonts := rfl
@[simp] theorem modProof_store : (s.modProof f).store = s.store := rfl
@[simp] theorem modProof_exposure : (s.modProof f).exposure = s.exposure := rfl
@[simp] theorem modProof_motion : (s.modProof f).motion = s.motion := rfl
@[simp] theorem modProof_drum : (s.modProof f).drum = s.drum := rfl
@[simp] theorem modProof_film : (s.modProof f).film = s.film := rfl
@[simp] theorem modProof_proof : (s.modProof f).proof = f s.proof := rfl
@[simp] theorem modProof_notices : (s.modProof f).notices = s.notices := rfl
@[simp] theorem modProof_pins : (s.modProof f).pins = s.pins := rfl
@[simp] theorem modProof_bus : (s.modProof f).bus = s.bus := rfl
@[simp] theorem modProof_freeCounter : (s.modProof f).freeCounter = s.freeCounter := rfl
@[simp] theorem modProof_pending : (s.modProof f).pending = s.pending := rfl
end Modproof

section Modnotices
variable (f : Notices → Notices) (s : State)
@[simp] theorem modNotices_mem : (s.modNotices f).mem = s.mem := rfl
@[simp] theorem modNotices_desk : (s.modNotices f).desk = s.desk := rfl
@[simp] theorem modNotices_scanner : (s.modNotices f).scanner = s.scanner := rfl
@[simp] theorem modNotices_flight : (s.modNotices f).flight = s.flight := rfl
@[simp] theorem modNotices_resultWrite : (s.modNotices f).resultWrite = s.resultWrite := rfl
@[simp] theorem modNotices_composer : (s.modNotices f).composer = s.composer := rfl
@[simp] theorem modNotices_hyphenation : (s.modNotices f).hyphenation = s.hyphenation := rfl
@[simp] theorem modNotices_fonts : (s.modNotices f).fonts = s.fonts := rfl
@[simp] theorem modNotices_store : (s.modNotices f).store = s.store := rfl
@[simp] theorem modNotices_exposure : (s.modNotices f).exposure = s.exposure := rfl
@[simp] theorem modNotices_motion : (s.modNotices f).motion = s.motion := rfl
@[simp] theorem modNotices_drum : (s.modNotices f).drum = s.drum := rfl
@[simp] theorem modNotices_film : (s.modNotices f).film = s.film := rfl
@[simp] theorem modNotices_proof : (s.modNotices f).proof = s.proof := rfl
@[simp] theorem modNotices_notices : (s.modNotices f).notices = f s.notices := rfl
@[simp] theorem modNotices_pins : (s.modNotices f).pins = s.pins := rfl
@[simp] theorem modNotices_bus : (s.modNotices f).bus = s.bus := rfl
@[simp] theorem modNotices_freeCounter : (s.modNotices f).freeCounter = s.freeCounter := rfl
@[simp] theorem modNotices_pending : (s.modNotices f).pending = s.pending := rfl
end Modnotices

section Modpins
variable (f : Pins → Pins) (s : State)
@[simp] theorem modPins_mem : (s.modPins f).mem = s.mem := rfl
@[simp] theorem modPins_desk : (s.modPins f).desk = s.desk := rfl
@[simp] theorem modPins_scanner : (s.modPins f).scanner = s.scanner := rfl
@[simp] theorem modPins_flight : (s.modPins f).flight = s.flight := rfl
@[simp] theorem modPins_resultWrite : (s.modPins f).resultWrite = s.resultWrite := rfl
@[simp] theorem modPins_composer : (s.modPins f).composer = s.composer := rfl
@[simp] theorem modPins_hyphenation : (s.modPins f).hyphenation = s.hyphenation := rfl
@[simp] theorem modPins_fonts : (s.modPins f).fonts = s.fonts := rfl
@[simp] theorem modPins_store : (s.modPins f).store = s.store := rfl
@[simp] theorem modPins_exposure : (s.modPins f).exposure = s.exposure := rfl
@[simp] theorem modPins_motion : (s.modPins f).motion = s.motion := rfl
@[simp] theorem modPins_drum : (s.modPins f).drum = s.drum := rfl
@[simp] theorem modPins_film : (s.modPins f).film = s.film := rfl
@[simp] theorem modPins_proof : (s.modPins f).proof = s.proof := rfl
@[simp] theorem modPins_notices : (s.modPins f).notices = s.notices := rfl
@[simp] theorem modPins_pins : (s.modPins f).pins = f s.pins := rfl
@[simp] theorem modPins_bus : (s.modPins f).bus = s.bus := rfl
@[simp] theorem modPins_freeCounter : (s.modPins f).freeCounter = s.freeCounter := rfl
@[simp] theorem modPins_pending : (s.modPins f).pending = s.pending := rfl
end Modpins

section Setresultwrite
variable (x : Option ResultWrite) (s : State)
@[simp] theorem setResultWrite_mem : (s.setResultWrite x).mem = s.mem := rfl
@[simp] theorem setResultWrite_desk : (s.setResultWrite x).desk = s.desk := rfl
@[simp] theorem setResultWrite_scanner : (s.setResultWrite x).scanner = s.scanner := rfl
@[simp] theorem setResultWrite_flight : (s.setResultWrite x).flight = s.flight := rfl
@[simp] theorem setResultWrite_resultWrite : (s.setResultWrite x).resultWrite = x := rfl
@[simp] theorem setResultWrite_composer : (s.setResultWrite x).composer = s.composer := rfl
@[simp] theorem setResultWrite_hyphenation : (s.setResultWrite x).hyphenation = s.hyphenation := rfl
@[simp] theorem setResultWrite_fonts : (s.setResultWrite x).fonts = s.fonts := rfl
@[simp] theorem setResultWrite_store : (s.setResultWrite x).store = s.store := rfl
@[simp] theorem setResultWrite_exposure : (s.setResultWrite x).exposure = s.exposure := rfl
@[simp] theorem setResultWrite_motion : (s.setResultWrite x).motion = s.motion := rfl
@[simp] theorem setResultWrite_drum : (s.setResultWrite x).drum = s.drum := rfl
@[simp] theorem setResultWrite_film : (s.setResultWrite x).film = s.film := rfl
@[simp] theorem setResultWrite_proof : (s.setResultWrite x).proof = s.proof := rfl
@[simp] theorem setResultWrite_notices : (s.setResultWrite x).notices = s.notices := rfl
@[simp] theorem setResultWrite_pins : (s.setResultWrite x).pins = s.pins := rfl
@[simp] theorem setResultWrite_bus : (s.setResultWrite x).bus = s.bus := rfl
@[simp] theorem setResultWrite_freeCounter : (s.setResultWrite x).freeCounter = s.freeCounter := rfl
@[simp] theorem setResultWrite_pending : (s.setResultWrite x).pending = s.pending := rfl
end Setresultwrite

section Setbus
variable (x : Option BusFault) (s : State)
@[simp] theorem setBus_mem : (s.setBus x).mem = s.mem := rfl
@[simp] theorem setBus_desk : (s.setBus x).desk = s.desk := rfl
@[simp] theorem setBus_scanner : (s.setBus x).scanner = s.scanner := rfl
@[simp] theorem setBus_flight : (s.setBus x).flight = s.flight := rfl
@[simp] theorem setBus_resultWrite : (s.setBus x).resultWrite = s.resultWrite := rfl
@[simp] theorem setBus_composer : (s.setBus x).composer = s.composer := rfl
@[simp] theorem setBus_hyphenation : (s.setBus x).hyphenation = s.hyphenation := rfl
@[simp] theorem setBus_fonts : (s.setBus x).fonts = s.fonts := rfl
@[simp] theorem setBus_store : (s.setBus x).store = s.store := rfl
@[simp] theorem setBus_exposure : (s.setBus x).exposure = s.exposure := rfl
@[simp] theorem setBus_motion : (s.setBus x).motion = s.motion := rfl
@[simp] theorem setBus_drum : (s.setBus x).drum = s.drum := rfl
@[simp] theorem setBus_film : (s.setBus x).film = s.film := rfl
@[simp] theorem setBus_proof : (s.setBus x).proof = s.proof := rfl
@[simp] theorem setBus_notices : (s.setBus x).notices = s.notices := rfl
@[simp] theorem setBus_pins : (s.setBus x).pins = s.pins := rfl
@[simp] theorem setBus_bus : (s.setBus x).bus = x := rfl
@[simp] theorem setBus_freeCounter : (s.setBus x).freeCounter = s.freeCounter := rfl
@[simp] theorem setBus_pending : (s.setBus x).pending = s.pending := rfl
end Setbus

section Setpending
variable (x : List Instr) (s : State)
@[simp] theorem setPending_mem : (s.setPending x).mem = s.mem := rfl
@[simp] theorem setPending_desk : (s.setPending x).desk = s.desk := rfl
@[simp] theorem setPending_scanner : (s.setPending x).scanner = s.scanner := rfl
@[simp] theorem setPending_flight : (s.setPending x).flight = s.flight := rfl
@[simp] theorem setPending_resultWrite : (s.setPending x).resultWrite = s.resultWrite := rfl
@[simp] theorem setPending_composer : (s.setPending x).composer = s.composer := rfl
@[simp] theorem setPending_hyphenation : (s.setPending x).hyphenation = s.hyphenation := rfl
@[simp] theorem setPending_fonts : (s.setPending x).fonts = s.fonts := rfl
@[simp] theorem setPending_store : (s.setPending x).store = s.store := rfl
@[simp] theorem setPending_exposure : (s.setPending x).exposure = s.exposure := rfl
@[simp] theorem setPending_motion : (s.setPending x).motion = s.motion := rfl
@[simp] theorem setPending_drum : (s.setPending x).drum = s.drum := rfl
@[simp] theorem setPending_film : (s.setPending x).film = s.film := rfl
@[simp] theorem setPending_proof : (s.setPending x).proof = s.proof := rfl
@[simp] theorem setPending_notices : (s.setPending x).notices = s.notices := rfl
@[simp] theorem setPending_pins : (s.setPending x).pins = s.pins := rfl
@[simp] theorem setPending_bus : (s.setPending x).bus = s.bus := rfl
@[simp] theorem setPending_freeCounter : (s.setPending x).freeCounter = s.freeCounter := rfl
@[simp] theorem setPending_pending : (s.setPending x).pending = x := rfl
end Setpending

section DrawFree
variable (s : State)
@[simp] theorem drawFree_mem : s.drawFree.mem = s.mem := rfl
@[simp] theorem drawFree_desk : s.drawFree.desk = s.desk := rfl
@[simp] theorem drawFree_scanner : s.drawFree.scanner = s.scanner := rfl
@[simp] theorem drawFree_flight : s.drawFree.flight = s.flight := rfl
@[simp] theorem drawFree_resultWrite : s.drawFree.resultWrite = s.resultWrite := rfl
@[simp] theorem drawFree_composer : s.drawFree.composer = s.composer := rfl
@[simp] theorem drawFree_hyphenation : s.drawFree.hyphenation = s.hyphenation := rfl
@[simp] theorem drawFree_fonts : s.drawFree.fonts = s.fonts := rfl
@[simp] theorem drawFree_store : s.drawFree.store = s.store := rfl
@[simp] theorem drawFree_exposure : s.drawFree.exposure = s.exposure := rfl
@[simp] theorem drawFree_motion : s.drawFree.motion = s.motion := rfl
@[simp] theorem drawFree_drum : s.drawFree.drum = s.drum := rfl
@[simp] theorem drawFree_film : s.drawFree.film = s.film := rfl
@[simp] theorem drawFree_proof : s.drawFree.proof = s.proof := rfl
@[simp] theorem drawFree_notices : s.drawFree.notices = s.notices := rfl
@[simp] theorem drawFree_pins : s.drawFree.pins = s.pins := rfl
@[simp] theorem drawFree_bus : s.drawFree.bus = s.bus := rfl
@[simp] theorem drawFree_freeCounter : s.drawFree.freeCounter = s.freeCounter + 1 := rfl
@[simp] theorem drawFree_pending : s.drawFree.pending = s.pending := rfl
end DrawFree

end Sys2Proof.Machine.State
end

