-- ==== Sys2Proof/Laws/Ops.lean ====
section
/-! SUPPORT. What the shared operations can do, once for each: bus accesses with the bus acknowledging, stores, the settling of the
Flight Table, the run of a waiting Composer, notices, and the reading of a take code. -/

namespace Sys2Proof.Machine

/-! ### Bus accesses that are acknowledged (R19) -/

/-- With every access acknowledged a read gives the bytes and changes nothing. -/
theorem State.busRead_none (s : State) (a : Addr) (n : Nat) (h : s.bus = none) : s.busRead a n = (some (s.bytes a n), s) := by
  simp [State.busRead, h]

/-- With every access acknowledged a write stores its bytes. -/
theorem State.busWrite_none (s : State) (a : Addr) (bs : List Byte) (h : s.bus = none) :
    s.busWrite a bs = (true, s.storeBytes a bs) := by
  simp [State.busWrite, h]

/-- With the bus armed, a write that it cuts short stores the bytes acknowledged before the failing one, and no other. -/
theorem State.busWrite_fails (s : State) (a : Addr) (bs : List Byte) (f : BusFault) (h : s.bus = some f) (hf : f.acked < bs.length) :
    s.busWrite a bs = (false, (s.storeBytes a (bs.take f.acked)).setBus f.next) := by
  simp [State.busWrite, h, Nat.not_le.2 hf]

/-- With every access acknowledged TAKEN is stored. -/
theorem State.writeTaken_none (s : State) (slot : Nat) (h : s.bus = none) :
    s.writeTaken slot = (true, s.storeBytes (s.slotAddr slot 0) [takenByte]) := by
  simp [State.writeTaken, State.busWrite_none _ _ _ h]

/-- A write of TAKEN that is not acknowledged has reached its slot, or has left it as it was, as the bus error says. -/
theorem State.writeTaken_fails (s : State) (slot : Nat) (f : BusFault) (h : s.bus = some f) (hf : f.acked = 0) :
    s.writeTaken slot = (false, if f.landed then (s.setBus f.next).storeBytes (s.slotAddr slot 0) [takenByte] else s.setBus f.next) := by
  simp [State.writeTaken, State.busWrite_fails s _ [takenByte] f h (by simp [hf]), h, hf, State.storeBytes]

/-! ### Stores change memory alone -/

@[simp] theorem State.storeBytes_desk (a : Addr) (bs : List Byte) (s : State) : (s.storeBytes a bs).desk = s.desk := by
  induction bs generalizing a s with
  | nil => rfl
  | cons v rest ih => exact ih _ _

@[simp] theorem State.storeBytes_scanner (a : Addr) (bs : List Byte) (s : State) : (s.storeBytes a bs).scanner = s.scanner := by
  induction bs generalizing a s with
  | nil => rfl
  | cons v rest ih => exact ih _ _

@[simp] theorem State.storeBytes_flight (a : Addr) (bs : List Byte) (s : State) : (s.storeBytes a bs).flight = s.flight := by
  induction bs generalizing a s with
  | nil => rfl
  | cons v rest ih => exact ih _ _

@[simp] theorem State.storeBytes_resultWrite (a : Addr) (bs : List Byte) (s : State) : (s.storeBytes a bs).resultWrite = s.resultWrite := by
  induction bs generalizing a s with
  | nil => rfl
  | cons v rest ih => exact ih _ _

@[simp] theorem State.storeBytes_composer (a : Addr) (bs : List Byte) (s : State) : (s.storeBytes a bs).composer = s.composer := by
  induction bs generalizing a s with
  | nil => rfl
  | cons v rest ih => exact ih _ _

@[simp] theorem State.storeBytes_hyphenation (a : Addr) (bs : List Byte) (s : State) : (s.storeBytes a bs).hyphenation = s.hyphenation := by
  induction bs generalizing a s with
  | nil => rfl
  | cons v rest ih => exact ih _ _

@[simp] theorem State.storeBytes_fonts (a : Addr) (bs : List Byte) (s : State) : (s.storeBytes a bs).fonts = s.fonts := by
  induction bs generalizing a s with
  | nil => rfl
  | cons v rest ih => exact ih _ _

@[simp] theorem State.storeBytes_store (a : Addr) (bs : List Byte) (s : State) : (s.storeBytes a bs).store = s.store := by
  induction bs generalizing a s with
  | nil => rfl
  | cons v rest ih => exact ih _ _

@[simp] theorem State.storeBytes_exposure (a : Addr) (bs : List Byte) (s : State) : (s.storeBytes a bs).exposure = s.exposure := by
  induction bs generalizing a s with
  | nil => rfl
  | cons v rest ih => exact ih _ _

@[simp] theorem State.storeBytes_motion (a : Addr) (bs : List Byte) (s : State) : (s.storeBytes a bs).motion = s.motion := by
  induction bs generalizing a s with
  | nil => rfl
  | cons v rest ih => exact ih _ _

@[simp] theorem State.storeBytes_drum (a : Addr) (bs : List Byte) (s : State) : (s.storeBytes a bs).drum = s.drum := by
  induction bs generalizing a s with
  | nil => rfl
  | cons v rest ih => exact ih _ _

@[simp] theorem State.storeBytes_film (a : Addr) (bs : List Byte) (s : State) : (s.storeBytes a bs).film = s.film := by
  induction bs generalizing a s with
  | nil => rfl
  | cons v rest ih => exact ih _ _

@[simp] theorem State.storeBytes_proof (a : Addr) (bs : List Byte) (s : State) : (s.storeBytes a bs).proof = s.proof := by
  induction bs generalizing a s with
  | nil => rfl
  | cons v rest ih => exact ih _ _

@[simp] theorem State.storeBytes_notices (a : Addr) (bs : List Byte) (s : State) : (s.storeBytes a bs).notices = s.notices := by
  induction bs generalizing a s with
  | nil => rfl
  | cons v rest ih => exact ih _ _

@[simp] theorem State.storeBytes_pins (a : Addr) (bs : List Byte) (s : State) : (s.storeBytes a bs).pins = s.pins := by
  induction bs generalizing a s with
  | nil => rfl
  | cons v rest ih => exact ih _ _

@[simp] theorem State.storeBytes_bus (a : Addr) (bs : List Byte) (s : State) : (s.storeBytes a bs).bus = s.bus := by
  induction bs generalizing a s with
  | nil => rfl
  | cons v rest ih => exact ih _ _

@[simp] theorem State.storeBytes_freeCounter (a : Addr) (bs : List Byte) (s : State) : (s.storeBytes a bs).freeCounter = s.freeCounter := by
  induction bs generalizing a s with
  | nil => rfl
  | cons v rest ih => exact ih _ _

@[simp] theorem State.storeBytes_pending (a : Addr) (bs : List Byte) (s : State) : (s.storeBytes a bs).pending = s.pending := by
  induction bs generalizing a s with
  | nil => rfl
  | cons v rest ih => exact ih _ _

/-! ### Settling changes the Flight Table, the result write and the free-value counter alone (R34) -/

@[simp] theorem State.settle_mem (s : State) : s.settle.mem = s.mem := by
  unfold State.settle State.beginResult State.markDue
  repeat' split
  all_goals rfl

@[simp] theorem State.settle_desk (s : State) : s.settle.desk = s.desk := by
  unfold State.settle State.beginResult State.markDue
  repeat' split
  all_goals rfl

@[simp] theorem State.settle_scanner (s : State) : s.settle.scanner = s.scanner := by
  unfold State.settle State.beginResult State.markDue
  repeat' split
  all_goals rfl

@[simp] theorem State.settle_composer (s : State) : s.settle.composer = s.composer := by
  unfold State.settle State.beginResult State.markDue
  repeat' split
  all_goals rfl

@[simp] theorem State.settle_hyphenation (s : State) : s.settle.hyphenation = s.hyphenation := by
  unfold State.settle State.beginResult State.markDue
  repeat' split
  all_goals rfl

@[simp] theorem State.settle_fonts (s : State) : s.settle.fonts = s.fonts := by
  unfold State.settle State.beginResult State.markDue
  repeat' split
  all_goals rfl

@[simp] theorem State.settle_store (s : State) : s.settle.store = s.store := by
  unfold State.settle State.beginResult State.markDue
  repeat' split
  all_goals rfl

@[simp] theorem State.settle_exposure (s : State) : s.settle.exposure = s.exposure := by
  unfold State.settle State.beginResult State.markDue
  repeat' split
  all_goals rfl

@[simp] theorem State.settle_motion (s : State) : s.settle.motion = s.motion := by
  unfold State.settle State.beginResult State.markDue
  repeat' split
  all_goals rfl

@[simp] theorem State.settle_drum (s : State) : s.settle.drum = s.drum := by
  unfold State.settle State.beginResult State.markDue
  repeat' split
  all_goals rfl

@[simp] theorem State.settle_film (s : State) : s.settle.film = s.film := by
  unfold State.settle State.beginResult State.markDue
  repeat' split
  all_goals rfl

@[simp] theorem State.settle_proof (s : State) : s.settle.proof = s.proof := by
  unfold State.settle State.beginResult State.markDue
  repeat' split
  all_goals rfl

@[simp] theorem State.settle_notices (s : State) : s.settle.notices = s.notices := by
  unfold State.settle State.beginResult State.markDue
  repeat' split
  all_goals rfl

@[simp] theorem State.settle_pins (s : State) : s.settle.pins = s.pins := by
  unfold State.settle State.beginResult State.markDue
  repeat' split
  all_goals rfl

@[simp] theorem State.settle_bus (s : State) : s.settle.bus = s.bus := by
  unfold State.settle State.beginResult State.markDue
  repeat' split
  all_goals rfl

@[simp] theorem State.settle_pending (s : State) : s.settle.pending = s.pending := by
  unfold State.settle State.beginResult State.markDue
  repeat' split
  all_goals rfl

/-! ### A Composer that waits (R84, R85) -/

/-- A Composer that may not act, or has nothing to act on, does nothing in a run but let entries fall due. -/
theorem State.composerRun_wait (s : State)
    (h : s.desk.controller ≠ .running ∨ s.accessInFlight = true ∨ (s.composer.preempt = none ∧ s.phaseReady = false)) :
    s.composerRun = s.settle := by
  unfold State.composerRun composerFuel State.composerLoop
  rcases h with h | h | ⟨h1, h2⟩
  · simp [h]
  · simp [h]
  · split
    · rfl
    · simp [h1, h2]

/-- One phase of a running Composer that has no flash to preempt for. -/
theorem State.composerLoop_phase (n : Nat) (s : State) (hr : s.desk.controller = .running) (hp : s.composer.preempt = none)
    (ha : s.accessInFlight = false) (hq : s.phaseReady = true) :
    State.composerLoop (n + 1) s = State.composerLoop n s.composerPhase := by
  rw [State.composerLoop]
  simp [hr, hp, ha, hq]

/-- The loop of a Composer that is between codes stops at once. -/
theorem State.composerLoop_reading (n : Nat) (s : State) (hp : s.composer.preempt = none) (h : s.composer.phase = .reading) :
    State.composerLoop n s = s := by
  cases n with
  | zero => rfl
  | succ n =>
    rw [State.composerLoop]
    simp [hp, State.phaseReady, h]

/-! ### Reading a take code (R51) -/

/-- Bytes of memory from an address on, the first apart. -/
theorem State.bytes_succ (s : State) (a : Addr) (n : Nat) : s.bytes a (n + 1) = s.byte a :: s.bytes (Addr.plus a 1) n := by
  simp only [State.bytes, List.range_succ_eq_map, List.map_cons, List.map_map]
  congr 1
  · simp [Addr.plus]
  · apply List.map_congr_left
    intro i _
    simp [Addr.plus, BitVec.add_assoc, BitVec.ofNat_add, BitVec.add_comm 1#24]

/-! ### Notices (R20) -/

/-- A change of an owner's set does nothing, where the notice stands or the part is STOPPED, or begins the write of its record. -/
theorem State.notice_cases (o : Owner) (s : State) : s.notice o = s ∨ (s.desk.controller ≠ .stopped
    ∧ (s.notices.writer o).inFlight = none ∧ (s.notices.writer o).written ≠ some (s.noticeShown o) ∧ s.notice o = s.beginNotice o) := by
  unfold State.notice
  split
  · rename_i h
    simp only [Bool.and_eq_true, bne_iff_ne, ne_eq, Option.isNone_iff_eq_none] at h
    exact .inr ⟨h.1.1, h.1.2, h.2, rfl⟩
  · exact .inl rfl

/-- An event's end does nothing, or begins the write of the record of an owner whose set the event has changed. -/
theorem State.noticeSince_cases (o : Owner) (s before : State) :
    s.noticeSince o before = s ∨ (s.conditions o ≠ before.conditions o ∧ s.desk.controller ≠ .stopped
      ∧ s.noticeSince o before = s.beginNotice o) := by
  unfold State.noticeSince
  split
  · exact .inl rfl
  · rename_i h
    rcases State.notice_cases o s with e | ⟨hc, -, -, e⟩
    · exact .inl e
    · exact .inr ⟨h, hc, e⟩

/-- A code whose byte and operands lie in the take is read whole, and acts. -/
theorem State.takeCode_reads (s : State) (i : Fin 8) (e : Entry) (code : Byte) (operands : List Byte) (row : Nat → Bool)
    (act : CodeAction) (hb : s.bus = none) (hr : s.desk.controller = .running) (hp : s.composer.phase = .reading)
    (hn : s.composer.preempt = none) (ht : s.composer.ticket = some i) (he : s.flight[i] = some e)
    (hl : s.composer.readPosition + (operands.length + 1) ≤ e.takeLength)
    (hm : s.bytes (Addr.plus e.takePtr s.composer.readPosition) (operands.length + 1) = code :: operands)
    (ho : operandCount code = operands.length) (hrow : row code.toNat = true) :
    s.takeCode row act =
      (act s.composer.readPosition code.toNat operands
        (s.modComposer fun c => { c with readPosition := s.composer.readPosition + 1 + operands.length })).composerRun := by
  rw [State.bytes_succ] at hm
  obtain ⟨h0, h1⟩ := List.cons.inj hm
  have hte : s.readingTicket = some e := by
    simp only [State.readingTicket, hr, hp, hn, and_self, if_true, State.ticketEntry, ht, Option.bind_some, State.entry, he,
      Option.map_some]
  have hnb : s.nextByte e = code := h0
  have hov : s.overruns e = false := by
    simp only [State.overruns, State.codeEnd, hnb, ho, Bool.or_eq_false_iff, decide_eq_false_iff_not]
    omega
  have h2 : s.bytes (s.readAddr e) 1 = [code] := by
    rw [State.bytes_succ]
    simp only [State.readAddr, h0, State.bytes, List.range_zero, List.map_nil]
  have h3 : s.bytes (Addr.plus (s.readAddr e) 1) operands.length = operands := h1
  simp only [State.takeCode, hte, hnb, hrow, hov, Bool.not_false, Bool.and_self, if_true, State.readCode, ho,
    State.busRead_none s _ _ hb, h2, h3]
  rfl

end Sys2Proof.Machine
end

