-- ==== Sys2Proof/Laws/Frames.lean ====
section
/-! SUPPORT. Frames: which components of the state each shared operation leaves as they were. -/

namespace Sys2Proof.Machine.State

/-! `event` changes desk alone. -/

@[simp] theorem event_mem (e : BitVec 4) (s : State) : (s.event e).mem = s.mem := rfl
@[simp] theorem event_scanner (e : BitVec 4) (s : State) : (s.event e).scanner = s.scanner := rfl
@[simp] theorem event_flight (e : BitVec 4) (s : State) : (s.event e).flight = s.flight := rfl
@[simp] theorem event_resultWrite (e : BitVec 4) (s : State) : (s.event e).resultWrite = s.resultWrite := rfl
@[simp] theorem event_composer (e : BitVec 4) (s : State) : (s.event e).composer = s.composer := rfl
@[simp] theorem event_hyphenation (e : BitVec 4) (s : State) : (s.event e).hyphenation = s.hyphenation := rfl
@[simp] theorem event_fonts (e : BitVec 4) (s : State) : (s.event e).fonts = s.fonts := rfl
@[simp] theorem event_store (e : BitVec 4) (s : State) : (s.event e).store = s.store := rfl
@[simp] theorem event_exposure (e : BitVec 4) (s : State) : (s.event e).exposure = s.exposure := rfl
@[simp] theorem event_motion (e : BitVec 4) (s : State) : (s.event e).motion = s.motion := rfl
@[simp] theorem event_drum (e : BitVec 4) (s : State) : (s.event e).drum = s.drum := rfl
@[simp] theorem event_film (e : BitVec 4) (s : State) : (s.event e).film = s.film := rfl
@[simp] theorem event_proof (e : BitVec 4) (s : State) : (s.event e).proof = s.proof := rfl
@[simp] theorem event_notices (e : BitVec 4) (s : State) : (s.event e).notices = s.notices := rfl
@[simp] theorem event_pins (e : BitVec 4) (s : State) : (s.event e).pins = s.pins := rfl
@[simp] theorem event_bus (e : BitVec 4) (s : State) : (s.event e).bus = s.bus := rfl
@[simp] theorem event_freeCounter (e : BitVec 4) (s : State) : (s.event e).freeCounter = s.freeCounter := rfl
@[simp] theorem event_pending (e : BitVec 4) (s : State) : (s.event e).pending = s.pending := rfl

/-! `endCommand` changes desk alone. -/

@[simp] theorem endCommand_mem (r : CmdResult) (s : State) : (s.endCommand r).mem = s.mem := rfl
@[simp] theorem endCommand_scanner (r : CmdResult) (s : State) : (s.endCommand r).scanner = s.scanner := rfl
@[simp] theorem endCommand_flight (r : CmdResult) (s : State) : (s.endCommand r).flight = s.flight := rfl
@[simp] theorem endCommand_resultWrite (r : CmdResult) (s : State) : (s.endCommand r).resultWrite = s.resultWrite := rfl
@[simp] theorem endCommand_composer (r : CmdResult) (s : State) : (s.endCommand r).composer = s.composer := rfl
@[simp] theorem endCommand_hyphenation (r : CmdResult) (s : State) : (s.endCommand r).hyphenation = s.hyphenation := rfl
@[simp] theorem endCommand_fonts (r : CmdResult) (s : State) : (s.endCommand r).fonts = s.fonts := rfl
@[simp] theorem endCommand_store (r : CmdResult) (s : State) : (s.endCommand r).store = s.store := rfl
@[simp] theorem endCommand_exposure (r : CmdResult) (s : State) : (s.endCommand r).exposure = s.exposure := rfl
@[simp] theorem endCommand_motion (r : CmdResult) (s : State) : (s.endCommand r).motion = s.motion := rfl
@[simp] theorem endCommand_drum (r : CmdResult) (s : State) : (s.endCommand r).drum = s.drum := rfl
@[simp] theorem endCommand_film (r : CmdResult) (s : State) : (s.endCommand r).film = s.film := rfl
@[simp] theorem endCommand_proof (r : CmdResult) (s : State) : (s.endCommand r).proof = s.proof := rfl
@[simp] theorem endCommand_notices (r : CmdResult) (s : State) : (s.endCommand r).notices = s.notices := rfl
@[simp] theorem endCommand_pins (r : CmdResult) (s : State) : (s.endCommand r).pins = s.pins := rfl
@[simp] theorem endCommand_bus (r : CmdResult) (s : State) : (s.endCommand r).bus = s.bus := rfl
@[simp] theorem endCommand_freeCounter (r : CmdResult) (s : State) : (s.endCommand r).freeCounter = s.freeCounter := rfl
@[simp] theorem endCommand_pending (r : CmdResult) (s : State) : (s.endCommand r).pending = s.pending := rfl

/-! `refuse` changes desk alone. -/

@[simp] theorem refuse_mem (r : CmdResult) (s : State) : (s.refuse r).mem = s.mem := rfl
@[simp] theorem refuse_scanner (r : CmdResult) (s : State) : (s.refuse r).scanner = s.scanner := rfl
@[simp] theorem refuse_flight (r : CmdResult) (s : State) : (s.refuse r).flight = s.flight := rfl
@[simp] theorem refuse_resultWrite (r : CmdResult) (s : State) : (s.refuse r).resultWrite = s.resultWrite := rfl
@[simp] theorem refuse_composer (r : CmdResult) (s : State) : (s.refuse r).composer = s.composer := rfl
@[simp] theorem refuse_hyphenation (r : CmdResult) (s : State) : (s.refuse r).hyphenation = s.hyphenation := rfl
@[simp] theorem refuse_fonts (r : CmdResult) (s : State) : (s.refuse r).fonts = s.fonts := rfl
@[simp] theorem refuse_store (r : CmdResult) (s : State) : (s.refuse r).store = s.store := rfl
@[simp] theorem refuse_exposure (r : CmdResult) (s : State) : (s.refuse r).exposure = s.exposure := rfl
@[simp] theorem refuse_motion (r : CmdResult) (s : State) : (s.refuse r).motion = s.motion := rfl
@[simp] theorem refuse_drum (r : CmdResult) (s : State) : (s.refuse r).drum = s.drum := rfl
@[simp] theorem refuse_film (r : CmdResult) (s : State) : (s.refuse r).film = s.film := rfl
@[simp] theorem refuse_proof (r : CmdResult) (s : State) : (s.refuse r).proof = s.proof := rfl
@[simp] theorem refuse_notices (r : CmdResult) (s : State) : (s.refuse r).notices = s.notices := rfl
@[simp] theorem refuse_pins (r : CmdResult) (s : State) : (s.refuse r).pins = s.pins := rfl
@[simp] theorem refuse_bus (r : CmdResult) (s : State) : (s.refuse r).bus = s.bus := rfl
@[simp] theorem refuse_freeCounter (r : CmdResult) (s : State) : (s.refuse r).freeCounter = s.freeCounter := rfl
@[simp] theorem refuse_pending (r : CmdResult) (s : State) : (s.refuse r).pending = s.pending := rfl

/-! `fault` changes desk alone. -/

@[simp] theorem fault_mem (c : HaltCause) (s : State) : (s.fault c).mem = s.mem := by
  unfold State.fault; repeat' split
  all_goals rfl
@[simp] theorem fault_scanner (c : HaltCause) (s : State) : (s.fault c).scanner = s.scanner := by
  unfold State.fault; repeat' split
  all_goals rfl
@[simp] theorem fault_flight (c : HaltCause) (s : State) : (s.fault c).flight = s.flight := by
  unfold State.fault; repeat' split
  all_goals rfl
@[simp] theorem fault_resultWrite (c : HaltCause) (s : State) : (s.fault c).resultWrite = s.resultWrite := by
  unfold State.fault; repeat' split
  all_goals rfl
@[simp] theorem fault_composer (c : HaltCause) (s : State) : (s.fault c).composer = s.composer := by
  unfold State.fault; repeat' split
  all_goals rfl
@[simp] theorem fault_hyphenation (c : HaltCause) (s : State) : (s.fault c).hyphenation = s.hyphenation := by
  unfold State.fault; repeat' split
  all_goals rfl
@[simp] theorem fault_fonts (c : HaltCause) (s : State) : (s.fault c).fonts = s.fonts := by
  unfold State.fault; repeat' split
  all_goals rfl
@[simp] theorem fault_store (c : HaltCause) (s : State) : (s.fault c).store = s.store := by
  unfold State.fault; repeat' split
  all_goals rfl
@[simp] theorem fault_exposure (c : HaltCause) (s : State) : (s.fault c).exposure = s.exposure := by
  unfold State.fault; repeat' split
  all_goals rfl
@[simp] theorem fault_motion (c : HaltCause) (s : State) : (s.fault c).motion = s.motion := by
  unfold State.fault; repeat' split
  all_goals rfl
@[simp] theorem fault_drum (c : HaltCause) (s : State) : (s.fault c).drum = s.drum := by
  unfold State.fault; repeat' split
  all_goals rfl
@[simp] theorem fault_film (c : HaltCause) (s : State) : (s.fault c).film = s.film := by
  unfold State.fault; repeat' split
  all_goals rfl
@[simp] theorem fault_proof (c : HaltCause) (s : State) : (s.fault c).proof = s.proof := by
  unfold State.fault; repeat' split
  all_goals rfl
@[simp] theorem fault_notices (c : HaltCause) (s : State) : (s.fault c).notices = s.notices := by
  unfold State.fault; repeat' split
  all_goals rfl
@[simp] theorem fault_pins (c : HaltCause) (s : State) : (s.fault c).pins = s.pins := by
  unfold State.fault; repeat' split
  all_goals rfl
@[simp] theorem fault_bus (c : HaltCause) (s : State) : (s.fault c).bus = s.bus := by
  unfold State.fault; repeat' split
  all_goals rfl
@[simp] theorem fault_freeCounter (c : HaltCause) (s : State) : (s.fault c).freeCounter = s.freeCounter := by
  unfold State.fault; repeat' split
  all_goals rfl
@[simp] theorem fault_pending (c : HaltCause) (s : State) : (s.fault c).pending = s.pending := by
  unfold State.fault; repeat' split
  all_goals rfl

/-! `trigger` changes scanner alone. -/

@[simp] theorem trigger_mem (s : State) : s.trigger.mem = s.mem := by
  unfold State.trigger; repeat' split
  all_goals rfl
@[simp] theorem trigger_desk (s : State) : s.trigger.desk = s.desk := by
  unfold State.trigger; repeat' split
  all_goals rfl
@[simp] theorem trigger_flight (s : State) : s.trigger.flight = s.flight := by
  unfold State.trigger; repeat' split
  all_goals rfl
@[simp] theorem trigger_resultWrite (s : State) : s.trigger.resultWrite = s.resultWrite := by
  unfold State.trigger; repeat' split
  all_goals rfl
@[simp] theorem trigger_composer (s : State) : s.trigger.composer = s.composer := by
  unfold State.trigger; repeat' split
  all_goals rfl
@[simp] theorem trigger_hyphenation (s : State) : s.trigger.hyphenation = s.hyphenation := by
  unfold State.trigger; repeat' split
  all_goals rfl
@[simp] theorem trigger_fonts (s : State) : s.trigger.fonts = s.fonts := by
  unfold State.trigger; repeat' split
  all_goals rfl
@[simp] theorem trigger_store (s : State) : s.trigger.store = s.store := by
  unfold State.trigger; repeat' split
  all_goals rfl
@[simp] theorem trigger_exposure (s : State) : s.trigger.exposure = s.exposure := by
  unfold State.trigger; repeat' split
  all_goals rfl
@[simp] theorem trigger_motion (s : State) : s.trigger.motion = s.motion := by
  unfold State.trigger; repeat' split
  all_goals rfl
@[simp] theorem trigger_drum (s : State) : s.trigger.drum = s.drum := by
  unfold State.trigger; repeat' split
  all_goals rfl
@[simp] theorem trigger_film (s : State) : s.trigger.film = s.film := by
  unfold State.trigger; repeat' split
  all_goals rfl
@[simp] theorem trigger_proof (s : State) : s.trigger.proof = s.proof := by
  unfold State.trigger; repeat' split
  all_goals rfl
@[simp] theorem trigger_notices (s : State) : s.trigger.notices = s.notices := by
  unfold State.trigger; repeat' split
  all_goals rfl
@[simp] theorem trigger_pins (s : State) : s.trigger.pins = s.pins := by
  unfold State.trigger; repeat' split
  all_goals rfl
@[simp] theorem trigger_bus (s : State) : s.trigger.bus = s.bus := by
  unfold State.trigger; repeat' split
  all_goals rfl
@[simp] theorem trigger_freeCounter (s : State) : s.trigger.freeCounter = s.freeCounter := by
  unfold State.trigger; repeat' split
  all_goals rfl
@[simp] theorem trigger_pending (s : State) : s.trigger.pending = s.pending := by
  unfold State.trigger; repeat' split
  all_goals rfl

/-! `testPending` changes scanner alone. -/

@[simp] theorem testPending_mem (s : State) : s.testPending.mem = s.mem := by
  unfold State.testPending; repeat' split
  all_goals rfl
@[simp] theorem testPending_desk (s : State) : s.testPending.desk = s.desk := by
  unfold State.testPending; repeat' split
  all_goals rfl
@[simp] theorem testPending_flight (s : State) : s.testPending.flight = s.flight := by
  unfold State.testPending; repeat' split
  all_goals rfl
@[simp] theorem testPending_resultWrite (s : State) : s.testPending.resultWrite = s.resultWrite := by
  unfold State.testPending; repeat' split
  all_goals rfl
@[simp] theorem testPending_composer (s : State) : s.testPending.composer = s.composer := by
  unfold State.testPending; repeat' split
  all_goals rfl
@[simp] theorem testPending_hyphenation (s : State) : s.testPending.hyphenation = s.hyphenation := by
  unfold State.testPending; repeat' split
  all_goals rfl
@[simp] theorem testPending_fonts (s : State) : s.testPending.fonts = s.fonts := by
  unfold State.testPending; repeat' split
  all_goals rfl
@[simp] theorem testPending_store (s : State) : s.testPending.store = s.store := by
  unfold State.testPending; repeat' split
  all_goals rfl
@[simp] theorem testPending_exposure (s : State) : s.testPending.exposure = s.exposure := by
  unfold State.testPending; repeat' split
  all_goals rfl
@[simp] theorem testPending_motion (s : State) : s.testPending.motion = s.motion := by
  unfold State.testPending; repeat' split
  all_goals rfl
@[simp] theorem testPending_drum (s : State) : s.testPending.drum = s.drum := by
  unfold State.testPending; repeat' split
  all_goals rfl
@[simp] theorem testPending_film (s : State) : s.testPending.film = s.film := by
  unfold State.testPending; repeat' split
  all_goals rfl
@[simp] theorem testPending_proof (s : State) : s.testPending.proof = s.proof := by
  unfold State.testPending; repeat' split
  all_goals rfl
@[simp] theorem testPending_notices (s : State) : s.testPending.notices = s.notices := by
  unfold State.testPending; repeat' split
  all_goals rfl
@[simp] theorem testPending_pins (s : State) : s.testPending.pins = s.pins := by
  unfold State.testPending; repeat' split
  all_goals rfl
@[simp] theorem testPending_bus (s : State) : s.testPending.bus = s.bus := by
  unfold State.testPending; repeat' split
  all_goals rfl
@[simp] theorem testPending_freeCounter (s : State) : s.testPending.freeCounter = s.freeCounter := by
  unfold State.testPending; repeat' split
  all_goals rfl
@[simp] theorem testPending_pending (s : State) : s.testPending.pending = s.pending := by
  unfold State.testPending; repeat' split
  all_goals rfl

/-! `beginNotice` changes notices alone. -/

@[simp] theorem beginNotice_mem (o : Owner) (s : State) : (s.beginNotice o).mem = s.mem := rfl
@[simp] theorem beginNotice_desk (o : Owner) (s : State) : (s.beginNotice o).desk = s.desk := rfl
@[simp] theorem beginNotice_scanner (o : Owner) (s : State) : (s.beginNotice o).scanner = s.scanner := rfl
@[simp] theorem beginNotice_flight (o : Owner) (s : State) : (s.beginNotice o).flight = s.flight := rfl
@[simp] theorem beginNotice_resultWrite (o : Owner) (s : State) : (s.beginNotice o).resultWrite = s.resultWrite := rfl
@[simp] theorem beginNotice_composer (o : Owner) (s : State) : (s.beginNotice o).composer = s.composer := rfl
@[simp] theorem beginNotice_hyphenation (o : Owner) (s : State) : (s.beginNotice o).hyphenation = s.hyphenation := rfl
@[simp] theorem beginNotice_fonts (o : Owner) (s : State) : (s.beginNotice o).fonts = s.fonts := rfl
@[simp] theorem beginNotice_store (o : Owner) (s : State) : (s.beginNotice o).store = s.store := rfl
@[simp] theorem beginNotice_exposure (o : Owner) (s : State) : (s.beginNotice o).exposure = s.exposure := rfl
@[simp] theorem beginNotice_motion (o : Owner) (s : State) : (s.beginNotice o).motion = s.motion := rfl
@[simp] theorem beginNotice_drum (o : Owner) (s : State) : (s.beginNotice o).drum = s.drum := rfl
@[simp] theorem beginNotice_film (o : Owner) (s : State) : (s.beginNotice o).film = s.film := rfl
@[simp] theorem beginNotice_proof (o : Owner) (s : State) : (s.beginNotice o).proof = s.proof := rfl
@[simp] theorem beginNotice_pins (o : Owner) (s : State) : (s.beginNotice o).pins = s.pins := rfl
@[simp] theorem beginNotice_bus (o : Owner) (s : State) : (s.beginNotice o).bus = s.bus := rfl
@[simp] theorem beginNotice_freeCounter (o : Owner) (s : State) : (s.beginNotice o).freeCounter = s.freeCounter := rfl
@[simp] theorem beginNotice_pending (o : Owner) (s : State) : (s.beginNotice o).pending = s.pending := rfl

/-! `notice` changes notices alone. -/

@[simp] theorem notice_mem (o : Owner) (s : State) : (s.notice o).mem = s.mem := by
  unfold State.notice; repeat' split
  all_goals rfl
@[simp] theorem notice_desk (o : Owner) (s : State) : (s.notice o).desk = s.desk := by
  unfold State.notice; repeat' split
  all_goals rfl
@[simp] theorem notice_scanner (o : Owner) (s : State) : (s.notice o).scanner = s.scanner := by
  unfold State.notice; repeat' split
  all_goals rfl
@[simp] theorem notice_flight (o : Owner) (s : State) : (s.notice o).flight = s.flight := by
  unfold State.notice; repeat' split
  all_goals rfl
@[simp] theorem notice_resultWrite (o : Owner) (s : State) : (s.notice o).resultWrite = s.resultWrite := by
  unfold State.notice; repeat' split
  all_goals rfl
@[simp] theorem notice_composer (o : Owner) (s : State) : (s.notice o).composer = s.composer := by
  unfold State.notice; repeat' split
  all_goals rfl
@[simp] theorem notice_hyphenation (o : Owner) (s : State) : (s.notice o).hyphenation = s.hyphenation := by
  unfold State.notice; repeat' split
  all_goals rfl
@[simp] theorem notice_fonts (o : Owner) (s : State) : (s.notice o).fonts = s.fonts := by
  unfold State.notice; repeat' split
  all_goals rfl
@[simp] theorem notice_store (o : Owner) (s : State) : (s.notice o).store = s.store := by
  unfold State.notice; repeat' split
  all_goals rfl
@[simp] theorem notice_exposure (o : Owner) (s : State) : (s.notice o).exposure = s.exposure := by
  unfold State.notice; repeat' split
  all_goals rfl
@[simp] theorem notice_motion (o : Owner) (s : State) : (s.notice o).motion = s.motion := by
  unfold State.notice; repeat' split
  all_goals rfl
@[simp] theorem notice_drum (o : Owner) (s : State) : (s.notice o).drum = s.drum := by
  unfold State.notice; repeat' split
  all_goals rfl
@[simp] theorem notice_film (o : Owner) (s : State) : (s.notice o).film = s.film := by
  unfold State.notice; repeat' split
  all_goals rfl
@[simp] theorem notice_proof (o : Owner) (s : State) : (s.notice o).proof = s.proof := by
  unfold State.notice; repeat' split
  all_goals rfl
@[simp] theorem notice_pins (o : Owner) (s : State) : (s.notice o).pins = s.pins := by
  unfold State.notice; repeat' split
  all_goals rfl
@[simp] theorem notice_bus (o : Owner) (s : State) : (s.notice o).bus = s.bus := by
  unfold State.notice; repeat' split
  all_goals rfl
@[simp] theorem notice_freeCounter (o : Owner) (s : State) : (s.notice o).freeCounter = s.freeCounter := by
  unfold State.notice; repeat' split
  all_goals rfl
@[simp] theorem notice_pending (o : Owner) (s : State) : (s.notice o).pending = s.pending := by
  unfold State.notice; repeat' split
  all_goals rfl

/-! `noticeSince` changes notices alone. -/

@[simp] theorem noticeSince_mem (o : Owner) (s b : State) : (s.noticeSince o b).mem = s.mem := by
  unfold State.noticeSince; split <;> simp
@[simp] theorem noticeSince_desk (o : Owner) (s b : State) : (s.noticeSince o b).desk = s.desk := by
  unfold State.noticeSince; split <;> simp
@[simp] theorem noticeSince_scanner (o : Owner) (s b : State) : (s.noticeSince o b).scanner = s.scanner := by
  unfold State.noticeSince; split <;> simp
@[simp] theorem noticeSince_flight (o : Owner) (s b : State) : (s.noticeSince o b).flight = s.flight := by
  unfold State.noticeSince; split <;> simp
@[simp] theorem noticeSince_resultWrite (o : Owner) (s b : State) : (s.noticeSince o b).resultWrite = s.resultWrite := by
  unfold State.noticeSince; split <;> simp
@[simp] theorem noticeSince_composer (o : Owner) (s b : State) : (s.noticeSince o b).composer = s.composer := by
  unfold State.noticeSince; split <;> simp
@[simp] theorem noticeSince_hyphenation (o : Owner) (s b : State) : (s.noticeSince o b).hyphenation = s.hyphenation := by
  unfold State.noticeSince; split <;> simp
@[simp] theorem noticeSince_fonts (o : Owner) (s b : State) : (s.noticeSince o b).fonts = s.fonts := by
  unfold State.noticeSince; split <;> simp
@[simp] theorem noticeSince_store (o : Owner) (s b : State) : (s.noticeSince o b).store = s.store := by
  unfold State.noticeSince; split <;> simp
@[simp] theorem noticeSince_exposure (o : Owner) (s b : State) : (s.noticeSince o b).exposure = s.exposure := by
  unfold State.noticeSince; split <;> simp
@[simp] theorem noticeSince_motion (o : Owner) (s b : State) : (s.noticeSince o b).motion = s.motion := by
  unfold State.noticeSince; split <;> simp
@[simp] theorem noticeSince_drum (o : Owner) (s b : State) : (s.noticeSince o b).drum = s.drum := by
  unfold State.noticeSince; split <;> simp
@[simp] theorem noticeSince_film (o : Owner) (s b : State) : (s.noticeSince o b).film = s.film := by
  unfold State.noticeSince; split <;> simp
@[simp] theorem noticeSince_proof (o : Owner) (s b : State) : (s.noticeSince o b).proof = s.proof := by
  unfold State.noticeSince; split <;> simp
@[simp] theorem noticeSince_pins (o : Owner) (s b : State) : (s.noticeSince o b).pins = s.pins := by
  unfold State.noticeSince; split <;> simp
@[simp] theorem noticeSince_bus (o : Owner) (s b : State) : (s.noticeSince o b).bus = s.bus := by
  unfold State.noticeSince; split <;> simp
@[simp] theorem noticeSince_freeCounter (o : Owner) (s b : State) : (s.noticeSince o b).freeCounter = s.freeCounter := by
  unfold State.noticeSince; split <;> simp
@[simp] theorem noticeSince_pending (o : Owner) (s b : State) : (s.noticeSince o b).pending = s.pending := by
  unfold State.noticeSince; split <;> simp

/-! `modEntry` changes flight alone. -/

@[simp] theorem modEntry_mem (i : Fin 8) (f : Entry → Entry) (s : State) : (s.modEntry i f).mem = s.mem := rfl
@[simp] theorem modEntry_desk (i : Fin 8) (f : Entry → Entry) (s : State) : (s.modEntry i f).desk = s.desk := rfl
@[simp] theorem modEntry_scanner (i : Fin 8) (f : Entry → Entry) (s : State) : (s.modEntry i f).scanner = s.scanner := rfl
@[simp] theorem modEntry_resultWrite (i : Fin 8) (f : Entry → Entry) (s : State) : (s.modEntry i f).resultWrite = s.resultWrite := rfl
@[simp] theorem modEntry_composer (i : Fin 8) (f : Entry → Entry) (s : State) : (s.modEntry i f).composer = s.composer := rfl
@[simp] theorem modEntry_hyphenation (i : Fin 8) (f : Entry → Entry) (s : State) : (s.modEntry i f).hyphenation = s.hyphenation := rfl
@[simp] theorem modEntry_fonts (i : Fin 8) (f : Entry → Entry) (s : State) : (s.modEntry i f).fonts = s.fonts := rfl
@[simp] theorem modEntry_store (i : Fin 8) (f : Entry → Entry) (s : State) : (s.modEntry i f).store = s.store := rfl
@[simp] theorem modEntry_exposure (i : Fin 8) (f : Entry → Entry) (s : State) : (s.modEntry i f).exposure = s.exposure := rfl
@[simp] theorem modEntry_motion (i : Fin 8) (f : Entry → Entry) (s : State) : (s.modEntry i f).motion = s.motion := rfl
@[simp] theorem modEntry_drum (i : Fin 8) (f : Entry → Entry) (s : State) : (s.modEntry i f).drum = s.drum := rfl
@[simp] theorem modEntry_film (i : Fin 8) (f : Entry → Entry) (s : State) : (s.modEntry i f).film = s.film := rfl
@[simp] theorem modEntry_proof (i : Fin 8) (f : Entry → Entry) (s : State) : (s.modEntry i f).proof = s.proof := rfl
@[simp] theorem modEntry_notices (i : Fin 8) (f : Entry → Entry) (s : State) : (s.modEntry i f).notices = s.notices := rfl
@[simp] theorem modEntry_pins (i : Fin 8) (f : Entry → Entry) (s : State) : (s.modEntry i f).pins = s.pins := rfl
@[simp] theorem modEntry_bus (i : Fin 8) (f : Entry → Entry) (s : State) : (s.modEntry i f).bus = s.bus := rfl
@[simp] theorem modEntry_freeCounter (i : Fin 8) (f : Entry → Entry) (s : State) : (s.modEntry i f).freeCounter = s.freeCounter := rfl
@[simp] theorem modEntry_pending (i : Fin 8) (f : Entry → Entry) (s : State) : (s.modEntry i f).pending = s.pending := rfl

/-! `report` changes flight alone. -/

@[simp] theorem report_mem (i : Fin 8) (n : Nat) (c : Half) (s : State) : (s.report i n c).mem = s.mem := rfl
@[simp] theorem report_desk (i : Fin 8) (n : Nat) (c : Half) (s : State) : (s.report i n c).desk = s.desk := rfl
@[simp] theorem report_scanner (i : Fin 8) (n : Nat) (c : Half) (s : State) : (s.report i n c).scanner = s.scanner := rfl
@[simp] theorem report_resultWrite (i : Fin 8) (n : Nat) (c : Half) (s : State) : (s.report i n c).resultWrite = s.resultWrite := rfl
@[simp] theorem report_composer (i : Fin 8) (n : Nat) (c : Half) (s : State) : (s.report i n c).composer = s.composer := rfl
@[simp] theorem report_hyphenation (i : Fin 8) (n : Nat) (c : Half) (s : State) : (s.report i n c).hyphenation = s.hyphenation := rfl
@[simp] theorem report_fonts (i : Fin 8) (n : Nat) (c : Half) (s : State) : (s.report i n c).fonts = s.fonts := rfl
@[simp] theorem report_store (i : Fin 8) (n : Nat) (c : Half) (s : State) : (s.report i n c).store = s.store := rfl
@[simp] theorem report_exposure (i : Fin 8) (n : Nat) (c : Half) (s : State) : (s.report i n c).exposure = s.exposure := rfl
@[simp] theorem report_motion (i : Fin 8) (n : Nat) (c : Half) (s : State) : (s.report i n c).motion = s.motion := rfl
@[simp] theorem report_drum (i : Fin 8) (n : Nat) (c : Half) (s : State) : (s.report i n c).drum = s.drum := rfl
@[simp] theorem report_film (i : Fin 8) (n : Nat) (c : Half) (s : State) : (s.report i n c).film = s.film := rfl
@[simp] theorem report_proof (i : Fin 8) (n : Nat) (c : Half) (s : State) : (s.report i n c).proof = s.proof := rfl
@[simp] theorem report_notices (i : Fin 8) (n : Nat) (c : Half) (s : State) : (s.report i n c).notices = s.notices := rfl
@[simp] theorem report_pins (i : Fin 8) (n : Nat) (c : Half) (s : State) : (s.report i n c).pins = s.pins := rfl
@[simp] theorem report_bus (i : Fin 8) (n : Nat) (c : Half) (s : State) : (s.report i n c).bus = s.bus := rfl
@[simp] theorem report_freeCounter (i : Fin 8) (n : Nat) (c : Half) (s : State) : (s.report i n c).freeCounter = s.freeCounter := rfl
@[simp] theorem report_pending (i : Fin 8) (n : Nat) (c : Half) (s : State) : (s.report i n c).pending = s.pending := rfl

/-! `setPhase` changes composer alone. -/

@[simp] theorem setPhase_mem (p : Phase) (s : State) : (s.setPhase p).mem = s.mem := rfl
@[simp] theorem setPhase_desk (p : Phase) (s : State) : (s.setPhase p).desk = s.desk := rfl
@[simp] theorem setPhase_scanner (p : Phase) (s : State) : (s.setPhase p).scanner = s.scanner := rfl
@[simp] theorem setPhase_flight (p : Phase) (s : State) : (s.setPhase p).flight = s.flight := rfl
@[simp] theorem setPhase_resultWrite (p : Phase) (s : State) : (s.setPhase p).resultWrite = s.resultWrite := rfl
@[simp] theorem setPhase_hyphenation (p : Phase) (s : State) : (s.setPhase p).hyphenation = s.hyphenation := rfl
@[simp] theorem setPhase_fonts (p : Phase) (s : State) : (s.setPhase p).fonts = s.fonts := rfl
@[simp] theorem setPhase_store (p : Phase) (s : State) : (s.setPhase p).store = s.store := rfl
@[simp] theorem setPhase_exposure (p : Phase) (s : State) : (s.setPhase p).exposure = s.exposure := rfl
@[simp] theorem setPhase_motion (p : Phase) (s : State) : (s.setPhase p).motion = s.motion := rfl
@[simp] theorem setPhase_drum (p : Phase) (s : State) : (s.setPhase p).drum = s.drum := rfl
@[simp] theorem setPhase_film (p : Phase) (s : State) : (s.setPhase p).film = s.film := rfl
@[simp] theorem setPhase_proof (p : Phase) (s : State) : (s.setPhase p).proof = s.proof := rfl
@[simp] theorem setPhase_notices (p : Phase) (s : State) : (s.setPhase p).notices = s.notices := rfl
@[simp] theorem setPhase_pins (p : Phase) (s : State) : (s.setPhase p).pins = s.pins := rfl
@[simp] theorem setPhase_bus (p : Phase) (s : State) : (s.setPhase p).bus = s.bus := rfl
@[simp] theorem setPhase_freeCounter (p : Phase) (s : State) : (s.setPhase p).freeCounter = s.freeCounter := rfl
@[simp] theorem setPhase_pending (p : Phase) (s : State) : (s.setPhase p).pending = s.pending := rfl

/-! `setEs` changes exposure alone. -/

@[simp] theorem setEs_mem (p : EsPhase) (s : State) : (s.setEs p).mem = s.mem := rfl
@[simp] theorem setEs_desk (p : EsPhase) (s : State) : (s.setEs p).desk = s.desk := rfl
@[simp] theorem setEs_scanner (p : EsPhase) (s : State) : (s.setEs p).scanner = s.scanner := rfl
@[simp] theorem setEs_flight (p : EsPhase) (s : State) : (s.setEs p).flight = s.flight := rfl
@[simp] theorem setEs_resultWrite (p : EsPhase) (s : State) : (s.setEs p).resultWrite = s.resultWrite := rfl
@[simp] theorem setEs_composer (p : EsPhase) (s : State) : (s.setEs p).composer = s.composer := rfl
@[simp] theorem setEs_hyphenation (p : EsPhase) (s : State) : (s.setEs p).hyphenation = s.hyphenation := rfl
@[simp] theorem setEs_fonts (p : EsPhase) (s : State) : (s.setEs p).fonts = s.fonts := rfl
@[simp] theorem setEs_store (p : EsPhase) (s : State) : (s.setEs p).store = s.store := rfl
@[simp] theorem setEs_motion (p : EsPhase) (s : State) : (s.setEs p).motion = s.motion := rfl
@[simp] theorem setEs_drum (p : EsPhase) (s : State) : (s.setEs p).drum = s.drum := rfl
@[simp] theorem setEs_film (p : EsPhase) (s : State) : (s.setEs p).film = s.film := rfl
@[simp] theorem setEs_proof (p : EsPhase) (s : State) : (s.setEs p).proof = s.proof := rfl
@[simp] theorem setEs_notices (p : EsPhase) (s : State) : (s.setEs p).notices = s.notices := rfl
@[simp] theorem setEs_pins (p : EsPhase) (s : State) : (s.setEs p).pins = s.pins := rfl
@[simp] theorem setEs_bus (p : EsPhase) (s : State) : (s.setEs p).bus = s.bus := rfl
@[simp] theorem setEs_freeCounter (p : EsPhase) (s : State) : (s.setEs p).freeCounter = s.freeCounter := rfl
@[simp] theorem setEs_pending (p : EsPhase) (s : State) : (s.setEs p).pending = s.pending := rfl

/-! `pushCode` changes composer alone. -/

@[simp] theorem pushCode_mem (c : LineCode) (s : State) : (s.pushCode c).mem = s.mem := rfl
@[simp] theorem pushCode_desk (c : LineCode) (s : State) : (s.pushCode c).desk = s.desk := rfl
@[simp] theorem pushCode_scanner (c : LineCode) (s : State) : (s.pushCode c).scanner = s.scanner := rfl
@[simp] theorem pushCode_flight (c : LineCode) (s : State) : (s.pushCode c).flight = s.flight := rfl
@[simp] theorem pushCode_resultWrite (c : LineCode) (s : State) : (s.pushCode c).resultWrite = s.resultWrite := rfl
@[simp] theorem pushCode_hyphenation (c : LineCode) (s : State) : (s.pushCode c).hyphenation = s.hyphenation := rfl
@[simp] theorem pushCode_fonts (c : LineCode) (s : State) : (s.pushCode c).fonts = s.fonts := rfl
@[simp] theorem pushCode_store (c : LineCode) (s : State) : (s.pushCode c).store = s.store := rfl
@[simp] theorem pushCode_exposure (c : LineCode) (s : State) : (s.pushCode c).exposure = s.exposure := rfl
@[simp] theorem pushCode_motion (c : LineCode) (s : State) : (s.pushCode c).motion = s.motion := rfl
@[simp] theorem pushCode_drum (c : LineCode) (s : State) : (s.pushCode c).drum = s.drum := rfl
@[simp] theorem pushCode_film (c : LineCode) (s : State) : (s.pushCode c).film = s.film := rfl
@[simp] theorem pushCode_proof (c : LineCode) (s : State) : (s.pushCode c).proof = s.proof := rfl
@[simp] theorem pushCode_notices (c : LineCode) (s : State) : (s.pushCode c).notices = s.notices := rfl
@[simp] theorem pushCode_pins (c : LineCode) (s : State) : (s.pushCode c).pins = s.pins := rfl
@[simp] theorem pushCode_bus (c : LineCode) (s : State) : (s.pushCode c).bus = s.bus := rfl
@[simp] theorem pushCode_freeCounter (c : LineCode) (s : State) : (s.pushCode c).freeCounter = s.freeCounter := rfl
@[simp] theorem pushCode_pending (c : LineCode) (s : State) : (s.pushCode c).pending = s.pending := rfl

/-! `discardLine` changes composer, store alone. -/

@[simp] theorem discardLine_mem (s : State) : s.discardLine.mem = s.mem := rfl
@[simp] theorem discardLine_desk (s : State) : s.discardLine.desk = s.desk := rfl
@[simp] theorem discardLine_scanner (s : State) : s.discardLine.scanner = s.scanner := rfl
@[simp] theorem discardLine_flight (s : State) : s.discardLine.flight = s.flight := rfl
@[simp] theorem discardLine_resultWrite (s : State) : s.discardLine.resultWrite = s.resultWrite := rfl
@[simp] theorem discardLine_hyphenation (s : State) : s.discardLine.hyphenation = s.hyphenation := rfl
@[simp] theorem discardLine_fonts (s : State) : s.discardLine.fonts = s.fonts := rfl
@[simp] theorem discardLine_exposure (s : State) : s.discardLine.exposure = s.exposure := rfl
@[simp] theorem discardLine_motion (s : State) : s.discardLine.motion = s.motion := rfl
@[simp] theorem discardLine_drum (s : State) : s.discardLine.drum = s.drum := rfl
@[simp] theorem discardLine_film (s : State) : s.discardLine.film = s.film := rfl
@[simp] theorem discardLine_proof (s : State) : s.discardLine.proof = s.proof := rfl
@[simp] theorem discardLine_notices (s : State) : s.discardLine.notices = s.notices := rfl
@[simp] theorem discardLine_pins (s : State) : s.discardLine.pins = s.pins := rfl
@[simp] theorem discardLine_bus (s : State) : s.discardLine.bus = s.bus := rfl
@[simp] theorem discardLine_freeCounter (s : State) : s.discardLine.freeCounter = s.freeCounter := rfl
@[simp] theorem discardLine_pending (s : State) : s.discardLine.pending = s.pending := rfl

/-! `append` changes store, flight alone. -/

@[simp] theorem append_mem (i : Fin 8) (rs : List Record) (s : State) : (s.append i rs).mem = s.mem := by
  simp only [State.append]; split <;> rfl
@[simp] theorem append_desk (i : Fin 8) (rs : List Record) (s : State) : (s.append i rs).desk = s.desk := by
  simp only [State.append]; split <;> rfl
@[simp] theorem append_scanner (i : Fin 8) (rs : List Record) (s : State) : (s.append i rs).scanner = s.scanner := by
  simp only [State.append]; split <;> rfl
@[simp] theorem append_resultWrite (i : Fin 8) (rs : List Record) (s : State) : (s.append i rs).resultWrite = s.resultWrite := by
  simp only [State.append]; split <;> rfl
@[simp] theorem append_composer (i : Fin 8) (rs : List Record) (s : State) : (s.append i rs).composer = s.composer := by
  simp only [State.append]; split <;> rfl
@[simp] theorem append_hyphenation (i : Fin 8) (rs : List Record) (s : State) : (s.append i rs).hyphenation = s.hyphenation := by
  simp only [State.append]; split <;> rfl
@[simp] theorem append_fonts (i : Fin 8) (rs : List Record) (s : State) : (s.append i rs).fonts = s.fonts := by
  simp only [State.append]; split <;> rfl
@[simp] theorem append_exposure (i : Fin 8) (rs : List Record) (s : State) : (s.append i rs).exposure = s.exposure := by
  simp only [State.append]; split <;> rfl
@[simp] theorem append_motion (i : Fin 8) (rs : List Record) (s : State) : (s.append i rs).motion = s.motion := by
  simp only [State.append]; split <;> rfl
@[simp] theorem append_drum (i : Fin 8) (rs : List Record) (s : State) : (s.append i rs).drum = s.drum := by
  simp only [State.append]; split <;> rfl
@[simp] theorem append_film (i : Fin 8) (rs : List Record) (s : State) : (s.append i rs).film = s.film := by
  simp only [State.append]; split <;> rfl
@[simp] theorem append_proof (i : Fin 8) (rs : List Record) (s : State) : (s.append i rs).proof = s.proof := by
  simp only [State.append]; split <;> rfl
@[simp] theorem append_notices (i : Fin 8) (rs : List Record) (s : State) : (s.append i rs).notices = s.notices := by
  simp only [State.append]; split <;> rfl
@[simp] theorem append_pins (i : Fin 8) (rs : List Record) (s : State) : (s.append i rs).pins = s.pins := by
  simp only [State.append]; split <;> rfl
@[simp] theorem append_bus (i : Fin 8) (rs : List Record) (s : State) : (s.append i rs).bus = s.bus := by
  simp only [State.append]; split <;> rfl
@[simp] theorem append_freeCounter (i : Fin 8) (rs : List Record) (s : State) : (s.append i rs).freeCounter = s.freeCounter := by
  simp only [State.append]; split <;> rfl
@[simp] theorem append_pending (i : Fin 8) (rs : List Record) (s : State) : (s.append i rs).pending = s.pending := by
  simp only [State.append]; split <;> rfl

/-! `withdraw` changes store, composer alone. -/

@[simp] theorem withdraw_mem (i : Fin 8) (s : State) : (s.withdraw i).mem = s.mem := by
  simp only [State.withdraw]; split <;> rfl
@[simp] theorem withdraw_desk (i : Fin 8) (s : State) : (s.withdraw i).desk = s.desk := by
  simp only [State.withdraw]; split <;> rfl
@[simp] theorem withdraw_scanner (i : Fin 8) (s : State) : (s.withdraw i).scanner = s.scanner := by
  simp only [State.withdraw]; split <;> rfl
@[simp] theorem withdraw_flight (i : Fin 8) (s : State) : (s.withdraw i).flight = s.flight := by
  simp only [State.withdraw]; split <;> rfl
@[simp] theorem withdraw_resultWrite (i : Fin 8) (s : State) : (s.withdraw i).resultWrite = s.resultWrite := by
  simp only [State.withdraw]; split <;> rfl
@[simp] theorem withdraw_hyphenation (i : Fin 8) (s : State) : (s.withdraw i).hyphenation = s.hyphenation := by
  simp only [State.withdraw]; split <;> rfl
@[simp] theorem withdraw_fonts (i : Fin 8) (s : State) : (s.withdraw i).fonts = s.fonts := by
  simp only [State.withdraw]; split <;> rfl
@[simp] theorem withdraw_exposure (i : Fin 8) (s : State) : (s.withdraw i).exposure = s.exposure := by
  simp only [State.withdraw]; split <;> rfl
@[simp] theorem withdraw_motion (i : Fin 8) (s : State) : (s.withdraw i).motion = s.motion := by
  simp only [State.withdraw]; split <;> rfl
@[simp] theorem withdraw_drum (i : Fin 8) (s : State) : (s.withdraw i).drum = s.drum := by
  simp only [State.withdraw]; split <;> rfl
@[simp] theorem withdraw_film (i : Fin 8) (s : State) : (s.withdraw i).film = s.film := by
  simp only [State.withdraw]; split <;> rfl
@[simp] theorem withdraw_proof (i : Fin 8) (s : State) : (s.withdraw i).proof = s.proof := by
  simp only [State.withdraw]; split <;> rfl
@[simp] theorem withdraw_notices (i : Fin 8) (s : State) : (s.withdraw i).notices = s.notices := by
  simp only [State.withdraw]; split <;> rfl
@[simp] theorem withdraw_pins (i : Fin 8) (s : State) : (s.withdraw i).pins = s.pins := by
  simp only [State.withdraw]; split <;> rfl
@[simp] theorem withdraw_bus (i : Fin 8) (s : State) : (s.withdraw i).bus = s.bus := by
  simp only [State.withdraw]; split <;> rfl
@[simp] theorem withdraw_freeCounter (i : Fin 8) (s : State) : (s.withdraw i).freeCounter = s.freeCounter := by
  simp only [State.withdraw]; split <;> rfl
@[simp] theorem withdraw_pending (i : Fin 8) (s : State) : (s.withdraw i).pending = s.pending := by
  simp only [State.withdraw]; split <;> rfl

/-! `reportFilm` changes flight alone. -/

@[simp] theorem reportFilm_mem (c : Half) (s : State) : (s.reportFilm c).mem = s.mem := by
  unfold State.reportFilm; repeat' split
  all_goals rfl
@[simp] theorem reportFilm_desk (c : Half) (s : State) : (s.reportFilm c).desk = s.desk := by
  unfold State.reportFilm; repeat' split
  all_goals rfl
@[simp] theorem reportFilm_scanner (c : Half) (s : State) : (s.reportFilm c).scanner = s.scanner := by
  unfold State.reportFilm; repeat' split
  all_goals rfl
@[simp] theorem reportFilm_resultWrite (c : Half) (s : State) : (s.reportFilm c).resultWrite = s.resultWrite := by
  unfold State.reportFilm; repeat' split
  all_goals rfl
@[simp] theorem reportFilm_composer (c : Half) (s : State) : (s.reportFilm c).composer = s.composer := by
  unfold State.reportFilm; repeat' split
  all_goals rfl
@[simp] theorem reportFilm_hyphenation (c : Half) (s : State) : (s.reportFilm c).hyphenation = s.hyphenation := by
  unfold State.reportFilm; repeat' split
  all_goals rfl
@[simp] theorem reportFilm_fonts (c : Half) (s : State) : (s.reportFilm c).fonts = s.fonts := by
  unfold State.reportFilm; repeat' split
  all_goals rfl
@[simp] theorem reportFilm_store (c : Half) (s : State) : (s.reportFilm c).store = s.store := by
  unfold State.reportFilm; repeat' split
  all_goals rfl
@[simp] theorem reportFilm_exposure (c : Half) (s : State) : (s.reportFilm c).exposure = s.exposure := by
  unfold State.reportFilm; repeat' split
  all_goals rfl
@[simp] theorem reportFilm_motion (c : Half) (s : State) : (s.reportFilm c).motion = s.motion := by
  unfold State.reportFilm; repeat' split
  all_goals rfl
@[simp] theorem reportFilm_drum (c : Half) (s : State) : (s.reportFilm c).drum = s.drum := by
  unfold State.reportFilm; repeat' split
  all_goals rfl
@[simp] theorem reportFilm_film (c : Half) (s : State) : (s.reportFilm c).film = s.film := by
  unfold State.reportFilm; repeat' split
  all_goals rfl
@[simp] theorem reportFilm_proof (c : Half) (s : State) : (s.reportFilm c).proof = s.proof := by
  unfold State.reportFilm; repeat' split
  all_goals rfl
@[simp] theorem reportFilm_notices (c : Half) (s : State) : (s.reportFilm c).notices = s.notices := by
  unfold State.reportFilm; repeat' split
  all_goals rfl
@[simp] theorem reportFilm_pins (c : Half) (s : State) : (s.reportFilm c).pins = s.pins := by
  unfold State.reportFilm; repeat' split
  all_goals rfl
@[simp] theorem reportFilm_bus (c : Half) (s : State) : (s.reportFilm c).bus = s.bus := by
  unfold State.reportFilm; repeat' split
  all_goals rfl
@[simp] theorem reportFilm_freeCounter (c : Half) (s : State) : (s.reportFilm c).freeCounter = s.freeCounter := by
  unfold State.reportFilm; repeat' split
  all_goals rfl
@[simp] theorem reportFilm_pending (c : Half) (s : State) : (s.reportFilm c).pending = s.pending := by
  unfold State.reportFilm; repeat' split
  all_goals rfl

/-! `reportDepth` changes flight alone. -/

@[simp] theorem reportDepth_mem (n : Nat) (s : State) : (s.reportDepth n).mem = s.mem := by
  unfold State.reportDepth; repeat' split
  all_goals rfl
@[simp] theorem reportDepth_desk (n : Nat) (s : State) : (s.reportDepth n).desk = s.desk := by
  unfold State.reportDepth; repeat' split
  all_goals rfl
@[simp] theorem reportDepth_scanner (n : Nat) (s : State) : (s.reportDepth n).scanner = s.scanner := by
  unfold State.reportDepth; repeat' split
  all_goals rfl
@[simp] theorem reportDepth_resultWrite (n : Nat) (s : State) : (s.reportDepth n).resultWrite = s.resultWrite := by
  unfold State.reportDepth; repeat' split
  all_goals rfl
@[simp] theorem reportDepth_composer (n : Nat) (s : State) : (s.reportDepth n).composer = s.composer := by
  unfold State.reportDepth; repeat' split
  all_goals rfl
@[simp] theorem reportDepth_hyphenation (n : Nat) (s : State) : (s.reportDepth n).hyphenation = s.hyphenation := by
  unfold State.reportDepth; repeat' split
  all_goals rfl
@[simp] theorem reportDepth_fonts (n : Nat) (s : State) : (s.reportDepth n).fonts = s.fonts := by
  unfold State.reportDepth; repeat' split
  all_goals rfl
@[simp] theorem reportDepth_store (n : Nat) (s : State) : (s.reportDepth n).store = s.store := by
  unfold State.reportDepth; repeat' split
  all_goals rfl
@[simp] theorem reportDepth_exposure (n : Nat) (s : State) : (s.reportDepth n).exposure = s.exposure := by
  unfold State.reportDepth; repeat' split
  all_goals rfl
@[simp] theorem reportDepth_motion (n : Nat) (s : State) : (s.reportDepth n).motion = s.motion := by
  unfold State.reportDepth; repeat' split
  all_goals rfl
@[simp] theorem reportDepth_drum (n : Nat) (s : State) : (s.reportDepth n).drum = s.drum := by
  unfold State.reportDepth; repeat' split
  all_goals rfl
@[simp] theorem reportDepth_film (n : Nat) (s : State) : (s.reportDepth n).film = s.film := by
  unfold State.reportDepth; repeat' split
  all_goals rfl
@[simp] theorem reportDepth_proof (n : Nat) (s : State) : (s.reportDepth n).proof = s.proof := by
  unfold State.reportDepth; repeat' split
  all_goals rfl
@[simp] theorem reportDepth_notices (n : Nat) (s : State) : (s.reportDepth n).notices = s.notices := by
  unfold State.reportDepth; repeat' split
  all_goals rfl
@[simp] theorem reportDepth_pins (n : Nat) (s : State) : (s.reportDepth n).pins = s.pins := by
  unfold State.reportDepth; repeat' split
  all_goals rfl
@[simp] theorem reportDepth_bus (n : Nat) (s : State) : (s.reportDepth n).bus = s.bus := by
  unfold State.reportDepth; repeat' split
  all_goals rfl
@[simp] theorem reportDepth_freeCounter (n : Nat) (s : State) : (s.reportDepth n).freeCounter = s.freeCounter := by
  unfold State.reportDepth; repeat' split
  all_goals rfl
@[simp] theorem reportDepth_pending (n : Nat) (s : State) : (s.reportDepth n).pending = s.pending := by
  unfold State.reportDepth; repeat' split
  all_goals rfl

/-! `reportGalley` changes flight alone. -/

@[simp] theorem reportGalley_mem (n : Nat) (s : State) : (s.reportGalley n).mem = s.mem := by
  unfold State.reportGalley; repeat' split
  all_goals rfl
@[simp] theorem reportGalley_desk (n : Nat) (s : State) : (s.reportGalley n).desk = s.desk := by
  unfold State.reportGalley; repeat' split
  all_goals rfl
@[simp] theorem reportGalley_scanner (n : Nat) (s : State) : (s.reportGalley n).scanner = s.scanner := by
  unfold State.reportGalley; repeat' split
  all_goals rfl
@[simp] theorem reportGalley_resultWrite (n : Nat) (s : State) : (s.reportGalley n).resultWrite = s.resultWrite := by
  unfold State.reportGalley; repeat' split
  all_goals rfl
@[simp] theorem reportGalley_composer (n : Nat) (s : State) : (s.reportGalley n).composer = s.composer := by
  unfold State.reportGalley; repeat' split
  all_goals rfl
@[simp] theorem reportGalley_hyphenation (n : Nat) (s : State) : (s.reportGalley n).hyphenation = s.hyphenation := by
  unfold State.reportGalley; repeat' split
  all_goals rfl
@[simp] theorem reportGalley_fonts (n : Nat) (s : State) : (s.reportGalley n).fonts = s.fonts := by
  unfold State.reportGalley; repeat' split
  all_goals rfl
@[simp] theorem reportGalley_store (n : Nat) (s : State) : (s.reportGalley n).store = s.store := by
  unfold State.reportGalley; repeat' split
  all_goals rfl
@[simp] theorem reportGalley_exposure (n : Nat) (s : State) : (s.reportGalley n).exposure = s.exposure := by
  unfold State.reportGalley; repeat' split
  all_goals rfl
@[simp] theorem reportGalley_motion (n : Nat) (s : State) : (s.reportGalley n).motion = s.motion := by
  unfold State.reportGalley; repeat' split
  all_goals rfl
@[simp] theorem reportGalley_drum (n : Nat) (s : State) : (s.reportGalley n).drum = s.drum := by
  unfold State.reportGalley; repeat' split
  all_goals rfl
@[simp] theorem reportGalley_film (n : Nat) (s : State) : (s.reportGalley n).film = s.film := by
  unfold State.reportGalley; repeat' split
  all_goals rfl
@[simp] theorem reportGalley_proof (n : Nat) (s : State) : (s.reportGalley n).proof = s.proof := by
  unfold State.reportGalley; repeat' split
  all_goals rfl
@[simp] theorem reportGalley_notices (n : Nat) (s : State) : (s.reportGalley n).notices = s.notices := by
  unfold State.reportGalley; repeat' split
  all_goals rfl
@[simp] theorem reportGalley_pins (n : Nat) (s : State) : (s.reportGalley n).pins = s.pins := by
  unfold State.reportGalley; repeat' split
  all_goals rfl
@[simp] theorem reportGalley_bus (n : Nat) (s : State) : (s.reportGalley n).bus = s.bus := by
  unfold State.reportGalley; repeat' split
  all_goals rfl
@[simp] theorem reportGalley_freeCounter (n : Nat) (s : State) : (s.reportGalley n).freeCounter = s.freeCounter := by
  unfold State.reportGalley; repeat' split
  all_goals rfl
@[simp] theorem reportGalley_pending (n : Nat) (s : State) : (s.reportGalley n).pending = s.pending := by
  unfold State.reportGalley; repeat' split
  all_goals rfl

/-! `reportProofLost` changes flight alone. -/

@[simp] theorem reportProofLost_mem (s : State) : s.reportProofLost.mem = s.mem := by
  unfold State.reportProofLost; repeat' split
  all_goals rfl
@[simp] theorem reportProofLost_desk (s : State) : s.reportProofLost.desk = s.desk := by
  unfold State.reportProofLost; repeat' split
  all_goals rfl
@[simp] theorem reportProofLost_scanner (s : State) : s.reportProofLost.scanner = s.scanner := by
  unfold State.reportProofLost; repeat' split
  all_goals rfl
@[simp] theorem reportProofLost_resultWrite (s : State) : s.reportProofLost.resultWrite = s.resultWrite := by
  unfold State.reportProofLost; repeat' split
  all_goals rfl
@[simp] theorem reportProofLost_composer (s : State) : s.reportProofLost.composer = s.composer := by
  unfold State.reportProofLost; repeat' split
  all_goals rfl
@[simp] theorem reportProofLost_hyphenation (s : State) : s.reportProofLost.hyphenation = s.hyphenation := by
  unfold State.reportProofLost; repeat' split
  all_goals rfl
@[simp] theorem reportProofLost_fonts (s : State) : s.reportProofLost.fonts = s.fonts := by
  unfold State.reportProofLost; repeat' split
  all_goals rfl
@[simp] theorem reportProofLost_store (s : State) : s.reportProofLost.store = s.store := by
  unfold State.reportProofLost; repeat' split
  all_goals rfl
@[simp] theorem reportProofLost_exposure (s : State) : s.reportProofLost.exposure = s.exposure := by
  unfold State.reportProofLost; repeat' split
  all_goals rfl
@[simp] theorem reportProofLost_motion (s : State) : s.reportProofLost.motion = s.motion := by
  unfold State.reportProofLost; repeat' split
  all_goals rfl
@[simp] theorem reportProofLost_drum (s : State) : s.reportProofLost.drum = s.drum := by
  unfold State.reportProofLost; repeat' split
  all_goals rfl
@[simp] theorem reportProofLost_film (s : State) : s.reportProofLost.film = s.film := by
  unfold State.reportProofLost; repeat' split
  all_goals rfl
@[simp] theorem reportProofLost_proof (s : State) : s.reportProofLost.proof = s.proof := by
  unfold State.reportProofLost; repeat' split
  all_goals rfl
@[simp] theorem reportProofLost_notices (s : State) : s.reportProofLost.notices = s.notices := by
  unfold State.reportProofLost; repeat' split
  all_goals rfl
@[simp] theorem reportProofLost_pins (s : State) : s.reportProofLost.pins = s.pins := by
  unfold State.reportProofLost; repeat' split
  all_goals rfl
@[simp] theorem reportProofLost_bus (s : State) : s.reportProofLost.bus = s.bus := by
  unfold State.reportProofLost; repeat' split
  all_goals rfl
@[simp] theorem reportProofLost_freeCounter (s : State) : s.reportProofLost.freeCounter = s.freeCounter := by
  unfold State.reportProofLost; repeat' split
  all_goals rfl
@[simp] theorem reportProofLost_pending (s : State) : s.reportProofLost.pending = s.pending := by
  unfold State.reportProofLost; repeat' split
  all_goals rfl

/-! `startChannel` changes motion alone. -/

@[simp] theorem startChannel_mem (k : Channel) (b : Bool) (n : Nat) (s : State) : (s.startChannel k b n).mem = s.mem := rfl
@[simp] theorem startChannel_desk (k : Channel) (b : Bool) (n : Nat) (s : State) : (s.startChannel k b n).desk = s.desk := rfl
@[simp] theorem startChannel_scanner (k : Channel) (b : Bool) (n : Nat) (s : State) : (s.startChannel k b n).scanner = s.scanner := rfl
@[simp] theorem startChannel_flight (k : Channel) (b : Bool) (n : Nat) (s : State) : (s.startChannel k b n).flight = s.flight := rfl
@[simp] theorem startChannel_resultWrite (k : Channel) (b : Bool) (n : Nat) (s : State) : (s.startChannel k b n).resultWrite = s.resultWrite := rfl
@[simp] theorem startChannel_composer (k : Channel) (b : Bool) (n : Nat) (s : State) : (s.startChannel k b n).composer = s.composer := rfl
@[simp] theorem startChannel_hyphenation (k : Channel) (b : Bool) (n : Nat) (s : State) : (s.startChannel k b n).hyphenation = s.hyphenation := rfl
@[simp] theorem startChannel_fonts (k : Channel) (b : Bool) (n : Nat) (s : State) : (s.startChannel k b n).fonts = s.fonts := rfl
@[simp] theorem startChannel_store (k : Channel) (b : Bool) (n : Nat) (s : State) : (s.startChannel k b n).store = s.store := rfl
@[simp] theorem startChannel_exposure (k : Channel) (b : Bool) (n : Nat) (s : State) : (s.startChannel k b n).exposure = s.exposure := rfl
@[simp] theorem startChannel_drum (k : Channel) (b : Bool) (n : Nat) (s : State) : (s.startChannel k b n).drum = s.drum := rfl
@[simp] theorem startChannel_film (k : Channel) (b : Bool) (n : Nat) (s : State) : (s.startChannel k b n).film = s.film := rfl
@[simp] theorem startChannel_proof (k : Channel) (b : Bool) (n : Nat) (s : State) : (s.startChannel k b n).proof = s.proof := rfl
@[simp] theorem startChannel_notices (k : Channel) (b : Bool) (n : Nat) (s : State) : (s.startChannel k b n).notices = s.notices := rfl
@[simp] theorem startChannel_pins (k : Channel) (b : Bool) (n : Nat) (s : State) : (s.startChannel k b n).pins = s.pins := rfl
@[simp] theorem startChannel_bus (k : Channel) (b : Bool) (n : Nat) (s : State) : (s.startChannel k b n).bus = s.bus := rfl
@[simp] theorem startChannel_freeCounter (k : Channel) (b : Bool) (n : Nat) (s : State) : (s.startChannel k b n).freeCounter = s.freeCounter := rfl
@[simp] theorem startChannel_pending (k : Channel) (b : Bool) (n : Nat) (s : State) : (s.startChannel k b n).pending = s.pending := rfl

/-! `unselectTrack` changes exposure alone. -/

@[simp] theorem unselectTrack_mem (s : State) : s.unselectTrack.mem = s.mem := rfl
@[simp] theorem unselectTrack_desk (s : State) : s.unselectTrack.desk = s.desk := rfl
@[simp] theorem unselectTrack_scanner (s : State) : s.unselectTrack.scanner = s.scanner := rfl
@[simp] theorem unselectTrack_flight (s : State) : s.unselectTrack.flight = s.flight := rfl
@[simp] theorem unselectTrack_resultWrite (s : State) : s.unselectTrack.resultWrite = s.resultWrite := rfl
@[simp] theorem unselectTrack_composer (s : State) : s.unselectTrack.composer = s.composer := rfl
@[simp] theorem unselectTrack_hyphenation (s : State) : s.unselectTrack.hyphenation = s.hyphenation := rfl
@[simp] theorem unselectTrack_fonts (s : State) : s.unselectTrack.fonts = s.fonts := rfl
@[simp] theorem unselectTrack_store (s : State) : s.unselectTrack.store = s.store := rfl
@[simp] theorem unselectTrack_motion (s : State) : s.unselectTrack.motion = s.motion := rfl
@[simp] theorem unselectTrack_drum (s : State) : s.unselectTrack.drum = s.drum := rfl
@[simp] theorem unselectTrack_film (s : State) : s.unselectTrack.film = s.film := rfl
@[simp] theorem unselectTrack_proof (s : State) : s.unselectTrack.proof = s.proof := rfl
@[simp] theorem unselectTrack_notices (s : State) : s.unselectTrack.notices = s.notices := rfl
@[simp] theorem unselectTrack_pins (s : State) : s.unselectTrack.pins = s.pins := rfl
@[simp] theorem unselectTrack_bus (s : State) : s.unselectTrack.bus = s.bus := rfl
@[simp] theorem unselectTrack_freeCounter (s : State) : s.unselectTrack.freeCounter = s.freeCounter := rfl
@[simp] theorem unselectTrack_pending (s : State) : s.unselectTrack.pending = s.pending := rfl

/-! `cutShort` changes mem, freeCounter alone. -/

@[simp] theorem cutShort_desk (a : Addr) (bs : List Byte) (s : State) : (s.cutShort a bs).desk = s.desk := by
  simp [State.cutShort]
@[simp] theorem cutShort_scanner (a : Addr) (bs : List Byte) (s : State) : (s.cutShort a bs).scanner = s.scanner := by
  simp [State.cutShort]
@[simp] theorem cutShort_flight (a : Addr) (bs : List Byte) (s : State) : (s.cutShort a bs).flight = s.flight := by
  simp [State.cutShort]
@[simp] theorem cutShort_resultWrite (a : Addr) (bs : List Byte) (s : State) : (s.cutShort a bs).resultWrite = s.resultWrite := by
  simp [State.cutShort]
@[simp] theorem cutShort_composer (a : Addr) (bs : List Byte) (s : State) : (s.cutShort a bs).composer = s.composer := by
  simp [State.cutShort]
@[simp] theorem cutShort_hyphenation (a : Addr) (bs : List Byte) (s : State) : (s.cutShort a bs).hyphenation = s.hyphenation := by
  simp [State.cutShort]
@[simp] theorem cutShort_fonts (a : Addr) (bs : List Byte) (s : State) : (s.cutShort a bs).fonts = s.fonts := by
  simp [State.cutShort]
@[simp] theorem cutShort_store (a : Addr) (bs : List Byte) (s : State) : (s.cutShort a bs).store = s.store := by
  simp [State.cutShort]
@[simp] theorem cutShort_exposure (a : Addr) (bs : List Byte) (s : State) : (s.cutShort a bs).exposure = s.exposure := by
  simp [State.cutShort]
@[simp] theorem cutShort_motion (a : Addr) (bs : List Byte) (s : State) : (s.cutShort a bs).motion = s.motion := by
  simp [State.cutShort]
@[simp] theorem cutShort_drum (a : Addr) (bs : List Byte) (s : State) : (s.cutShort a bs).drum = s.drum := by
  simp [State.cutShort]
@[simp] theorem cutShort_film (a : Addr) (bs : List Byte) (s : State) : (s.cutShort a bs).film = s.film := by
  simp [State.cutShort]
@[simp] theorem cutShort_proof (a : Addr) (bs : List Byte) (s : State) : (s.cutShort a bs).proof = s.proof := by
  simp [State.cutShort]
@[simp] theorem cutShort_notices (a : Addr) (bs : List Byte) (s : State) : (s.cutShort a bs).notices = s.notices := by
  simp [State.cutShort]
@[simp] theorem cutShort_pins (a : Addr) (bs : List Byte) (s : State) : (s.cutShort a bs).pins = s.pins := by
  simp [State.cutShort]
@[simp] theorem cutShort_bus (a : Addr) (bs : List Byte) (s : State) : (s.cutShort a bs).bus = s.bus := by
  simp [State.cutShort]
@[simp] theorem cutShort_pending (a : Addr) (bs : List Byte) (s : State) : (s.cutShort a bs).pending = s.pending := by
  simp [State.cutShort]

/-! `stopNotice` changes mem, freeCounter alone. -/

@[simp] theorem stopNotice_desk (o : Owner) (s : State) : (s.stopNotice o).desk = s.desk := by
  simp only [State.stopNotice]; split <;> simp
@[simp] theorem stopNotice_scanner (o : Owner) (s : State) : (s.stopNotice o).scanner = s.scanner := by
  simp only [State.stopNotice]; split <;> simp
@[simp] theorem stopNotice_flight (o : Owner) (s : State) : (s.stopNotice o).flight = s.flight := by
  simp only [State.stopNotice]; split <;> simp
@[simp] theorem stopNotice_resultWrite (o : Owner) (s : State) : (s.stopNotice o).resultWrite = s.resultWrite := by
  simp only [State.stopNotice]; split <;> simp
@[simp] theorem stopNotice_composer (o : Owner) (s : State) : (s.stopNotice o).composer = s.composer := by
  simp only [State.stopNotice]; split <;> simp
@[simp] theorem stopNotice_hyphenation (o : Owner) (s : State) : (s.stopNotice o).hyphenation = s.hyphenation := by
  simp only [State.stopNotice]; split <;> simp
@[simp] theorem stopNotice_fonts (o : Owner) (s : State) : (s.stopNotice o).fonts = s.fonts := by
  simp only [State.stopNotice]; split <;> simp
@[simp] theorem stopNotice_store (o : Owner) (s : State) : (s.stopNotice o).store = s.store := by
  simp only [State.stopNotice]; split <;> simp
@[simp] theorem stopNotice_exposure (o : Owner) (s : State) : (s.stopNotice o).exposure = s.exposure := by
  simp only [State.stopNotice]; split <;> simp
@[simp] theorem stopNotice_motion (o : Owner) (s : State) : (s.stopNotice o).motion = s.motion := by
  simp only [State.stopNotice]; split <;> simp
@[simp] theorem stopNotice_drum (o : Owner) (s : State) : (s.stopNotice o).drum = s.drum := by
  simp only [State.stopNotice]; split <;> simp
@[simp] theorem stopNotice_film (o : Owner) (s : State) : (s.stopNotice o).film = s.film := by
  simp only [State.stopNotice]; split <;> simp
@[simp] theorem stopNotice_proof (o : Owner) (s : State) : (s.stopNotice o).proof = s.proof := by
  simp only [State.stopNotice]; split <;> simp
@[simp] theorem stopNotice_notices (o : Owner) (s : State) : (s.stopNotice o).notices = s.notices := by
  simp only [State.stopNotice]; split <;> simp
@[simp] theorem stopNotice_pins (o : Owner) (s : State) : (s.stopNotice o).pins = s.pins := by
  simp only [State.stopNotice]; split <;> simp
@[simp] theorem stopNotice_bus (o : Owner) (s : State) : (s.stopNotice o).bus = s.bus := by
  simp only [State.stopNotice]; split <;> simp
@[simp] theorem stopNotice_pending (o : Owner) (s : State) : (s.stopNotice o).pending = s.pending := by
  simp only [State.stopNotice]; split <;> simp

/-! `stopResult` changes mem, freeCounter alone. -/

@[simp] theorem stopResult_desk (s : State) : s.stopResult.desk = s.desk := by
  unfold State.stopResult; repeat' split
  all_goals simp
@[simp] theorem stopResult_scanner (s : State) : s.stopResult.scanner = s.scanner := by
  unfold State.stopResult; repeat' split
  all_goals simp
@[simp] theorem stopResult_flight (s : State) : s.stopResult.flight = s.flight := by
  unfold State.stopResult; repeat' split
  all_goals simp
@[simp] theorem stopResult_resultWrite (s : State) : s.stopResult.resultWrite = s.resultWrite := by
  unfold State.stopResult; repeat' split
  all_goals simp
@[simp] theorem stopResult_composer (s : State) : s.stopResult.composer = s.composer := by
  unfold State.stopResult; repeat' split
  all_goals simp
@[simp] theorem stopResult_hyphenation (s : State) : s.stopResult.hyphenation = s.hyphenation := by
  unfold State.stopResult; repeat' split
  all_goals simp
@[simp] theorem stopResult_fonts (s : State) : s.stopResult.fonts = s.fonts := by
  unfold State.stopResult; repeat' split
  all_goals simp
@[simp] theorem stopResult_store (s : State) : s.stopResult.store = s.store := by
  unfold State.stopResult; repeat' split
  all_goals simp
@[simp] theorem stopResult_exposure (s : State) : s.stopResult.exposure = s.exposure := by
  unfold State.stopResult; repeat' split
  all_goals simp
@[simp] theorem stopResult_motion (s : State) : s.stopResult.motion = s.motion := by
  unfold State.stopResult; repeat' split
  all_goals simp
@[simp] theorem stopResult_drum (s : State) : s.stopResult.drum = s.drum := by
  unfold State.stopResult; repeat' split
  all_goals simp
@[simp] theorem stopResult_film (s : State) : s.stopResult.film = s.film := by
  unfold State.stopResult; repeat' split
  all_goals simp
@[simp] theorem stopResult_proof (s : State) : s.stopResult.proof = s.proof := by
  unfold State.stopResult; repeat' split
  all_goals simp
@[simp] theorem stopResult_notices (s : State) : s.stopResult.notices = s.notices := by
  unfold State.stopResult; repeat' split
  all_goals simp
@[simp] theorem stopResult_pins (s : State) : s.stopResult.pins = s.pins := by
  unfold State.stopResult; repeat' split
  all_goals simp
@[simp] theorem stopResult_bus (s : State) : s.stopResult.bus = s.bus := by
  unfold State.stopResult; repeat' split
  all_goals simp
@[simp] theorem stopResult_pending (s : State) : s.stopResult.pending = s.pending := by
  unfold State.stopResult; repeat' split
  all_goals simp

/-! `stopWrites` changes mem, freeCounter alone. -/

@[simp] theorem stopWrites_desk (s : State) : s.stopWrites.desk = s.desk := by
  simp [State.stopWrites]
@[simp] theorem stopWrites_scanner (s : State) : s.stopWrites.scanner = s.scanner := by
  simp [State.stopWrites]
@[simp] theorem stopWrites_flight (s : State) : s.stopWrites.flight = s.flight := by
  simp [State.stopWrites]
@[simp] theorem stopWrites_resultWrite (s : State) : s.stopWrites.resultWrite = s.resultWrite := by
  simp [State.stopWrites]
@[simp] theorem stopWrites_composer (s : State) : s.stopWrites.composer = s.composer := by
  simp [State.stopWrites]
@[simp] theorem stopWrites_hyphenation (s : State) : s.stopWrites.hyphenation = s.hyphenation := by
  simp [State.stopWrites]
@[simp] theorem stopWrites_fonts (s : State) : s.stopWrites.fonts = s.fonts := by
  simp [State.stopWrites]
@[simp] theorem stopWrites_store (s : State) : s.stopWrites.store = s.store := by
  simp [State.stopWrites]
@[simp] theorem stopWrites_exposure (s : State) : s.stopWrites.exposure = s.exposure := by
  simp [State.stopWrites]
@[simp] theorem stopWrites_motion (s : State) : s.stopWrites.motion = s.motion := by
  simp [State.stopWrites]
@[simp] theorem stopWrites_drum (s : State) : s.stopWrites.drum = s.drum := by
  simp [State.stopWrites]
@[simp] theorem stopWrites_film (s : State) : s.stopWrites.film = s.film := by
  simp [State.stopWrites]
@[simp] theorem stopWrites_proof (s : State) : s.stopWrites.proof = s.proof := by
  simp [State.stopWrites]
@[simp] theorem stopWrites_notices (s : State) : s.stopWrites.notices = s.notices := by
  simp [State.stopWrites]
@[simp] theorem stopWrites_pins (s : State) : s.stopWrites.pins = s.pins := by
  simp [State.stopWrites]
@[simp] theorem stopWrites_bus (s : State) : s.stopWrites.bus = s.bus := by
  simp [State.stopWrites]
@[simp] theorem stopWrites_pending (s : State) : s.stopWrites.pending = s.pending := by
  simp [State.stopWrites]

/-! `stopMove` changes pins, freeCounter alone. -/

@[simp] theorem stopMove_mem (k : Channel) (s : State) : (s.stopMove k).mem = s.mem := by
  unfold State.stopMove; split <;> rfl
@[simp] theorem stopMove_desk (k : Channel) (s : State) : (s.stopMove k).desk = s.desk := by
  unfold State.stopMove; split <;> rfl
@[simp] theorem stopMove_scanner (k : Channel) (s : State) : (s.stopMove k).scanner = s.scanner := by
  unfold State.stopMove; split <;> rfl
@[simp] theorem stopMove_flight (k : Channel) (s : State) : (s.stopMove k).flight = s.flight := by
  unfold State.stopMove; split <;> rfl
@[simp] theorem stopMove_resultWrite (k : Channel) (s : State) : (s.stopMove k).resultWrite = s.resultWrite := by
  unfold State.stopMove; split <;> rfl
@[simp] theorem stopMove_composer (k : Channel) (s : State) : (s.stopMove k).composer = s.composer := by
  unfold State.stopMove; split <;> rfl
@[simp] theorem stopMove_hyphenation (k : Channel) (s : State) : (s.stopMove k).hyphenation = s.hyphenation := by
  unfold State.stopMove; split <;> rfl
@[simp] theorem stopMove_fonts (k : Channel) (s : State) : (s.stopMove k).fonts = s.fonts := by
  unfold State.stopMove; split <;> rfl
@[simp] theorem stopMove_store (k : Channel) (s : State) : (s.stopMove k).store = s.store := by
  unfold State.stopMove; split <;> rfl
@[simp] theorem stopMove_exposure (k : Channel) (s : State) : (s.stopMove k).exposure = s.exposure := by
  unfold State.stopMove; split <;> rfl
@[simp] theorem stopMove_motion (k : Channel) (s : State) : (s.stopMove k).motion = s.motion := by
  unfold State.stopMove; split <;> rfl
@[simp] theorem stopMove_drum (k : Channel) (s : State) : (s.stopMove k).drum = s.drum := by
  unfold State.stopMove; split <;> rfl
@[simp] theorem stopMove_film (k : Channel) (s : State) : (s.stopMove k).film = s.film := by
  unfold State.stopMove; split <;> rfl
@[simp] theorem stopMove_proof (k : Channel) (s : State) : (s.stopMove k).proof = s.proof := by
  unfold State.stopMove; split <;> rfl
@[simp] theorem stopMove_notices (k : Channel) (s : State) : (s.stopMove k).notices = s.notices := by
  unfold State.stopMove; split <;> rfl
@[simp] theorem stopMove_bus (k : Channel) (s : State) : (s.stopMove k).bus = s.bus := by
  unfold State.stopMove; split <;> rfl
@[simp] theorem stopMove_pending (k : Channel) (s : State) : (s.stopMove k).pending = s.pending := by
  unfold State.stopMove; split <;> rfl

/-! `stopMoves` changes pins, freeCounter alone. -/

@[simp] theorem stopMoves_mem (s : State) : s.stopMoves.mem = s.mem := by
  simp [State.stopMoves]
@[simp] theorem stopMoves_desk (s : State) : s.stopMoves.desk = s.desk := by
  simp [State.stopMoves]
@[simp] theorem stopMoves_scanner (s : State) : s.stopMoves.scanner = s.scanner := by
  simp [State.stopMoves]
@[simp] theorem stopMoves_flight (s : State) : s.stopMoves.flight = s.flight := by
  simp [State.stopMoves]
@[simp] theorem stopMoves_resultWrite (s : State) : s.stopMoves.resultWrite = s.resultWrite := by
  simp [State.stopMoves]
@[simp] theorem stopMoves_composer (s : State) : s.stopMoves.composer = s.composer := by
  simp [State.stopMoves]
@[simp] theorem stopMoves_hyphenation (s : State) : s.stopMoves.hyphenation = s.hyphenation := by
  simp [State.stopMoves]
@[simp] theorem stopMoves_fonts (s : State) : s.stopMoves.fonts = s.fonts := by
  simp [State.stopMoves]
@[simp] theorem stopMoves_store (s : State) : s.stopMoves.store = s.store := by
  simp [State.stopMoves]
@[simp] theorem stopMoves_exposure (s : State) : s.stopMoves.exposure = s.exposure := by
  simp [State.stopMoves]
@[simp] theorem stopMoves_motion (s : State) : s.stopMoves.motion = s.motion := by
  simp [State.stopMoves]
@[simp] theorem stopMoves_drum (s : State) : s.stopMoves.drum = s.drum := by
  simp [State.stopMoves]
@[simp] theorem stopMoves_film (s : State) : s.stopMoves.film = s.film := by
  simp [State.stopMoves]
@[simp] theorem stopMoves_proof (s : State) : s.stopMoves.proof = s.proof := by
  simp [State.stopMoves]
@[simp] theorem stopMoves_notices (s : State) : s.stopMoves.notices = s.notices := by
  simp [State.stopMoves]
@[simp] theorem stopMoves_bus (s : State) : s.stopMoves.bus = s.bus := by
  simp [State.stopMoves]
@[simp] theorem stopMoves_pending (s : State) : s.stopMoves.pending = s.pending := by
  simp [State.stopMoves]

/-- What a reset leaves of the input lines: all but the home inputs, and each of those whose channel makes no move. -/
theorem stopMoves_pins (s : State) :
    s.stopMoves.pins = { s.pins with home := s.stopMoves.pins.home, turretIndex := s.stopMoves.pins.turretIndex }
      ∧ (s.motion.carriage.busy = false → s.stopMoves.pins.home = s.pins.home)
      ∧ (s.motion.turret.busy = false → s.stopMoves.pins.turretIndex = s.pins.turretIndex) := by
  cases hc : s.motion.carriage.busy <;> cases ht : s.motion.turret.busy <;>
    simp [State.stopMoves, State.stopMove, Motion.channel, hc, ht, Pins.homeInput]

end Sys2Proof.Machine.State
end

