-- ==== Sys2Proof/Laws/Flight.lean ====
section
/-! SUPPORT. The Flight Table: when it is full and when it is empty, and what settling does to an empty one. -/

namespace Sys2Proof.Machine

/-- The table is full exactly when every entry is in use. -/
theorem State.flightFull_iff (s : State) : s.flightFull = true ↔ ∀ i : Fin 8, s.flight[i] ≠ none := by
  simp only [State.flightFull, State.entriesInUse, beq_iff_eq]
  have key := List.length_filter_eq_length_iff (p := Option.isSome) (l := s.flight.toList)
  rw [show s.flight.toList.length = 8 by simp] at key
  rw [key]
  constructor
  · intro h i e
    have := h s.flight[i] (by simp)
    simp [e] at this
  · intro h a ha
    obtain ⟨i, hi, rfl⟩ := List.getElem_of_mem ha
    exact Option.isSome_iff_ne_none.2 (h ⟨i, by simpa using hi⟩)

/-- The table is empty exactly when no entry is in use. -/
theorem State.flightEmpty_iff (s : State) : s.flightEmpty = true ↔ s.noTickets := by
  simp only [State.flightEmpty, State.entriesInUse, beq_iff_eq, List.length_eq_zero_iff, List.filter_eq_nil_iff,
    State.noTickets]
  constructor
  · intro h i
    have := h s.flight[i] (by simp)
    simpa using this
  · intro h a ha
    obtain ⟨i, hi, rfl⟩ := List.getElem_of_mem ha
    simpa using h ⟨i, by simpa using hi⟩

/-- With no ticket in flight and no result write, settling changes nothing. -/
theorem State.settle_empty (s : State) (h : s.noTickets) : s.settle = s := by
  have hm : s.markDue = s := by
    unfold State.markDue
    split
    · unfold State.modFlight
      congr 1
      ext i hi
      simp [show s.flight[i] = none from h ⟨i, hi⟩]
    · rfl
  have hd : s.dueEntries = [] := by
    simp only [State.dueEntries, List.filter_eq_nil_iff]
    intro i _
    simp [show s.flight[i] = none from h i]
  simp only [State.settle, hm, State.beginResult, State.chosenDue, hd]
  split <;> rfl

end Sys2Proof.Machine
end

