-- ==== Sys2Proof/Laws/Memory.lean ====
section
/-! SUPPORT. Laws of host memory: what a read gives after a write, and that every write keeps the canonical form. -/

namespace Sys2Proof.Machine

/-! ### Reads after one write -/

theorem Memory.read_insert (x y : Nat) (v : Byte) (m : List Host.Cell) :
    Memory.read (Memory.insert x v m) y = if y = x then v else Memory.read m y := by
  induction m with
  | nil => simp [Memory.insert, Memory.read]
  | cons c rest ih =>
    obtain ⟨a, b⟩ := c
    unfold Memory.insert
    split_ifs <;> simp_all only [Memory.read] <;> split_ifs <;> simp_all

theorem Memory.read_erase_other (x y : Nat) (h : y ≠ x) (m : List Host.Cell) :
    Memory.read (Memory.erase x m) y = Memory.read m y := by
  induction m with
  | nil => rfl
  | cons c rest ih =>
    obtain ⟨a, b⟩ := c
    unfold Memory.erase
    split_ifs <;> simp_all only [Memory.read] <;> split_ifs <;> simp_all

/-- A write leaves every other address as it was. -/
theorem Memory.read_write_other (x y : Nat) (h : y ≠ x) (v : Byte) (m : List Host.Cell) :
    Memory.read (Memory.write m x v) y = Memory.read m y := by
  unfold Memory.write
  split_ifs
  · exact Memory.read_erase_other x y h m
  · simp [Memory.read_insert, h]

/-- An address below every listed one reads as the background. -/
theorem Memory.read_below (l x : Nat) (hx : x ≤ l) (m : List Host.Cell) (h : Memory.wfFrom (some l) m = true) :
    Memory.read m x = Memory.background := by
  induction m generalizing l with
  | nil => rfl
  | cons c rest ih =>
    obtain ⟨a, b⟩ := c
    simp only [Memory.wfFrom, Bool.and_eq_true, decide_eq_true_eq] at h
    have : x ≠ a := by omega
    simp only [Memory.read, this, if_false]
    exact ih a (by omega) h.2

theorem Memory.wfFrom_weaken (low : Option Nat) (l : Nat) (h : ∀ k ∈ low, k ≤ l) (m : List Host.Cell)
    (hm : Memory.wfFrom (some l) m = true) : Memory.wfFrom low m = true := by
  cases m with
  | nil => rfl
  | cons c rest =>
    obtain ⟨a, b⟩ := c
    cases low with
    | none => simp_all [Memory.wfFrom]
    | some k =>
      have := h k rfl
      simp only [Memory.wfFrom, Bool.and_eq_true, decide_eq_true_eq] at hm ⊢
      exact ⟨⟨⟨by omega, hm.1.1.2⟩, hm.1.2⟩, hm.2⟩

theorem Memory.read_erase_self (low : Option Nat) (x : Nat) (m : List Host.Cell) (h : Memory.wfFrom low m = true) :
    Memory.read (Memory.erase x m) x = Memory.background := by
  induction m generalizing low with
  | nil => rfl
  | cons c rest ih =>
    obtain ⟨a, b⟩ := c
    simp only [Memory.wfFrom, Bool.and_eq_true] at h
    unfold Memory.erase
    split_ifs with h1 h2
    · exact Memory.read_below a x (by omega) rest h.2
    · have : x ≠ a := by omega
      simp only [Memory.read, this, if_false]
      exact Memory.read_below a x (by omega) rest h.2
    · simp only [Memory.read, Ne.symm h1, if_false]
      exact ih (some a) h.2

/-- A read after a write to the same address gives the byte written. -/
theorem Memory.read_write_self (x : Nat) (v : Byte) (m : List Host.Cell) (h : Memory.wf m = true) :
    Memory.read (Memory.write m x v) x = v := by
  unfold Memory.write
  split_ifs with hv
  · rw [hv]; exact Memory.read_erase_self none x m h
  · simp [Memory.read_insert]

/-! ### The canonical form -/

theorem Memory.wfFrom_erase (low : Option Nat) (x : Nat) (m : List Host.Cell) (h : Memory.wfFrom low m = true) :
    Memory.wfFrom low (Memory.erase x m) = true := by
  induction m generalizing low with
  | nil => rfl
  | cons c rest ih =>
    obtain ⟨a, b⟩ := c
    have h' := h
    simp only [Memory.wfFrom, Bool.and_eq_true] at h
    unfold Memory.erase
    split_ifs with h1 h2
    · refine Memory.wfFrom_weaken low a ?_ rest h.2
      intro k hk
      cases low with
      | none => cases hk
      | some l =>
        cases hk
        have := h.1.1.1
        simp only [decide_eq_true_eq] at this
        omega
    · exact h'
    · simp only [Memory.wfFrom, Bool.and_eq_true]
      exact ⟨h.1, ih _ h.2⟩

theorem Memory.wfFrom_insert (low : Option Nat) (x : Nat) (v : Byte) (m : List Host.Cell) (h : Memory.wfFrom low m = true)
    (hx : x < addressSpace) (hv : v ≠ Memory.background) (hl : ∀ k ∈ low, k < x) :
    Memory.wfFrom low (Memory.insert x v m) = true := by
  induction m generalizing low with
  | nil => cases low <;> simp_all [Memory.insert, Memory.wfFrom]
  | cons c rest ih =>
    obtain ⟨a, b⟩ := c
    simp only [Memory.wfFrom, Bool.and_eq_true] at h
    unfold Memory.insert
    split_ifs with h1 h2
    · cases low <;> simp_all [Memory.wfFrom]
    · subst h2
      cases low <;> simp_all [Memory.wfFrom]
    · have := ih (some a) h.2 (by intro k hk; cases hk; omega)
      simp only [Memory.wfFrom, Bool.and_eq_true]
      exact ⟨h.1, this⟩

/-- A write at an address of the 24-bit space keeps the canonical form. -/
theorem Memory.wf_write (x : Nat) (v : Byte) (m : List Host.Cell) (h : Memory.wf m = true) (hx : x < addressSpace) :
    Memory.wf (Memory.write m x v) = true := by
  unfold Memory.write
  split_ifs with hv
  · exact Memory.wfFrom_erase none x m h
  · exact Memory.wfFrom_insert none x v m h hx hv (by intro k hk; cases hk)

/-! ### Stores of several bytes -/

/-- A store leaves every byte outside the run it writes. -/
theorem State.storeBytes_other (a : Addr) (bs : List Byte) (s : State) (b : Addr) (h : ∀ i < bs.length, b ≠ Addr.plus a i) :
    (s.storeBytes a bs).byte b = s.byte b := by
  induction bs generalizing a s with
  | nil => rfl
  | cons v rest ih =>
    unfold State.storeBytes
    rw [ih]
    · have h0 : b ≠ a := by simpa [Addr.plus] using h 0 (by simp)
      exact Memory.read_write_other _ _ (fun e => h0 (BitVec.eq_of_toNat_eq e)) _ _
    · intro i hi
      have := h (i + 1) (by simp; omega)
      simpa [Addr.plus, BitVec.add_assoc, BitVec.ofNat_add, BitVec.add_comm 1#24] using this

/-- A store keeps the canonical form of memory. -/
theorem State.storeBytes_wf (a : Addr) (bs : List Byte) (s : State) (h : Memory.wf s.mem = true) :
    Memory.wf (s.storeBytes a bs).mem = true := by
  induction bs generalizing a s with
  | nil => exact h
  | cons v rest ih => exact ih _ _ (Memory.wf_write _ _ _ h a.isLt)

/-- A read of a stored byte gives the byte stored, for a run no longer than the address space. -/
theorem State.storeBytes_self (a : Addr) (bs : List Byte) (s : State) (h : Memory.wf s.mem = true) (hb : bs.length ≤ 16777216)
    (i : Nat) (hi : i < bs.length) : (s.storeBytes a bs).byte (Addr.plus a i) = bs[i] := by
  induction bs generalizing a s i with
  | nil => simp at hi
  | cons v rest ih =>
    have wf : Memory.wf (s.modMem fun m => Memory.write m a.toNat v).mem = true := Memory.wf_write _ _ _ h a.isLt
    unfold State.storeBytes
    cases i with
    | zero =>
      rw [State.storeBytes_other]
      · rw [show Addr.plus a 0 = a by simp [Addr.plus]]; exact Memory.read_write_self a.toNat v s.mem h
      · intro j hj e
        have hj' : j + 1 < 16777216 := by simp at hb; omega
        have := congrArg BitVec.toNat e
        simp [Addr.plus] at this
        have ha := a.isLt
        omega
    | succ k =>
      have := ih (Addr.plus a 1) _ wf (by simp at hb; omega) k (by simpa using hi)
      rw [show Addr.plus a (k + 1) = Addr.plus (Addr.plus a 1) k by
        simp [Addr.plus, BitVec.add_assoc, BitVec.ofNat_add, BitVec.add_comm 1#24]]
      simpa using this

/-- Memory after power-on, with nothing listed, has the canonical form. -/
theorem State.reset_mem_wf : Memory.wf State.reset.mem = true := rfl

end Sys2Proof.Machine
end

