-- ==== Sys2Proof/Laws/PerInstr.lean ====
section
/-! SUPPORT. Statements made of each row of the table in turn. -/

namespace Sys2Proof.Laws.NoTableWord

/-- No word of the table spells the command: spec/opcode_table.json gives its row no bits, so the command comes by the queue alone. -/
def Statement (i : Instr) : Prop := ∀ nbits w : Nat, decodeTableWord nbits w ≠ some i

/-- The decoder refuses every word. -/
theorem of_decoder (i : Instr) : Statement i := fun _ _ h => nomatch h

theorem start (operand : Byte) : Statement (.start operand) := of_decoder _
theorem halt (operand : Byte) : Statement (.halt operand) := of_decoder _
theorem resume (operand : Byte) : Statement (.resume operand) := of_decoder _
theorem reload (operand : Byte) : Statement (.reload operand) := of_decoder _
theorem sequence (operand : Byte) : Statement (.sequence operand) := of_decoder _
theorem cancel (operand : Byte) : Statement (.cancel operand) := of_decoder _
theorem reset (operand : Byte) : Statement (.reset operand) := of_decoder _
theorem unknownCommand (code operand : Byte) : Statement (.unknownCommand code operand) := of_decoder _
theorem deskbaseWrite (value : Half) : Statement (.deskbaseWrite value) := of_decoder _
theorem nudge (value : Half) : Statement (.nudge value) := of_decoder _
theorem eventsClear (value : Half) : Statement (.eventsClear value) := of_decoder _
theorem eventmaskWrite (value : Half) : Statement (.eventmaskWrite value) := of_decoder _
theorem registerWriteIgnored (value : Half) : Statement (.registerWriteIgnored value) := of_decoder _
theorem powerOn : Statement .powerOn := of_decoder _
theorem busError (during : BusStep) (acked : Nat) (landed : Bool) :
    Statement (.busError during acked landed) := of_decoder _
theorem rescanTimerExpiry : Statement .rescanTimerExpiry := of_decoder _
theorem scan : Statement .scan := of_decoder _
theorem resultWrite : Statement .resultWrite := of_decoder _
theorem character : Statement .character := of_decoder _
theorem wordSpace : Statement .wordSpace := of_decoder _
theorem fixedSpace : Statement .fixedSpace := of_decoder _
theorem discretionaryHyphen : Statement .discretionaryHyphen := of_decoder _
theorem endLine : Statement .endLine := of_decoder _
theorem endParagraph : Statement .endParagraph := of_decoder _
theorem endOfTake : Statement .endOfTake := of_decoder _
theorem takeOverrun : Statement .takeOverrun := of_decoder _
theorem markColumnTop : Statement .markColumnTop := of_decoder _
theorem returnToMark : Statement .returnToMark := of_decoder _
theorem reverseLead : Statement .reverseLead := of_decoder _
theorem leadNow : Statement .leadNow := of_decoder _
theorem hyphenationOff : Statement .hyphenationOff := of_decoder _
theorem hyphenationOn : Statement .hyphenationOn := of_decoder _
theorem fill : Statement .fill := of_decoder _
theorem font : Statement .font := of_decoder _
theorem widthTableLoad : Statement .widthTableLoad := of_decoder _
theorem pointSize : Statement .pointSize := of_decoder _
theorem setSize : Statement .setSize := of_decoder _
theorem leading : Statement .leading := of_decoder _
theorem measure : Statement .measure := of_decoder _
theorem indentLeft : Statement .indentLeft := of_decoder _
theorem indentRight : Statement .indentRight := of_decoder _
theorem tabStopSet : Statement .tabStopSet := of_decoder _
theorem tabTo : Statement .tabTo := of_decoder _
theorem moveTo : Statement .moveTo := of_decoder _
theorem moveBy : Statement .moveBy := of_decoder _
theorem letterspaceLimit : Statement .letterspaceLimit := of_decoder _
theorem badCode : Statement .badCode := of_decoder _
theorem dictionaryLookup : Statement .dictionaryLookup := of_decoder _
theorem itemDraw : Statement .itemDraw := of_decoder _
theorem groupAppend : Statement .groupAppend := of_decoder _
theorem exposureTakeRecord : Statement .exposureTakeRecord := of_decoder _
theorem motionComplete (channel : Channel) (home : Bool) : Statement (.motionComplete channel home) := of_decoder _
theorem trackSettled : Statement .trackSettled := of_decoder _
theorem mark (elapsed : Nat) (indexHigh : Bool) : Statement (.mark elapsed indexHigh) := of_decoder _
theorem index (elapsed : Nat) : Statement (.index elapsed) := of_decoder _
theorem drumWatch : Statement .drumWatch := of_decoder _
theorem flashDelayExpiry : Statement .flashDelayExpiry := of_decoder _
theorem flashEnd : Statement .flashEnd := of_decoder _
theorem lampReady : Statement .lampReady := of_decoder _
theorem drumWaitTimeout : Statement .drumWaitTimeout := of_decoder _
theorem coverOpen : Statement .coverOpen := of_decoder _
theorem coverClose : Statement .coverClose := of_decoder _
theorem noticeWriteDone (owner : Owner) : Statement (.noticeWriteDone owner) := of_decoder _
theorem cassetteInsertion : Statement .cassetteInsertion := of_decoder _
theorem cassetteRemoval : Statement .cassetteRemoval := of_decoder _
theorem takeupAbsent : Statement .takeupAbsent := of_decoder _
theorem takeupPresent : Statement .takeupPresent := of_decoder _
theorem knifeDone : Statement .knifeDone := of_decoder _
theorem knifeTimeout : Statement .knifeTimeout := of_decoder _
theorem proofTakeRecord : Statement .proofTakeRecord := of_decoder _
theorem printerByte (busy : Bool) : Statement (.printerByte busy) := of_decoder _
theorem proofDrop : Statement .proofDrop := of_decoder _
theorem printerBusyTimeout : Statement .printerBusyTimeout := of_decoder _
theorem printerFault : Statement .printerFault := of_decoder _
theorem printerReady : Statement .printerReady := of_decoder _

end Sys2Proof.Laws.NoTableWord
end

