-- ==== Sys2Proof/WellFormed.lean ====
section
/-! DEFINITION. Which commands the table's rows stand for: the bounds on the operands. -/

namespace Sys2Proof

/-- A command code is one of the seven commands of TABLE 12-15. -/
def knownCommand (code : Byte) : Bool := decide (1 ≤ code.toNat ∧ code.toNat ≤ 7)

/-- An interval read from the interval counter, which is reloaded with 4,095 and stops at 0 (R140). -/
def intervalInRange (elapsed : Nat) : Bool := decide (elapsed ≤ 4095)

/-- A command is well formed when its operands are within what its row stands for: the code of an unknown command is none of
the seven (R6, R176), and the time since the last drum event is what the interval counter can hold (R140). -/
def Instr.wellFormed : Instr → Bool
  | .unknownCommand code _ => !knownCommand code
  | .mark elapsed _ | .index elapsed => intervalInRange elapsed
  | .start _ | .halt _ | .resume _ | .reload _ | .sequence _ | .cancel _ | .reset _ => true
  | .deskbaseWrite _ | .nudge _ | .eventsClear _ | .eventmaskWrite _ | .registerWriteIgnored _ => true
  | .powerOn | .busError _ _ _ | .rescanTimerExpiry | .scan | .resultWrite => true
  | .character | .wordSpace | .fixedSpace | .discretionaryHyphen | .endLine | .endParagraph | .endOfTake | .takeOverrun => true
  | .markColumnTop | .returnToMark | .reverseLead | .leadNow | .hyphenationOff | .hyphenationOn | .fill => true
  | .font | .widthTableLoad | .pointSize | .setSize | .leading | .measure | .indentLeft | .indentRight => true
  | .tabStopSet | .tabTo | .moveTo | .moveBy | .letterspaceLimit | .badCode | .dictionaryLookup | .itemDraw | .groupAppend => true
  | .exposureTakeRecord | .motionComplete _ _ | .trackSettled | .drumWatch | .flashDelayExpiry | .flashEnd => true
  | .lampReady | .drumWaitTimeout | .coverOpen | .coverClose | .noticeWriteDone _ => true
  | .cassetteInsertion | .cassetteRemoval | .takeupAbsent | .takeupPresent | .knifeDone | .knifeTimeout => true
  | .proofTakeRecord | .printerByte _ | .proofDrop | .printerBusyTimeout | .printerFault | .printerReady => true

end Sys2Proof
end

