-- ==== Sys2Proof/Tests/Slice0.lean ====
section
/-! SUPPORT. The model's own tests: one step each on a small state, with expected results worked by hand from the specification; the
refusals of WellFormed; and for every statement with hypotheses a state and operands that meet them, with the conclusion there. -/

namespace Sys2Proof.Tests

open Sys2Proof Sys2Proof.Machine

set_option Elab.async false

/-! ### Small states -/

/-- The state a command leads to. -/
abbrev after (c : Instr) (s : State) : Option State :=
  match exec c s with
  | .next t => some t
  | _ => none

/-- A Setup copy with the Lens Table 12, 16, 20, 24, 28, 36, 48, 72 and a motion of its own for each channel. -/
def setup : Setup :=
  { Setup.initial with
    lens := #v[12, 16, 20, 24, 28, 36, 48, 72], flashLength := #v[120, 120, 120, 120, 120, 120, 120, 120]
    measure := 1600, minWord := 5, minPrefix := 2, minSuffix := 2, lampRecharge := 500, flashDelay := 40, markInterval := 446
    carriage := ⟨3, 9, 9⟩, film := ⟨4, 10, 11⟩, turret := ⟨5, 12, 13⟩, leader := 400, trailer := 600, spoilGap := 200
    cassetteLength := 20000, proofEnable := true, highlightMask := 1, proofTimeout := 30, rescan := 50 }

/-- A part at rest in a controller state, with that Setup. -/
def resting (c : Controller) : State :=
  { State.reset with
    desk := { State.reset.desk with
      controller := c, base := 0x3A, areas := ⟨0x100, 0x900, 0xC00, 0xC40, 0xC60⟩, setupInUse := true, setup := setup
      glyphsGiven := true } }

/-- A composition state: font 2 at 20 half-points on lens 2. -/
def composition : CompState :=
  { CompState.initial with font := 2, pointSize := 20, lens := 2, setSize := 20, leading := 24, measure := 1600, ladder := 1 }

/-- Ticket 7's flight entry: a routine take of 64 bytes at 0x1000, for film and proof, masking VOID. -/
def entry : Entry :=
  { entryOf 7 .routine [] with toFilm := true, toProof := true, stopMask := 8, takePtr := 0x1000, takeLength := 64, lineNumber := 3 }

/-- A width table: spaces of 12, 18 and 30 units, hyphen code 110 of 20 units, every character of 30 units but code 9, unassigned. -/
def table : WidthTable := ⟨12, 18, 30, 110, (List.range 112).map fun c => if c = 9 then 255 else if c = 110 then 20 else 30⟩

/-- Font 2 in a slot. -/
def slot : FontSlot := ⟨2, 4, 0x0102, table, 1⟩

/-- The Composer between codes of that ticket, with bytes of its take. -/
def reading (code : List Byte) : State :=
  let s := resting .running
  { s.storeBytes 0x1000 code with
    scanner := { s.scanner with state := .watch }
    flight := s.flight.set 0 (some entry)
    fonts := { s.fonts with store := s.fonts.store.set 3 (some slot), compositionCounter := 1 }
    composer := { s.composer with phase := .reading, ticket := some 0, current := composition, snapshot := composition } }

/-- A character of font 2 placed at 20 half-points: 30 units are 1,600 fine (R67). -/
def glyph (code : Nat) : Glyph := ⟨.char, 2, 2, code, 1600, 20, 110, 20, 0x0102⟩

/-- A code of a line that places an element, at a take offset. -/
def placed (offset : Nat) (e : Element) : LineCode := ⟨offset, composition, some e, false, none, 0⟩

/-- The state with elements in the line being built and the read position past them. -/
def withLine (es : List Element) (s : State) : State :=
  s.modComposer fun k =>
    { k with
      line := { k.line with codes := es.zipIdx.map fun x => placed x.2 x.1 }
      drawn := (glyphsOf es).length }

/-- A record for film and proof. -/
def record (w : Work) : Record := ⟨0, 3, true, true, false, 0, w⟩

/-- An item at 160 fine from the origin: tick 10. -/
def item (code : Nat) : Item := ⟨.char, 2, 2, code, .num 160, 10⟩

/-- A part at rest with one record in the Line Store, of a ticket whose composition is finished, and a galley open at tick 1,000. -/
def storing (c : Controller) (w : Work) : State :=
  let s := resting c
  { s with
    flight := s.flight.set 0 (some { entry with finished := true, outstanding := 1 })
    store := { s.store with records := [record w] }
    film := { s.film with supply := 9000, galleyOpen := true, position := 1000, deepest := 1000, galleyNumber := 4, unknown := false } }

/-- The drum alone, in a state, at a mark count. -/
def turning (state : DrumState) (count : Nat) : State :=
  let s := resting .running
  { s with
    drum := { s.drum with state := state, nominal := some 446, markCount := count, qualifying := true }
    fonts := { s.fonts with confirmed := true }
    notices := { s.notices with photoUnit := ⟨some .none, none, false⟩ } }

/-- The part homing at START. -/
def homing : State :=
  let s := resting .stopped
  { s with
    desk := { s.desk with busy := some .start, startStep := some .homing }
    motion := ⟨⟨3, 9, 9, false, 20000, 20000, true, .moving⟩, MotionChannel.initial, ⟨5, 12, 13, true, 3200, 3200, true, .moving⟩⟩ }

/-! ### WellFormed -/

/-- R6, R176: code 1 is START, 0 and 8 are no command. -/
theorem test_wellFormed_unknownCommand :
    Instr.wellFormed (.unknownCommand 1 0) = false ∧ Instr.wellFormed (.unknownCommand 7 0) = false
      ∧ Instr.wellFormed (.unknownCommand 0 0) = true ∧ Instr.wellFormed (.unknownCommand 8 0) = true := by
  decide

/-- R140: the interval counter holds 4,095 at most. -/
theorem test_wellFormed_intervals :
    Instr.wellFormed (.mark 4096 true) = false ∧ Instr.wellFormed (.index 4096) = false
      ∧ Instr.wellFormed (.mark 4095 true) = true ∧ Instr.wellFormed (.index 4095) = true := by
  decide

/-- The table gives no row any bits, so no word spells a command. -/
theorem test_no_table_word : decodeTableWord 0 0 = none ∧ decodeTableWord 16 0xFFFF = none := by
  decide

/-! ### The whole machine: witnesses -/

/-- Section 12.5: the little-endian fields. -/
theorem test_fields : halfAt [0x34, 0x12] 0 = 0x1234 ∧ addrAt [0x56, 0x34, 0x12] 0 = 0x123456 ∧ longAt [1, 0, 0, 1] 0 = 16777217 := by
  decide +kernel

/-- A command waiting, and memory listed. -/
def waiting (c : Instr) (s : State) : State := (s.storeBytes 0x3A0000 [0x10, 0x5A]).setPending [c]

/-- The invariants' premises, with a step that answers a next state. -/
theorem witness_invariants :
    let s := waiting (.eventmaskWrite 0x800C) (storing .running (.lead .mark))
    s.memoryLaw ∧ s.storeLaw ∧ s.bus = none ∧ (resting .stopped).stoppedLaw
      ∧ (match step s with | .next t => t.desk.mask == 12 && t.desk.page && t.pending.isEmpty | _ => false) = true := by
  unfold State.memoryLaw State.storeLaw State.stoppedLaw
  decide +kernel

/-- R1, R4: the writes that change DESKBASE and EVENTMASK. -/
theorem witness_register_changes :
    after (.deskbaseWrite 0x3A55) State.reset = some (State.reset.modDesk fun d => { d with base := 0x3A })
      ∧ (after .powerOn (resting .stopped)).map (·.desk.base) = some 0 ∧ (resting .stopped).desk.base = 0x3A
      ∧ (after (.eventmaskWrite 0x8003) State.reset).map (fun t => (t.desk.mask, t.desk.page)) = some (3, true) := by
  decide +kernel

/-- R115: the index that completes a scan changes the Mount Table and confirms it. -/
theorem witness_mount_table_changes :
    let s := (turning .scanning 111).modDrum fun d => { d with secondRevolution := true, readings := #v[1, 2, 3, 4, 5, 6, 7, 8] }
    let s := s.modFonts fun c => { c with confirmed := false }
    (after (.index 446) s).map (fun t => (t.fonts.confirmed, t.drum.state)) = some (true, .running)
      ∧ (after (.index 446) s).map (fun t => (t.fonts.mount[(7 : Fin 8)]).strip) = some (some 8)
      ∧ (s.fonts.mount[(7 : Fin 8)]).strip = none := by
  decide +kernel

/-! ### The registers and the commands (spec 01): witnesses and results -/

/-- R1: DESKBASE is taken while STOPPED, and neither while RUNNING nor with a command in progress. -/
theorem witness_deskbase :
    State.reset.desk.controller = .stopped ∧ State.reset.desk.busy = none
      ∧ after (.deskbaseWrite 0x3A00) (resting .running) = some (resting .running)
      ∧ after (.deskbaseWrite 0x1200) homing = some homing ∧ homing.desk.busy ≠ none
      ∧ ((resting .stopped).deskAddr 0x0C40).toNat = 0x3A0C40 := by
  decide +kernel

/-- R5: COMMAND and HALT set, HALT cleared; TICKET enabled alone does not interrupt. -/
theorem test_events :
    let s := (resting .running).modDesk fun d => { d with events := 12, mask := 4 }
    s.interrupt = true ∧ (after (.eventsClear 0xFFF4) s).map (fun t => (t.desk.events, t.interrupt)) = some (8, false)
      ∧ after (.registerWriteIgnored 0xFFFF) s = some s := by
  decide +kernel

/-- R84, R145, TABLE 12-16: both pages. A BLOCKED Composer stays BLOCKED with a place of the ring free again, until it takes it. -/
theorem witness_status_pages :
    let at1 := fun (s : State) => ((s.modDesk fun d => { d with page := true }).readRegister .status).toNat
    let blocked := (reading []).modComposer fun k => { k with phase := .lead .mark 1 }
    let es := fun (p : EsPhase) (c : Controller) => (storing c (.text 240 [item 5] [])).modExposure fun x => { x with phase := p }
    let shut := (es .mountWait .running).modPins fun p => { p with coverOpen := true }
    let sent := (resting .running).modProof fun p => { p with sending := some ⟨0, 0, 0, false, 30⟩ }
    ((storing .halted (.lead .mark)).modDesk fun d =>
        { d with cause := .drum, result := .refusedOperand, busy := some .start }).readRegister .status = 0x1BA
      ∧ (blocked.readRegister .status, blocked.readRegister .command, blocked.readRegister .nudge) = (0x201, 0, 0)
      ∧ ((blocked.modDesk fun d => { d with events := 5, mask := 9, page := true }).readRegister .events).toNat = 5
      ∧ ((blocked.modDesk fun d => { d with events := 5, mask := 9, page := true }).readRegister .eventmask).toNat = 0x8009
      ∧ (at1 blocked, at1 (reading []), at1 (blocked.modDesk fun d => { d with controller := .halted })) = (4, 1, 5 + 8 * 9 + 128 * 6)
      ∧ (at1 (es (.needWait (.advance 3)) .running), at1 (es .mountWait .running), at1 shut, at1 (es .mountWait .halted))
        = (48, 40, 56, 72 + 768)
      ∧ (at1 (es (.moving (.leader 4 5 .advance)) .halted), at1 (es (.moving (.runOut 4 5 .record)) .running)) = (8 + 768, 32)
      ∧ (at1 sent, at1 (sent.modPins fun p => { p with pbusy := true }), at1 (sent.modProof fun p => { p with dropping := true }))
        = (256, 512, 640) := by
  decide +kernel

/-- R23: a trigger starts a scan, is remembered while HALTED, and is ignored while STOPPED. -/
theorem witness_nudge :
    after (.nudge 0) (resting .running) = some ((resting .running).modScanner fun c => { c with inFlight := true })
      ∧ after (.nudge 0) (resting .halted) = some ((resting .halted).modScanner fun c => { c with pendingFlag := true })
      ∧ after (.nudge 0) (resting .stopped) = some (resting .stopped)
      ∧ (resting .running).flight[(7 : Fin 8)] = none := by
  decide +kernel

/-- R24: the rescan timer at 1 is loaded again with its interval; with a scan in flight, or the
flash-only scan held, it holds at 1; stopped it does nothing. -/
theorem witness_rescanTimer :
    let s := (resting .running).modScanner fun c => { c with timer := 1 }
    let scanning := s.modScanner fun c => { c with inFlight := true }
    let halted := (resting .halted).modScanner fun c => { c with timer := 1 }
    let flash := s.modScanner fun c => { c with state := .locked, held := some .read }
    after .rescanTimerExpiry s = some (s.modScanner fun c => { c with timer := 50, inFlight := true })
      ∧ after .rescanTimerExpiry scanning = some (scanning.modScanner fun c => { c with timerAtOne := true })
      ∧ after .rescanTimerExpiry flash = some (flash.modScanner fun c => { c with timerAtOne := true })
      ∧ after .rescanTimerExpiry halted = some (halted.modScanner fun c => { c with timer := 50, pendingFlag := true })
      ∧ after .rescanTimerExpiry (resting .running) = some (resting .running) := by
  decide +kernel

/-- R6, TABLE 2-5: refusals. Slot 7 is in flight, slots 32 and 6 are not. -/
theorem witness_refusals :
    let s := storing .running (.lead .mark)
    after (.start 0) s = some (s.modDesk fun d => { d with result := .refusedState, events := 12 })
      ∧ after (.start 0) homing = some (homing.modDesk fun d => { d with result := .refusedBusy, events := 12 })
      ∧ (after (.resume 0) s).map (·.desk.result) = some .refusedState
      ∧ (after (.reload 0) s).map (·.desk.result) = some .refusedState
      ∧ (after (.sequence 0) s).map (·.desk.result) = some .refusedState
      ∧ (after (.halt 0) (resting .halted)).map (·.desk.result) = some .refusedState
      ∧ (after (.cancel 7) (resting .stopped)).map (·.desk.result) = some .refusedState
      ∧ (after (.cancel 32) s).map (·.desk.result) = some .refusedOperand
      ∧ (after (.cancel 6) s).map (·.desk.result) = some .refusedOperand
      ∧ after (.unknownCommand 8 0) s = some (s.modDesk fun d => d.ends .refusedOperand)
      ∧ after (.reset 0) homing = some (homing.modDesk fun d => d.ends .refusedBusy) := by
  decide +kernel

/-- No write of the part is in flight after power-on, at rest, or with a record stored. -/
theorem witness_noWrites : State.reset.noWrites ∧ (resting .halted).noWrites ∧ (storing .running (.lead .mark)).noWrites := by
  refine ⟨⟨rfl, fun o => ?_⟩, ⟨rfl, fun o => ?_⟩, ⟨rfl, fun o => ?_⟩⟩ <;> cases o <;> exact ⟨rfl, rfl⟩

/-- R10, R12: HALT, and RESUME of a part at rest. -/
theorem witness_halt_resume :
    let s := resting .halted
    s.noTickets ∧ s.composerAtRest ∧ s.desk.startStep = none ∧ s.exposure.phase = .idle ∧ s.proof.drawing = none
      ∧ s.proof.bandA.state = .free ∧ s.proof.bandB.state = .free
      ∧ (after (.halt 0) (resting .running)).map (fun t => (t.desk.controller, t.desk.cause, t.desk.events))
        = some (.halted, .command, 12)
      ∧ (after (.resume 0) s).map (fun t => (t.desk.controller, t.desk.events, t.scanner.inFlight)) = some (.running, 8, true)
      ∧ (after (.resume 0) (s.modProof fun p => { p with sending := some ⟨3, 36, 5, true, 9⟩ })).map (·.proof.sending)
        = some (some ⟨3, 36, 5, true, 30⟩) := by
  decide +kernel

/-- A Desk at 0x3A0000: signature, areas, presets 40 and 7, no tables, one lens of 12 half-points, and Setup values of 0. -/
def desk (c : Controller) : State :=
  let s := { resting c with film := { (resting c).film with inserted := true } }
  s.storeBytes 0x3A0000
    ([0x10, 0x5A, 0, 1, 0, 9, 0, 0xC, 0x40, 0xC, 0x60, 0xC, 40, 0, 7, 0] ++ List.replicate 32 0 ++ [12])

/-- The bytes of its header. -/
def header : List Byte := (desk .stopped).bytes ((desk .stopped).deskAddr 0) 256

/-- R8: what START and RELOAD ask of a Desk. -/
theorem witness_desk :
    (desk .stopped).bus = none ∧ headerLayoutOk header = true ∧ longAt header 0x14 = 0 ∧ longAt header 0x18 = 0
      ∧ longAt header 0x1C = 0 ∧ (desk .stopped).pins.home = false ∧ (desk .stopped).pins.turretIndex = false
      ∧ (desk .halted).noTickets ∧ (desk .halted).store.records = []
      ∧ headerLayoutOk ((resting .stopped).bytes ((resting .stopped).deskAddr 0) 256) = false
      ∧ (resting .halted).bytes ((resting .halted).deskAddr 0) 256 = List.replicate 256 0 := by
  decide +kernel

/-- R2, R8, R9: START takes the Desk's copies and homes; without a signature it is refused. -/
theorem test_start :
    (after (.start 0) (desk .stopped)).map (fun t => (t.scanner.nextRoutine, t.scanner.nextFlash)) = some (40, 7)
      ∧ (after (.start 0) (desk .stopped)).map (fun t => (t.desk.busy, t.desk.startStep)) = some (some .start, some .homing)
      ∧ (after (.start 0) (desk .stopped)).map (fun t => (t.desk.setup.pointSize, t.desk.setup.lampRecharge)) = some (10, 100)
      ∧ (after (.start 0) (desk .stopped)).map (fun t => (t.film.supply, t.film.inserted, t.drum.nominal))
        = some (1, false, some 200)
      ∧ (after (.start 0) (desk .stopped)).map (·.motion.turret) = some ⟨0, 0, 0, true, 3200, 3200, true, .moving⟩
      ∧ after (.start 0) (resting .stopped) = some ((resting .stopped).modDesk fun d =>
        { d with cause := .setup, result := .refusedSetup, events := 12 }) := by
  decide +kernel

/-- R13: RELOAD takes the copies and no sequence. -/
theorem test_reload :
    (after (.reload 0) (desk .halted)).map (fun t => (t.desk.controller, t.desk.result, t.scanner.nextRoutine, t.desk.setup.minWord))
        = some (.halted, .accepted, 0, 3)
      ∧ after (.reload 0) (resting .halted) = some ((resting .halted).modDesk fun d => d.ends .refusedSetup) := by
  decide +kernel

/-- The Desk with a dictionary pointer, a Letter Table and a Proof Glyph Table, their first bytes 7 and 9, and proofs enabled or not. -/
def tables (c : Controller) (proofs : Byte) : State :=
  (((desk c).storeBytes 0x3A0010 [4, 3, 2, 0, 0, 0x20, 0x3A, 0, 0, 0, 0, 0, 0, 0x30, 0x3A, 0]).storeBytes 0x3A0064
    [proofs]).storeBytes 0x3A2000 [7] |>.storeBytes 0x3A3000 [9]

/-- R8, R13: START and RELOAD take the tables, the dictionary pointer and the glyph store. -/
theorem test_tables :
    (after (.start 0) (tables .stopped 1)).map (fun t => (t.hyphenation.dictionary, t.hyphenation.letters.take 2))
        = some (0x020304, [7, 0])
      ∧ (after (.start 0) (tables .stopped 1)).map (fun t => (t.hyphenation.pairs, t.proof.glyphs.take 2, t.proof.glyphs.length))
        = some ([], [9, 0], 1344)
      ∧ (after (.reload 0) (tables .halted 1)).map (fun t => (t.hyphenation.letters.length, t.proof.glyphs.take 2))
        = some (224, [9, 0]) := by
  decide +kernel

/-- R169: a RELOAD that disables proofs abandons the band being sent; one that enables them finds the printer at fault. -/
theorem test_reload_proofs :
    let off := (tables .halted 0).modProof fun p => { p with sending := some ⟨3, 36, 5, false, 9⟩, separatorDue := true }
    let on := (tables .halted 1).modDesk fun d => { d with glyphsGiven := false }
    off.proofsOn = true ∧ on.proofsOn = false
      ∧ (after (.reload 0) off).map (fun t => (t.proof.sending, t.proof.printerRow, t.proof.separatorDue)) = some (none, 64, false)
      ∧ (after (.reload 0) { on with pins := { on.pins with pfault := true } }).map
        (fun t => (t.proof.printer, t.notices.proof.inFlight)) = some (true, some .printer) := by
  decide +kernel

/-- R14: SEQUENCE at rest, and with a scan in flight. -/
theorem witness_sequence :
    let s := (desk .running).modScanner fun c => { c with inFlight := true }
    let held := s.modScanner fun c => { c with held := some .read }
    (desk .running).scanner.state = .idle ∧ (desk .running).noTickets
      ∧ (after (.sequence 0) (desk .running)).map (fun t => (t.scanner.nextRoutine, t.scanner.inFlight, t.desk.result))
        = some (40, true, .accepted)
      ∧ after (.sequence 0) s = some (s.modDesk fun d => { d with busy := some (.sequence 40 7) })
      ∧ (after (.sequence 0) held).map (fun t => (t.scanner.nextFlash, t.scanner.pendingFlag)) = some (7, true) := by
  decide +kernel

/-- R14: the scan SEQUENCE waited for ends over an empty Tray: the presets are loaded, and a scan started. -/
theorem witness_sequence_at_scan_end :
    let s := ((desk .running).modScanner fun c => { c with inFlight := true, nextRoutine := 3 }).modDesk fun d =>
      { d with busy := some (.sequence 40 7) }
    s.composerAtRest ∧ s.noTickets ∧ (∀ slot < 32, s.byte (s.slotAddr slot 0) = 0)
      ∧ after .scan s = some { s with
        scanner := { s.scanner with nextRoutine := 40, nextFlash := 7, inFlight := true }
        desk := { s.desk.ends .accepted with busy := none } } := by
  decide +kernel

/-- R45, R126: a CANCEL of a draining ticket withdraws its record; the withdrawn cut leaves content in the galley. -/
theorem witness_cancel :
    let s := storing .running (.cut .routine)
    s.resultWrite = none ∧ s.composer.preempt ≠ some 0 ∧ s.composer.suspended ≠ some 0
      ∧ (s.flight[(0 : Fin 8)]).map (fun e => (e.slot, e.finished)) = some (7, true)
      ∧ (after (.cancel 7) s).map (fun t => (t.store.records.map (·.withdrawn), t.composer.galleyContent, t.desk.result))
        = some ([true], true, .accepted) := by
  decide +kernel

/-- R41: a CANCEL of a finished flash leaves its closing cut in the ring. -/
theorem witness_cancel_closing_cut :
    let s := storing .running (.cut .flashClose)
    (after (.cancel 7) s).map (fun t => (t.store.records.map (·.withdrawn), t.composer.galleyContent)) = some ([false], false) := by
  decide +kernel

/-- R45, R50: a CANCEL of the ticket being composed, its line of one character discarded; it is CANCELLED at once. -/
theorem witness_cancel_composed :
    let s := (withLine [.glyph (glyph 5)] (reading [])).modComposer fun k => { k with lineStart := 2, readPosition := 9 }
    s.scanCanStart ∧ s.composer.ticket = some 0 ∧ s.composer.preempt = none
      ∧ after (.cancel 7) s = some (State.settle { s with
        store := { s.store with free := 1537 }
        flight := s.flight.set 0 (some { entry with cancelMark := true, stopOffset := 2, finished := true })
        composer := { s.composer with
          phase := .idle, ticket := none, line := ⟨[], none, 0⟩, drawn := 0, readPosition := 2, carried := some composition }
        scanner := s.scanner.released
        desk := s.desk.ends .accepted })
      ∧ (after (.cancel 7) s).map (·.resultWrite) = some (some ⟨0, .cancelled, false⟩) := by
  decide +kernel

/-- R16: RESET with a galley open, the controller RUNNING. -/
theorem witness_reset :
    let s := storing .running (.lead .mark)
    s.desk.busy = none
      ∧ (after (.reset 0) s).map (fun t => (t.desk.controller, t.desk.events, t.store.records, t.film.unknown, t.film.galleyNumber))
        = some (.stopped, 12, [], true, 4)
      ∧ (after (.reset 0) s).map (fun t => (t.film.supply, t.desk.setup)) = some (9000, setup) := by
  decide +kernel

/-- The result write of ticket 7 in flight. -/
def writing : State :=
  let s := storing .running (.lead .mark)
  { s with resultWrite := some ⟨0, .set, false⟩ }

/-- R34: it completes: state SET at byte 0 of slot 7, reason NONE and masked condition 0xFF at 0x18, TICKET set. -/
theorem witness_resultWrite :
    writing.bus = none ∧ writing.flight[(1 : Fin 8)] = none ∧ writing.desk.busy ≠ some (.cancel 0)
      ∧ (after .resultWrite writing).map (fun t => (t.bytes (t.slotAddr 7 0x17) 4, t.byte (t.slotAddr 7 0), t.desk.events))
        = some ([0, 0, 0xFF, 0], 3, 1)
      ∧ ((after .resultWrite writing).map fun t => t.flight[(0 : Fin 8)]) = some none := by
  decide +kernel

/-- R19: the second byte of its results is not acknowledged; or its state byte, after all 24 of them. -/
theorem witness_busError :
    writing.desk.controller = .running ∧ writing.desk.busy = none
      ∧ (after (.busError .resultWrite 1 true) writing).map
        (fun t => (t.bytes (t.slotAddr 7 0x17) 4, t.byte (t.slotAddr 7 0), t.desk.cause)) = some ([0, 0, 0, 0], 0, .deskFault)
      ∧ (after (.busError .resultWrite 2 false) writing).map (fun t => t.byte (t.slotAddr 7 0x19)) = some 0xFF
      ∧ (after (.busError .resultWrite 24 true) writing).map
        (fun t => (t.byte (t.slotAddr 7 0), t.byte (t.slotAddr 7 0x19), t.resultWrite)) = some (0, 0xFF, some ⟨0, .set, true⟩) := by
  decide +kernel

/-- R19: both accesses that RESUME makes again fail. -/
theorem test_busErrors_at_resume :
    let s := resting .halted
    let s := { s with
      composer := { s.composer with cancelWriteHeld := true }
      scanner := { s.scanner with inFlight := true, held := some (.staleLock 31) } }
    (after (.busError (.further .resume 0 false) 0 false) s).map
        (fun t => (t.desk.cause, t.composer.cancelWriteHeld, t.scanner.held, t.bus))
      = some (.deskFault, true, some (.staleLock 31), none) := by
  decide +kernel

/-- R20: a notice write of MOUNT for font 2, strip 0x0102, position 6 completes, and NONE is written after it. -/
theorem witness_noticeWrite :
    let s := (resting .running).modNotices fun n => { n with photoUnit := ⟨none, some (.mount 2 0x0102 6), false⟩ }
    s.bus = none ∧ s.desk.startStep ≠ some .notices
      ∧ (after (.noticeWriteDone .photoUnit) s).map (fun t => (t.bytes 0x3A0C40 8, t.desk.events))
        = some ([1, 2, 2, 1, 6, 0, 0, 0], 2)
      ∧ (after (.noticeWriteDone .photoUnit) s).map (·.notices.photoUnit)
        = some ⟨some (.mount 2 0x0102 6), some .none, false⟩ := by
  decide +kernel

/-- R9: the last notice write of step 4 makes step 5. -/
theorem witness_last_noticeWrite :
    let s := resting .stopped
    let s := { s with
      desk := { s.desk with busy := some .start, startStep := some .notices }
      notices := { s.notices with
        photoUnit := ⟨none, some .none, false⟩, film := ⟨some .none, none, false⟩, proof := ⟨some .none, none, false⟩ } }
    s.desk.starts ∧ s.noticeShown .photoUnit = .none ∧ s.scanner.state ≠ .locked
      ∧ after (.noticeWriteDone .photoUnit) s = some { s with
        notices := { s.notices with photoUnit := ⟨some .none, none, false⟩ }
        desk := { s.desk with
          controller := .running, startStep := none, started := true, busy := none, result := .accepted, events := 10 }
        scanner := { s.scanner with timer := 50, inFlight := true } } := by
  decide +kernel

/-! ### The Ticket Scanner (spec 02): witnesses and results -/

/-- A scan in flight over a Tray whose slot 31 holds a FILED routine TAKE ticket of 64 bytes at 0x3A2000, with a sequence. -/
def scanning (sequence : Byte) : State :=
  let s := resting .running
  (s.storeBytes (s.slotAddr 31 0) ([1, 1, 0, 1, sequence, 0, 8, 0, 0, 0, 64, 0, 0, 0x20, 0x3A, 0])).modScanner fun c =>
    { c with inFlight := true, nextRoutine := 40 }

/-- R25: sequence 41 lies ahead of the next one, 40, and the scan takes nothing. -/
theorem witness_scan_nothing :
    (scanning 41).composerAtRest ∧ (scanning 41).scanner.held = none
      ∧ (∀ slot < 31, (scanning 41).byte ((scanning 41).slotAddr slot 0) = 0)
      ∧ ((40 : Half) - halfAt ((scanning 41).bytes ((scanning 41).slotAddr 31 0) 6) 4).toNat = 65535
      ∧ after .scan (scanning 41) = some ((scanning 41).modScanner fun c => { c with inFlight := false }).settle := by
  decide +kernel

/-- R27 to R29: sequence 40 is taken. -/
theorem witness_scan_takes :
    let s := scanning 40
    let t := s.bytes (s.slotAddr 31 0) 24
    s.memoryLaw ∧ s.noTickets ∧ halfAt t 4 = s.scanner.nextRoutine ∧ byteAt t 3 &&& 3 ≠ 0 ∧ longAt t 16 = 0
      ∧ s.allowed false (longAt t 12) (halfAt t 10).toNat = true ∧ (∀ k < 31, s.byte (s.slotAddr k 0) ≠ 1)
      ∧ (after .scan s).map (fun u => (u.byte (u.slotAddr 31 0), u.scanner.nextRoutine)) = some (2, 41)
      ∧ ((after .scan s).bind fun u => (u.flight[(0 : Fin 8)]).map fun e => (e.slot, e.takePtr, e.takeLength))
        = some (31, 0x3A2000, 64) := by
  unfold State.memoryLaw
  decide +kernel

/-- R26: a stale ticket, refused, and one that is no longer FILED. -/
theorem witness_stale :
    let s := scanning 39
    s.memoryLaw ∧ s.byte (s.slotAddr 31 0) = 1 ∧ (s.refuseStale 31 false).1 = true
      ∧ (s.refuseStale 31 false).2.bytes (s.slotAddr 31 0x18) 4 = [1, 0xFF, 0, 0]
      ∧ (s.refuseStale 31 false).2.byte (s.slotAddr 31 0) = 5 ∧ s.refuseStale 30 false = (true, s)
      ∧ (after .scan s).map (fun u => (u.byte (u.slotAddr 31 0), u.desk.events)) = some (5, 1) := by
  unfold State.memoryLaw
  decide +kernel

/-- R26: stale at a difference of 1 and of 32,767, and not at 32,768. -/
theorem witness_stale_scan :
    let s := scanning 39
    let behind := fun n => s.modScanner fun c => { c with nextRoutine := 39 + n }
    s.composerAtRest ∧ (∀ k < 31, byteAt (s.bytes (s.slotAddr k 0) 6) 0 ≠ 1)
      ∧ (after .scan (behind 1)).map (fun u => (u.bytes (u.slotAddr 31 0x18) 24, u.desk.events, u.scanner))
        = some ([1, 0xFF] ++ List.replicate 22 0, 1, { (behind 1).scanner with inFlight := false })
      ∧ (after .scan (behind 32767)).map (fun u => u.byte (u.slotAddr 31 0)) = some 5
      ∧ (after .scan (behind 32768)).map (fun u => u.byte (u.slotAddr 31 0)) = some 1 := by
  decide +kernel

/-- R19, R26: the write of TAKEN in slot 31 fails after 32 reads of six bytes and the locked one, and lands or does not. -/
theorem witness_busError_in_the_lock :
    let s := scanning 39
    let faulted : State := { s with
      scanner := { s.scanner with held := some (.staleLock 31) }
      desk := { s.desk with controller := .halted, cause := .deskFault, events := 4 } }
    s.noTickets ∧ s.byte (s.slotAddr 31 0) = 1
      ∧ after (.busError .scan 193 false) s = some faulted
      ∧ after (.busError .scan 193 true) s = some { faulted with mem := (s.storeBytes (s.slotAddr 31 0) [2]).mem } := by
  decide +kernel

/-- Ticket 7 being composed from flight entry 3 with one character in its line, content on the galley and the ring full, and a scan in
flight over a Tray whose slot 31 holds a FILED flash TAKE ticket in turn. -/
def preempting : State :=
  let s := withLine [.glyph (glyph 5)] (reading [])
  { s.storeBytes (s.slotAddr 31 0) [1, 1, 1, 1, 5, 0, 0, 0, 0, 0, 64, 0, 0, 0x20, 0x3A, 0] with
    flight := (s.flight.set 3 (some entry)).set 0 none
    scanner := { s.scanner with inFlight := true, nextFlash := 5 }
    store := { s.store with records := List.replicate 16 { record (.lead .mark) with entry := 3 } }
    composer := { s.composer with ticket := some 3, lineStart := 0x0201, readPosition := 0x0209, galleyContent := true } }

/-- A scan runs in both, with nothing that its end sets off. -/
theorem witness_scanRuns : (scanning 39).scanRuns ∧ preempting.scanRuns :=
  ⟨⟨rfl, rfl, rfl, rfl, fun _ _ h => nomatch h⟩, rfl, rfl, rfl, rfl, fun _ _ h => nomatch h⟩

/-- R27, R38, R39: the flash is taken, the routine ticket suspended with its line start and snapshot in the Context Record (font 2, 20
half-points, leading 24, measure 1,600, ladder count 1), and the Composer BLOCKED at the FLASH-OPEN cut. -/
theorem witness_preemption :
    let s := preempting
    let t := s.bytes (s.slotAddr 31 0) 24
    s.memoryLaw ∧ halfAt t 4 = s.scanner.nextFlash ∧ s.allowed false (longAt t 12) (halfAt t 10).toNat = true
      ∧ longAt t 16 = 0 ∧ s.desk.areas.context = 0xC60 ∧ (∀ k < 31, byteAt (s.bytes (s.slotAddr k 0) 6) 0 ≠ 1)
      ∧ (after .scan s).map (fun u => (u.byte (u.slotAddr 31 0), u.bytes 0x3A0C60 18))
        = some (2, [1, 3, 1, 2, 2, 20, 20, 24, 0x40, 6, 0, 0, 0, 0, 0, 0, 1, 0])
      ∧ (after .scan s).map (fun u => (u.composer.phase, u.composer.ticket, u.composer.suspended, u.store.free, u.scanner.state))
        = some (.openCut, some 0, some 3, 1537, .locked)
      ∧ ((after .scan s).bind fun u => (u.flight[(0 : Fin 8)]).map fun f => (f.slot, f.cls, f.takePtr)) = some (31, .flash, 0x3A2000) := by
  unfold State.memoryLaw
  decide +kernel

/-- R34: a finished ticket with nothing outstanding falls due and its write begins, but not while HALTED. -/
theorem witness_settle :
    let s := (storing .running (.lead .mark)).modFlight fun v => v.set 0 (some { entry with finished := true, cancelMark := true })
    let halted := s.modDesk fun d => { d with controller := .halted }
    s.resultWrite = none ∧ s.settle.resultWrite = some ⟨0, .cancelled, false⟩ ∧ halted.settle = halted
      ∧ (storing .running (.lead .mark)).settle = storing .running (.lead .mark) := by
  decide +kernel

/-! ### Take codes: witnesses and results (spec 03) -/

/-- R59: hyphenation off and on. -/
theorem witness_hyphenation_switch :
    (reading [0x7C]).readsCode 0 entry [0x7C] ∧ (reading [0x7D]).readsCode 0 entry [0x7D]
      ∧ (after .hyphenationOn (reading [0x7D])).map (·.composer.current.hyphenation) = some true
      ∧ (after .hyphenationOff (reading [0x7C])).map (·.composer.readPosition) = some 1 := by
  decide +kernel

/-- R58, R59: leading 255; set size 9 is clamped to 10; letterspace 16 to 15, raising CLAMPED. -/
theorem witness_leading_setSize_letterspace :
    (reading [0x83, 255]).readsCode 0 entry [0x83, 255] ∧ (reading [0x82, 9]).readsCode 0 entry [0x82, 9]
      ∧ (reading [0x8C, 16]).readsCode 0 entry [0x8C, 16]
      ∧ (after .leading (reading [0x83, 255])).map (·.composer.current.leading) = some 255
      ∧ (after .setSize (reading [0x82, 9])).map (·.composer.current.setSize) = some 10
      ∧ (after .letterspaceLimit (reading [0x8C, 16])).map (fun t => codeConditions t.composer.line.codes) = some 0x80 := by
  decide +kernel

/-- R60: stop 15 is set at 300 ticks; stop 16 sets none and raises CLAMPED. -/
theorem witness_tabStopSet :
    (reading [0x88, 15, 0x2C, 1]).readsCode 0 entry [0x88, 15, 0x2C, 1]
      ∧ (reading [0x88, 16, 0x2C, 1]).readsCode 0 entry [0x88, 16, 0x2C, 1]
      ∧ (after .tabStopSet (reading [0x88, 15, 0x2C, 1])).map (·.composer.current.tabs[15]?) = some (some (some 300))
      ∧ (after .tabStopSet (reading [0x88, 16, 0x2C, 1])).map
        (fun t => (t.composer.current.tabs, codeConditions t.composer.line.codes)) = some (List.replicate 16 none, 0x80) := by
  decide +kernel

/-- R57, R110: 18 half-points lies as near 16 as 20, and the smaller is taken, at lens position 1, raising SUBSTITUTED. -/
theorem witness_pointSize :
    (reading [0x81, 18]).readsCode 0 entry [0x81, 18]
      ∧ (∀ k : Fin 8, setup.lens[k] ≠ 0 →
        ((setup.lens[(1 : Fin 8)] : Int) - 18).natAbs < ((setup.lens[k] : Int) - 18).natAbs
          ∨ (((setup.lens[(1 : Fin 8)] : Int) - 18).natAbs = ((setup.lens[k] : Int) - 18).natAbs
            ∧ setup.lens[(1 : Fin 8)] < setup.lens[k]) ∨ k = 1)
      ∧ (after .pointSize (reading [0x81, 18])).map (fun t => (t.composer.current.pointSize, t.composer.current.lens,
        t.composer.current.setSize, codeConditions t.composer.line.codes)) = some (16, 1, 16, 0x40) := by
  decide +kernel

/-- R59: a measure of 17,281 ticks is clamped to 17,280; an indent of 1,600 fits a measure of 1,600, one of 1,601 is clamped. -/
theorem witness_measure_indents :
    (reading [0x85, 0x81, 0x43]).readsCode 0 entry [0x85, 0x81, 0x43]
      ∧ (reading [0x86, 0x40, 6]).readsCode 0 entry [0x86, 0x40, 6] ∧ (reading [0x87, 0x41, 6]).readsCode 0 entry [0x87, 0x41, 6]
      ∧ (after .measure (reading [0x85, 0x81, 0x43])).map
        (fun t => (t.composer.current.measure, codeConditions t.composer.line.codes)) = some (17280, 0x80)
      ∧ (after .indentLeft (reading [0x86, 0x40, 6])).map
        (fun t => (t.composer.current.indentLeft, codeConditions t.composer.line.codes)) = some (1600, 0)
      ∧ (after .indentRight (reading [0x87, 0x41, 6])).map
        (fun t => (t.composer.current.indentRight, codeConditions t.composer.line.codes)) = some (1600, 0x80) := by
  decide +kernel

/-- Font 2's directory entry: valid, revision 4, strip 0x0103, its table at 0x3AE000. -/
def directory (s : State) : State := s.storeBytes (s.areaAddr s.desk.areas.fontDirectory 24) [1, 4, 3, 1, 0, 0xE0, 0x3A, 0]

/-- R56: font 64 is no font. -/
theorem witness_font_bad :
    (reading [0x80, 64]).readsCode 0 entry [0x80, 64]
      ∧ after .font (reading [0x80, 64])
        = some ((reading [0x80, 64]).modComposer fun k => k.afterCode 2 (k.trace 0x100)).settle := by
  decide +kernel

/-- R104: font 2 is resident at revision 4, and takes the strip ID of its directory entry. -/
theorem witness_font_resident :
    let s := directory (reading [0x80, 2])
    let d := s.bytes (s.areaAddr s.desk.areas.fontDirectory 24) 12
    s.readsCode 0 entry [0x80, 2] ∧ byteAt d 0 ≠ 0 ∧ halfAt d 2 = 0x0103 ∧ slot.revision = byteAt d 1
      ∧ s.fonts.store[(3 : Fin 8)] = some slot ∧ slot.font = 2 ∧ (∀ k : Fin 8, k ≠ 3 → s.fonts.store[k] = none)
      ∧ after .font s = some ((s.modFonts fun c =>
        { c with compositionCounter := 2, store := c.store.set 3 (some { slot with strip := 0x0103, stamp := 2 }) }).modComposer
          fun k => { k.afterCode 2 (k.trace 0) with current := { k.current with font := 2 } }).settle := by
  decide +kernel

/-- The same with the Width Store empty. -/
def unloaded : State :=
  let s := directory (reading [0x80, 2])
  s.modFonts fun c => { c with store := Vector.replicate 8 none }

/-- R105, R106: font 2 is LOADING into the lowest EMPTY slot. -/
theorem witness_font_loading :
    unloaded.readsCode 0 entry [0x80, 2] ∧ (∀ k : Fin 8, unloaded.fonts.store[k] = none)
      ∧ unloaded.allowed false 0x3AE000 128 = true
      ∧ after .font unloaded = some (unloaded.modComposer fun k =>
        { k.afterCode 2 (k.trace 0) with phase := .loading ⟨2, 4, 0x0103, 0x3AE000, 0, .code⟩ }).settle := by
  decide +kernel

/-- That load with a table in memory: 12, 18 and 30 units, hyphen code 0 of 20 units. -/
def loading : State :=
  (unloaded.storeBytes 0x3AE000 ([12, 18, 30, 0, 20] ++ List.replicate 111 30)).modComposer fun k =>
    { k with phase := .loading ⟨2, 4, 0x0103, 0x3AE000, 0, .code⟩ }

/-- R106: the table passes its check, and the font is selected. -/
theorem witness_widthTableLoad :
    loading.bus = none ∧ loading.composer.preempt = none ∧ loading.desk.busy = none
      ∧ (widthTable (loading.bytes 0x3AE000 128)).ok = true
      ∧ (after .widthTableLoad loading).map (fun t => t.composer.phase) = some .reading
      ∧ (after .widthTableLoad loading).map (fun t => t.composer.current.font) = some 2
      ∧ ((after .widthTableLoad loading).bind fun t => (t.fonts.store[(0 : Fin 8)]).map fun x => x.stamp) = some 2 := by
  decide +kernel

/-- R55: the em, en and thin spaces at 20 half-points are 3,200, 1,600 and 640 fine. -/
theorem witness_fixedSpace :
    (reading [0x71]).readsCode 0 entry [0x71] ∧ (reading [0x72]).readsCode 0 entry [0x72]
      ∧ (reading [0x73]).readsCode 0 entry [0x73]
      ∧ (after .fixedSpace (reading [0x71])).map (fun t => elementsOf t.composer.line.codes) = some [.fixed 3200]
      ∧ (after .fixedSpace (reading [0x72])).map (fun t => elementsOf t.composer.line.codes) = some [.fixed 1600]
      ∧ (after .fixedSpace (reading [0x73])).map (fun t => elementsOf t.composer.line.codes) = some [.fixed 640] := by
  decide +kernel

/-- R55, R65: the codes that place nothing; 0x8E is the first that is BAD CODE. -/
theorem witness_discretionary_fill_bad :
    (reading [0x74]).readsCode 0 entry [0x74] ∧ (reading [0x7E]).readsCode 0 entry [0x7E]
      ∧ (reading [0x8E]).readsCode 0 entry [0x8E] ∧ (reading [0xFF]).readsCode 0 entry [0xFF]
      ∧ (after .discretionaryHyphen (reading [0x74])).map (fun t => t.composer.line.codes.map (·.discretionary)) = some [true]
      ∧ after .fill (reading [0x7E]) = some ((reading [0x7E]).modComposer fun k => k.pastCode 1).settle
      ∧ (after .badCode (reading [0x8E])).map (fun t => codeConditions t.composer.line.codes) = some 0x100
      ∧ (after .badCode (reading [0xFF])).map (·.composer.readPosition) = some 1 := by
  decide +kernel

/-- R60, R68: tab to an undefined stop and to stop 16 are VOID; 32,768 ticks are OVER+, 32,767 are not; move by −1 tick. -/
theorem witness_tabs_and_moves :
    (reading [0x89, 15]).readsCode 0 entry [0x89, 15] ∧ (reading [0x8A, 0, 0x80]).readsCode 0 entry [0x8A, 0, 0x80]
      ∧ (reading [0x8B, 0xFF, 0xFF]).readsCode 0 entry [0x8B, 0xFF, 0xFF]
      ∧ (after .tabTo (reading [0x89, 15])).map (fun t => elementsOf t.composer.line.codes) = some [.place .void]
      ∧ (after .tabTo (reading [0x89, 16])).map (fun t => elementsOf t.composer.line.codes) = some [.place .void]
      ∧ (after .moveTo (reading [0x8A, 0, 0x80])).map (fun t => elementsOf t.composer.line.codes) = some [.place .overPlus]
      ∧ (after .moveTo (reading [0x8A, 0xFF, 0x7F])).map (fun t => elementsOf t.composer.line.codes) = some [.place (.num 524272)]
      ∧ (after .moveBy (reading [0x8B, 0xFF, 0xFF])).map (fun t => elementsOf t.composer.line.codes)
        = some [.shift (.num (-16))] := by
  decide +kernel

/-- The state with no item in the pool. -/
def drained (s : State) : State := s.modStore fun l => { l with free := 0 }

/-- R54: characters 0 and 0x6F are placed, 9 is unassigned, and with no item free the Composer is BLOCKED. -/
theorem witness_character :
    (reading [0x6F]).readsCode 0 entry [0x6F] ∧ (reading [9]).readsCode 0 entry [9] ∧ (drained (reading [0])).readsCode 0 entry [0]
      ∧ (reading [0x6F]).fonts.store[(3 : Fin 8)] = some slot ∧ (reading [0x6F]).composer.roomForCharacter
      ∧ (after .character (reading [0x6F])).map (fun t => (elementsOf t.composer.line.codes, t.store.free, t.composer.drawn))
        = some ([.glyph (glyph 0x6F)], 1535, 1)
      ∧ after .character (reading [9]) = some ((reading [9]).modComposer fun k =>
        k.afterCode 1 { k.trace 0x40 with element := some (.fixed 1600) }).settle
      ∧ after .character (drained (reading [0])) = some ((drained (reading [0])).modComposer fun k =>
        { k with readPosition := 1, phase := .placing (k.characterTrace 0 30 slot) }).settle := by
  decide +kernel

/-- R55: the word space on an empty line, and after a character, at 640, 960 and 1,600 fine. -/
theorem witness_wordSpace :
    (reading [0x70]).readsCode 0 entry [0x70] ∧ (reading [0x70]).composer.lineIsEmpty
      ∧ (withLine [.glyph (glyph 5)] (reading [0x70])).composer.needsNoBreak
      ∧ after .wordSpace (reading [0x70]) = some ((reading [0x70]).modComposer fun k => k.pastCode 1).settle
      ∧ (after .wordSpace (withLine [.glyph (glyph 5)] (reading [0x70]))).map (fun t => elementsOf t.composer.line.codes)
        = some [.glyph (glyph 5), .space 640 960 1600] := by
  decide +kernel

/-- A word of seventeen letters, which does not fit a measure of 1,600 ticks, with hyphenation on and a dictionary at 0x3AF000. -/
def wide : State :=
  let s := withLine (List.replicate 17 (.glyph (glyph 5))) (reading [0x70])
  { s with
    hyphenation := ⟨List.replicate 224 2, List.replicate 256 1, 0x3AF000⟩
    composer := { s.composer with current := { s.composer.current with hyphenation := true } } }

/-- R86, R92: a lookup is to be made, and the Composer is SEARCHING. -/
theorem witness_wordSpace_searching :
    wide.readsCode 0 entry [0x70] ∧ ¬ wide.composer.lineIsEmpty ∧ ¬ wide.composer.needsNoBreak
      ∧ candidateSource wide.hyphenation wide.desk.setup wide.composer.current (splitWord wide.composer.line.codes).2 = .lookup
      ∧ after .wordSpace wide = some (wide.modComposer fun k =>
        { k.pastCode 1 with phase := .searching (.space 0 640 960 1600) }).settle := by
  decide +kernel

/-- The ring full of records of the ticket. -/
def full (s : State) : State := s.modStore fun l => { l with records := List.replicate 16 (record (.lead .mark)) }

/-- R62: film codes read at an empty line; amounts of 0 do nothing, 1 is appended; with sixteen records the Composer is BLOCKED. -/
theorem witness_film_codes_empty_line :
    (reading [0x84, 0, 0]).readsCode 0 entry [0x84, 0, 0] ∧ (reading [0x8D, 0, 0]).readsCode 0 entry [0x8D, 0, 0]
      ∧ (reading [0x7A]).readsCode 0 entry [0x7A] ∧ (reading [0x7B]).readsCode 0 entry [0x7B] := by
  decide +kernel

/-- R62: an amount of 1 at an empty line, and one of 256; and a film code with the ring full. -/
theorem witness_film_codes_of_an_amount :
    (reading [0x84, 1, 0]).readsCode 0 entry [0x84, 1, 0] ∧ (reading [0x8D, 0, 1]).readsCode 0 entry [0x8D, 0, 1]
      ∧ (full (reading [0x7B])).readsCode 0 entry [0x7B] := by
  decide +kernel

/-- R62: the results of those film codes. -/
theorem test_film_codes_empty_line :
    after .reverseLead (reading [0x84, 0, 0]) = some ((reading [0x84, 0, 0]).modComposer fun k => k.pastCode 3).settle
      ∧ (after .leadNow (reading [0x8D, 0, 1])).map (fun t => (t.store.records, t.composer.lineStart, t.composer.galleyContent))
        = some ([record (.lead (.advance 256))], 3, true)
      ∧ after .reverseLead (reading [0x84, 1, 0]) = (let s := reading [0x84, 1, 0]
        some (State.settle { s with
          store := { s.store with records := [record (.lead (.reverse 1))] }
          flight := s.flight.set 0 (some { entry with outstanding := 1 })
          composer := { s.composer with
            readPosition := 3, lineStart := 3, snapshot := s.composer.current, galleyContent := true } }))
      ∧ (after .markColumnTop (reading [0x7A])).map (·.store.records) = some [record (.lead .mark)]
      ∧ after .returnToMark (full (reading [0x7B])) = some ((full (reading [0x7B])).modComposer fun k =>
        { k with readPosition := 1, phase := .lead .toMark 1 }).settle := by
  decide +kernel

/-- A line of characters of eight fonts, after other elements, with a character of font 2 still to be read, at take offset 16. -/
def crowded (first : List Element) : State :=
  ((withLine (first ++ (List.range 8).map fun n => .glyph { glyph 5 with font := 10 + n }) (reading [])).storeBytes 0x1010
    [5]).modComposer fun k => { k with readPosition := 16 }

/-- R99, R100: the ninth font ends a line that fits, FORCED, before its character, which is to be placed in the next line; in a tabular
line the character is dropped. -/
theorem witness_character_at_a_limit :
    let s := full (crowded [])
    let t := crowded [.place (.num 0)]
    let c := s.composer.characterTrace 5 30 slot
    let g := s.composer.brokenLine s.composer.line.codes [] none 4 16 composition (.place c) 3
    s.readsCode 0 entry [5] ∧ ¬ s.composer.roomForCharacter ∧ s.groupWaits entry g ∧ (g.items.length, g.fonts.length) = (8, 8)
      ∧ fits (elementsOf s.composer.line.codes) s.composer.settings.effective = true
      ∧ after .character s = some (s.blockedAtGroup 0 entry g (s.composer.pastCode 1)).settle
      ∧ t.readsCode 0 entry [5] ∧ ¬ t.composer.roomForCharacter
      ∧ after .character t = some (t.modComposer fun k => k.afterCode 1 (k.trace 4)).settle := by
  decide +kernel

/-- A line with a word space to be read at take offset 32, and the ring full. -/
def breaking (es : List Element) : State :=
  full (((withLine es (reading [])).storeBytes 0x1020 [0x70]).modComposer fun k => { k with readPosition := 32 })

/-- That word space. -/
def space : Trigger := .space 32 640 960 1600

/-- R97, R98: sixteen characters of a word of seventeen fit, and the break is forced after them; with a word before it the line is broken
before the word; a word of one element is set whole. -/
theorem witness_word_breaks :
    let lone := breaking (List.replicate 17 (.glyph (glyph 5)))
    let two := breaking ([.glyph (glyph 5), .space 640 960 1600] ++ List.replicate 16 (.glyph (glyph 5)))
    let one := breaking [.fixed 26000]
    let forced := lone.composer.brokenAt 16 none 4 (.retest space) 3
    let before := two.composer.brokenAt 2 none 0 (.retest space) 3
    let whole := one.composer.brokenLine
      (one.composer.line.codes ++ [{ one.composer.trace 0 with element := some (.space 640 960 1600) }]) [] none 4 33 composition
      .readOn 3
    lone.readsCode 0 entry [0x70] ∧ ¬ lone.composer.needsNoBreak ∧ ¬ two.composer.needsNoBreak ∧ ¬ one.composer.needsNoBreak
      ∧ (forced.items.length, forced.carried.length, before.items.length, before.carried.length) = (16, 1, 1, 16)
      ∧ (forced.conditions.getLsbD 2, before.conditions.getLsbD 2, whole.conditions.getLsbD 2) = (true, false, true)
      ∧ lone.groupWaits entry forced ∧ two.groupWaits entry before ∧ one.groupWaits entry whole
      ∧ after .wordSpace lone = some (lone.blockedAtGroup 0 entry forced (lone.composer.pastCode 1)).settle
      ∧ after .wordSpace two = some (two.blockedAtGroup 0 entry before (two.composer.pastCode 1)).settle
      ∧ after .wordSpace one = some (one.blockedAtGroup 0 entry whole (one.composer.pastCode 1)).settle := by
  decide +kernel

/-- The seventeen letters with a discretionary hyphen after the fourth, and hyphenation on. -/
def hyphenated : State :=
  let s := breaking []
  { s with
    hyphenation := wide.hyphenation
    composer := { s.composer with
      current := { composition with hyphenation := true }
      drawn := 17
      line := { s.composer.line with
        codes := ((List.range 4).map fun n => placed n (.glyph (glyph 5))) ++ [⟨4, composition, none, true, none, 0⟩]
          ++ (List.range 13).map fun n => placed (5 + n) (.glyph (glyph 5)) } } }

/-- R95, R96: the line is broken there with the font's hyphen, code 110 of 20 units, drawn from the pool; with none free the Composer is
BLOCKED at it. -/
theorem witness_hyphenation_break :
    let s := hyphenated
    let h : Glyph := { glyph 110 with kind := .hyphen, width := 1067 }
    let g := s.composer.brokenAt 5 (some (s.placedHyphen h)) 0 (.retest space) 3
    let past := s.composer.pastCode 1
    candidateSource s.hyphenation s.desk.setup s.composer.current (splitWord s.composer.line.codes).2 = .gathered [⟨4, true⟩]
      ∧ choosePoint s.composer.line.codes (charsOf (s.hyphenation.core (splitWord s.composer.line.codes).2))
        s.composer.settings.effective [⟨4, true⟩] = some (h, 5)
      ∧ s.placedHyphen h = h ∧ (g.items.length, g.carried.length, g.hyphenated) = (5, 13, true) ∧ s.groupWaits entry g
      ∧ after .wordSpace s = some ((s.modStore fun l => { l with free := 1535 }).blockedAtGroup 0 entry g
        { past with drawn := 18 }).settle
      ∧ after .wordSpace (drained s) = some ((drained s).modComposer fun _ => { past with phase := .hyphen ⟨h, 5, space⟩ }).settle := by
  decide +kernel

/-- R95, R98, R109: a preferred point before an allowed one to its right; no point where no trial fits; no forced break of one element,
and one after the first where no prefix fits; the hyphen's strip ID from its font's slot, or the character's where no slot holds it. -/
theorem witness_choice :
    let codes := (List.range 9).map fun n => placed n (.glyph (glyph 5))
    let chars := charsOf codes
    let h : Glyph := { glyph 110 with kind := .hyphen, width := 1067, strip := 9 }
    choosePoint codes chars 16000 [⟨4, true⟩, ⟨6, false⟩] = some ({ h with strip := 0x0102 }, 4)
      ∧ choosePoint codes chars 16000 [⟨4, false⟩, ⟨6, false⟩] = some ({ h with strip := 0x0102 }, 6)
      ∧ choosePoint codes chars 1600 [⟨4, true⟩] = none
      ∧ forcedOffset (codes.take 1) 100 = none ∧ forcedOffset codes 100 = some 1 ∧ forcedOffset codes 8000 = some 5
      ∧ ((reading []).placedHyphen h).strip = 0x0102 ∧ ((reading []).placedHyphen { h with font := 9 }).strip = 9 := by
  decide +kernel

/-- The state with film codes held after a character. -/
def holding (n : Nat) (s : State) : State :=
  (withLine [.glyph (glyph 5)] s).modComposer fun k =>
    { k with line := { k.line with codes := k.line.codes ++ List.replicate n ⟨1, composition, none, false, some .mark, 0⟩ } }

/-- R63: the eighth film code of a line is held, the ninth raises BAD CODE. -/
theorem witness_film_codes_held :
    (holding 7 (reading [0x7B])).readsCode 0 entry [0x7B] ∧ ¬ (holding 7 (reading [0x7B])).composer.lineIsEmpty
      ∧ (heldFilm (holding 7 (reading [0x7B])).composer.line.codes).length = 7
      ∧ (after .returnToMark (holding 7 (reading [0x7B]))).map (fun t => heldFilm t.composer.line.codes)
        = some (List.replicate 7 .mark ++ [.toMark])
      ∧ (after .returnToMark (holding 8 (reading [0x7B]))).map
        (fun t => ((heldFilm t.composer.line.codes).length, codeConditions t.composer.line.codes)) = some (8, 0x100) := by
  decide +kernel

/-- Two characters, a word space between them, and a mark held. -/
def line (code : Byte) : State :=
  (withLine [.glyph (glyph 5), .space 640 960 1600, .glyph (glyph 6)] (reading [code])).modComposer fun k =>
    { k with line := { k.line with codes := k.line.codes ++ [⟨3, composition, none, false, some .mark, 0⟩] } }

/-- What the statements about ended lines ask of such a line. -/
abbrev endsWhole (code : Byte) (mode : Quad) : Prop :=
  (line code).readsCode 0 entry [code] ∧ ¬ (line code).composer.lineIsEmpty ∧ (line code).composer.needsNoBreak
    ∧ (∀ n < 9, ((line code).composer.lineConditions mode 3 &&& entry.stopMask).getLsbD n = false)
    ∧ ((line code).composer.lineGroup 0 entry mode).length = 2 ∧ (line code).scanCanStart

/-- The state after an end code as the statement gives it. -/
def ended (code : Byte) (mode : Quad) : State :=
  let s := line code
  State.settle { s with
    store := s.store.appended s.proofsOn (s.composer.lineGroup 0 entry mode)
    flight := s.flight.set 0 (some (s.composer.lineEntry 0 entry mode))
    composer := s.composer.afterLine entry mode }

/-- R61, R80: quad left sets the characters at 0 and 2,560 fine; the line carries 240 ticks of leading and its held mark. -/
theorem witness_endLine_left :
    endsWhole 0x75 .left ∧ after .endLine (line 0x75) = some (ended 0x75 .left)
      ∧ (ended 0x75 .left).store.records =
        [⟨0, 3, true, true, false, 0,
          .text 240 [⟨.char, 2, 2, 5, .num 0, 0⟩, ⟨.char, 2, 2, 6, .num 2560, 160⟩] [(2, 0x0102)]⟩, record (.lead .mark)] := by
  decide +kernel

/-- R61, R78: quad centre and quad right; the measure is 25,600 fine and the line 4,160. -/
theorem witness_endLine_center_right :
    endsWhole 0x76 .center ∧ endsWhole 0x77 .right ∧ after .endLine (line 0x76) = some (ended 0x76 .center)
      ∧ after .endLine (line 0x77) = some (ended 0x77 .right)
      ∧ ((line 0x76).composer.lineSet .center 3).items.map (·.position) = [.num 10720, .num 13280]
      ∧ ((line 0x77).composer.lineSet .right 3).items.map (·.position) = [.num 21440, .num 24000] := by
  decide +kernel

/-- R61, R74: justified, the one space takes all the slack and the line is LOOSE. -/
theorem witness_endLine_justify :
    endsWhole 0x78 .justify ∧ after .endLine (line 0x78) = some (ended 0x78 .justify)
      ∧ ((line 0x78).composer.lineSet .justify 3).items.map (·.position) = [.num 0, .num 24000]
      ∧ ((line 0x78).composer.lineSet .justify 3).conditions = 1 := by
  decide +kernel

/-- R61: the end of a paragraph ends a line that is not empty as quad left does. -/
theorem witness_endParagraph :
    endsWhole 0x79 .left ∧ after .endParagraph (line 0x79) = some (ended 0x79 .left) := by
  decide +kernel

/-- R52, R61: an empty line ends without a record; 0x7F finishes the ticket, and its result write begins. -/
theorem witness_empty_line :
    (reading [0x79]).readsCode 0 entry [0x79] ∧ (reading [0x7F]).readsCode 0 entry [0x7F]
      ∧ (reading [0x7F]).composer.lineIsEmpty ∧ (reading [0x7F]).scanCanStart := by
  decide +kernel

/-- R52, R61: what becomes of them. -/
theorem test_empty_line :
    after .endParagraph (reading [0x79]) = some ((reading [0x79]).modComposer fun k => k.pastCode 1).settle
      ∧ (after .endOfTake (reading [0x7F])).map (·.scanner) = some (reading [0x7F]).scanner.released
      ∧ (after .endOfTake (reading [0x7F])).map (fun t => (t.composer.phase, t.composer.carried)) = some (.idle, some composition)
      ∧ (after .endOfTake (reading [0x7F])).map (fun t => (t.store.records, t.resultWrite))
        = some ([], some ⟨0, .set, false⟩) := by
  decide +kernel

/-- R52: the end of the take with a line. -/
theorem witness_endOfTake_line :
    endsWhole 0x7F .left ∧ (after .endOfTake (line 0x7F)).map (fun t => (t.store.records.length, t.composer.phase)) = some (2, .idle)
      ∧ ((after .endOfTake (line 0x7F)).bind fun t => (t.flight[(0 : Fin 8)]).map fun e => (e.linesSet, e.finished)) = some (1, true)
    := by
  decide +kernel

/-- The ticket with its take length at the read position. -/
def short (code : List Byte) (length : Nat) : State :=
  let s := reading code
  { s with flight := s.flight.set 0 (some { entry with takeLength := length }) }

/-- R53: the take runs out at a code, and at an operand. -/
theorem witness_takeOverrun :
    (short [0x82] 0).scanCanStart ∧ (short [0x82] 1).composer.readPosition + 1 + operandCount ((short [0x82] 1).byte 0x1000) = 2
      ∧ after .takeOverrun (short [0x82] 0)
        = some ((short [0x82] 0).stopsRoutine 0 { entry with takeLength := 0 } .takeOverrun none).settle
      ∧ after .takeOverrun (short [0x82] 1)
        = some ((short [0x82] 1).stopsRoutine 0 { entry with takeLength := 1 } .takeOverrun none).settle := by
  decide +kernel

/-- A line that is VOID, which ticket 7 masks: a character after a tab to an undefined stop. -/
def void : State := withLine [.place .void, .glyph (glyph 5)] (reading [0x75])

/-- R33: the line is not appended; the ticket stops MASKED with condition 3, its line's item back in the pool. -/
theorem witness_masked_line :
    void.readsCode 0 entry [0x75] ∧ void.composer.needsNoBreak ∧ void.scanCanStart
      ∧ (void.composer.lineConditions .left 3 &&& entry.stopMask).getLsbD 3 = true
      ∧ (∀ n < 3, (void.composer.lineConditions .left 3 &&& entry.stopMask).getLsbD n = false)
      ∧ after .endLine void = some (void.stopsRoutine 0 (entry.report 3 (void.composer.lineConditions .left 3)) .masked (some 3)).settle
      ∧ (after .endLine void).map (·.store.free) = some 1537 := by
  decide +kernel

/-- The lookup of that word, halted: its bucket is (3 × 2 + 2 + 17) mod 64 = 25, at 0x3AF064, and points to an entry at 0x3AF200. -/
def searching (pointer : List Byte) : State :=
  let s := wide.modComposer fun k => { k with phase := .searching (.space 17 640 960 1600) }
  ((s.storeBytes 0x3AF064 pointer).storeBytes 0x3AF200 ([17] ++ List.replicate 17 2 ++ [0x18, 0, 0, 0])).modDesk fun d =>
    { d with controller := .halted }

/-- R92 to R94: an empty bucket gives the pair candidates, all allowed, after characters 2 to 15; the entry's mask marks 4 and 5. -/
theorem witness_dictionaryLookup :
    (searching []).allowed false 0x3AF064 4 = true ∧ longAt ((searching []).bytes 0x3AF064 4) 0 = 0
      ∧ longAt ((searching [0, 0xF2, 0x3A, 0]).bytes 0x3AF064 4) 0 = 0x3AF200 ∧ (searching []).allowed false 0x3AF201 21 = true
      ∧ (after .dictionaryLookup (searching [])).map (·.composer.phase)
        = some (.choosing (.space 17 640 960 1600) ((List.range 14).map fun n => ⟨n + 2, false⟩))
      ∧ (after .dictionaryLookup (searching [0, 0xF2, 0x3A, 0])).map (·.composer.phase)
        = some (.choosing (.space 17 640 960 1600) [⟨4, true⟩, ⟨5, true⟩]) := by
  decide +kernel

/-- R93 to R96, R98: the same lookups in a RUNNING part, the ring full. The mask's rightmost point that fits is after the fifth letter, and
the pair rules' after the fifteenth; with no letter to break after, sixteen fit and the break is forced. -/
theorem witness_lookup_breaks :
    let runs := fun (s : State) => full (s.modDesk fun d => { d with controller := .running })
    let t := Trigger.space 17 640 960 1600
    let h : Glyph := { glyph 110 with kind := .hyphen, width := 1067 }
    let found := runs (searching [0, 0xF2, 0x3A, 0])
    let pairs := runs (searching [])
    let never : State := { pairs with hyphenation := { pairs.hyphenation with pairs := [] } }
    let masked := found.composer.brokenAt 5 (some h) 0 (.retest t) 3
    let paired := pairs.composer.brokenAt 15 (some h) 0 (.retest t) 3
    let forced := never.composer.brokenAt 16 none 4 (.retest t) 3
    found.groupWaits entry masked ∧ pairs.groupWaits entry paired ∧ never.groupWaits entry forced ∧ found.placedHyphen h = h
      ∧ after .dictionaryLookup found = some ((found.modStore fun l => { l with free := 1535 }).blockedAtGroup 0 entry masked
        { found.composer with drawn := 18 }).settle
      ∧ after .dictionaryLookup pairs = some ((pairs.modStore fun l => { l with free := 1535 }).blockedAtGroup 0 entry paired
        { pairs.composer with drawn := 18 }).settle
      ∧ after .dictionaryLookup (drained found) = some ((drained found).modComposer fun k => { k with phase := .hyphen ⟨h, 5, t⟩ }).settle
      ∧ after .dictionaryLookup never = some (never.blockedAtGroup 0 entry forced never.composer).settle := by
  decide +kernel

/-- The Composer BLOCKED at a character. -/
def blockedAtItem : State := (reading []).modComposer fun k => { k with phase := .placing (placed 0 (.glyph (glyph 5))) }

/-- R101: with no item free it waits, with one it places the character. -/
theorem witness_itemDraw :
    (glyph 5).font = blockedAtItem.composer.current.font ∧ blockedAtItem.composer.roomForCharacter
      ∧ after .itemDraw (drained blockedAtItem) = some (drained blockedAtItem)
      ∧ (after .itemDraw blockedAtItem).map
        (fun t => (t.store.free, t.composer.drawn, t.composer.phase, elementsOf t.composer.line.codes))
        = some (1535, 1, .reading, [.glyph (glyph 5)]) := by
  decide +kernel

/-- The Composer BLOCKED at a film code, and at a line of no items. -/
def blockedAtRing (p : Phase) : State := (reading []).modComposer fun k => { k with phase := p }

/-- An ended line of no items and one LEAD record. -/
def endedLine : EndedLine := ⟨[], [], 0, 240, [.mark], .left, .num 0, 0, false, [], 5, composition, .readOn⟩

/-- R122: with the ring full it waits; with room the group is appended. -/
theorem witness_groupAppend :
    after .groupAppend (full (blockedAtRing (.lead .mark 1))) = some (full (blockedAtRing (.lead .mark 1)))
      ∧ after .groupAppend (full (blockedAtRing (.group endedLine))) = some (full (blockedAtRing (.group endedLine)))
      ∧ (after .groupAppend (blockedAtRing (.lead .mark 1))).map (fun t => (t.store.records, t.composer.lineStart, t.composer.phase))
        = some ([record (.lead .mark)], 1, .reading)
      ∧ (after .groupAppend (blockedAtRing (.group endedLine))).map
        (fun t => (t.store.records, t.composer.lineStart, t.composer.current.ladder, (t.flight[(0 : Fin 8)]).map (·.outstanding)))
        = some ([record (.text 240 [] []), record (.lead .mark)], 5, 0, some 2) := by
  decide +kernel

/-- That line of ticket 7 with a line log of two entries at 0x3A5000, one of them written. -/
def logging (code : Byte) : Entry × State :=
  let e := { entry with logPtr := 0x3A5000, logCapacity := 2, logIndex := 1, logWritten := 1 }
  (e, { line code with flight := (line code).flight.set 0 (some e) })

/-- R36, R175: a line of two items in JUSTIFY mode (code 3), LOOSE, of 4,160 fine with its space at 960, the space set at 22,400: its
entry is written at 0x3A5010. -/
theorem witness_line_log :
    let e := (logging 0x78).1
    let s := (logging 0x78).2
    let t := (logging 0x7F).2
    s.readsCode 0 e [0x78] ∧ e.logOpen ∧ e.logAddr = 0x3A5010
      ∧ s.composer.lineLog e .justify = [3, 0, 0, 0, 2, 6, 1, 0, 0x40, 0x10, 0, 0, 0x80, 0x57, 0, 0]
      ∧ after .endLine s = some (State.settle { s with
        mem := s.loggedMem e (s.composer.lineLog e .justify)
        store := s.store.appended s.proofsOn (s.composer.lineGroup 0 e .justify)
        flight := s.flight.set 0 (some (s.composer.lineEntry 0 e .justify))
        composer := s.composer.afterLine e .justify })
      ∧ (after .endLine s).map (fun u => u.bytes 0x3A500F 18) = some ([0] ++ s.composer.lineLog e .justify ++ [0])
      ∧ ((after .endOfTake t).bind fun u => (u.flight[(0 : Fin 8)]).map fun x => (x.logIndex, x.logWritten)) = some (2, 2) := by
  decide +kernel

/-- A group BLOCKED after which something is tried, with a log, no item free in the pool and a character carried. -/
def blockedAtGroup (after : After) (carried : List LineCode) : State :=
  drained { (logging 0).2 with
    composer := { (logging 0).2.composer with
      phase := .group { endedLine with after := after, carried := carried, firstSpace := 960 }, line := ⟨[], none, 0⟩ } }

/-- R36, R87, R99: the group appended, its log entry written; the space that broke it is placed, the character that broke it BLOCKED. -/
theorem witness_groupAppend_after :
    let s := blockedAtGroup (.place (placed 7 (.glyph (glyph 5)))) []
    let u := blockedAtGroup (.retest (.space 9 640 960 1600)) [placed 6 (.glyph (glyph 5))]
    (after .groupAppend s).map (fun t => (t.composer.phase, t.composer.lineStart, t.bytes 0x3A5010 16))
        = some (.placing (placed 7 (.glyph (glyph 5))), 5, [3, 0, 0, 0, 0, 0, 0, 0, 0, 0, 0, 0, 0xC0, 3, 0, 0])
      ∧ (after .groupAppend u).map (fun t => (t.composer.phase, elementsOf t.composer.line.codes))
        = some (.reading, [.glyph (glyph 5), .space 640 960 1600])
      ∧ ((after .groupAppend u).bind fun t => t.composer.line.codes[1]?) =
        some ⟨9, { composition with ladder := 0 }, some (.space 640 960 1600), false, none, 0⟩ := by
  decide +kernel

/-- Codes read before a film code of an empty line: an indent that was clamped. -/
theorem witness_lead_leaves_conditions :
    let s := (reading [0x7A]).modComposer fun k =>
      { k with line := { k.line with codes := [⟨0, composition, none, true, none, 0x80⟩], conditions := 0x40 } }
    (after .markColumnTop s).map (·.composer.line) = some ⟨[], none, 0xC0⟩ := by
  decide +kernel

/-- A CUT ticket of a class in the Composer at a phase, with records in the ring. -/
def cutTicket (cls : Machine.Class) (phase : Phase) (records : Nat) : Entry × State :=
  let s := reading []
  let e := { entry with cls := cls, kind := .cut, toProof := false }
  (e, { s with
    flight := s.flight.set 0 (some e)
    store := { s.store with records := List.replicate records (record (.lead .mark)) }
    scanner := { s.scanner with state := if cls = .flash then .locked else .watch }
    composer := { s.composer with phase := phase, galleyContent := true } })

/-- R29, R40, R41: the FLASH-OPEN cut, with both destinations, then the CUT ticket's own; each takes one place of the ring. -/
theorem witness_cuts :
    let opening := (cutTicket .flash .openCut 15).2
    let flash := (cutTicket .flash .begin 15).2
    let routine := (cutTicket .routine .begin 15)
    after .groupAppend (cutTicket .flash .openCut 16).2 = some (cutTicket .flash .openCut 16).2
      ∧ after .groupAppend (cutTicket .flash .begin 16).2 = some (cutTicket .flash .begin 16).2
      ∧ (after .groupAppend opening).map (fun t => (t.store.records[15]?, t.composer.phase, t.composer.galleyContent))
        = some (some (record (.cut .flashOpen)), .begin, false)
      ∧ (after .groupAppend flash).map (fun t => (t.store.records[15]?, t.composer.phase, t.composer.galleyContent))
        = some (some { record (.cut .flash) with toProof := false }, .closeCut, false)
      ∧ routine.2.scanCanStart ∧ after .groupAppend routine.2 = some (State.settle { routine.2 with
        store := routine.2.store.appended routine.2.proofsOn [{ record (.cut .routine) with toProof := false }]
        flight := routine.2.flight.set 0 (some { routine.1 with outstanding := 1, finished := true })
        composer := { routine.2.composer with galleyContent := false, ticket := none, phase := .idle }
        scanner := routine.2.scanner.released }) := by
  decide +kernel

/-- The closing cut of a flash with all flight entries in use, and a Context Record of font 2 at 17 half-points, resume offset 0x0201. -/
def closing : State :=
  let s := directory ((cutTicket .flash .closeCut 15).2.modFonts fun c => { c with store := Vector.replicate 8 none })
  { s.storeBytes 0x3A0C60 [1, 3, 1, 2, 2, 17, 20, 24, 0x40, 6, 0, 0, 0, 0, 0, 1, 1] with
    flight := (Vector.replicate 8 (some { entry with slot := 1 })).set 0 (some { entry with finished := true }) }

/-- R41 to R43, R174: FLASH-CLOSE is appended, the scan passed, and the record read back: 16 half-points, set at 16, hyphenation on. -/
theorem witness_closing :
    (∀ j : Fin 8, closing.flight[j] ≠ none) ∧ closing.scanner.held = none ∧ closing.scanner.timerAtOne = false
      ∧ (after .groupAppend closing).map (fun t => (t.store.records[15]?, t.composer.ticket, t.composer.resumeOffset))
        = some (some (record (.cut .flashClose)), none, 0x0201)
      ∧ (after .groupAppend closing).map (·.composer.phase) = some (.loading ⟨2, 4, 0x0103, 0x3AE000, 0, .restore⟩)
      ∧ (after .groupAppend closing).map (·.composer.current)
        = some { composition with pointSize := 16, lens := 1, setSize := 16, hyphenation := true }
      ∧ (after .groupAppend closing).map (·.composer.line.conditions) = some 0x40 := by
  decide +kernel

/-- The closing cut of a flash in flight entry 1, with a FILED flash CUT ticket in turn in slot 31. -/
def chained : State :=
  let s := (cutTicket .flash .closeCut 15).2
  { s.storeBytes (s.slotAddr 31 0) [1, 2, 1, 1, 5] with
    flight := (Vector.replicate 8 none).set 1 (some { entry with outstanding := 1 })
    scanner := { s.scanner with nextFlash := 5 }, composer := { s.composer with ticket := some 1 } }

/-- R42: the flash-only scan takes it into flight entry 0, and it begins. -/
theorem witness_chain :
    (∀ k < 31, byteAt (chained.bytes (chained.slotAddr k 0) 6) 0 ≠ 1) ∧ chained.flight[(0 : Fin 8)] = none
      ∧ (after .groupAppend chained).map (fun t => (t.byte (t.slotAddr 31 0), t.scanner.nextFlash, t.composer.ticket, t.composer.phase))
        = some (2, 6, some 0, .begin)
      ∧ ((after .groupAppend chained).bind fun t => (t.flight[(0 : Fin 8)]).map fun f => (f.slot, f.cls, f.kind)) = some (31, .flash, .cut)
    := by
  decide +kernel

/-- The restored font's load at the end of a chain, with ticket 7 suspended in flight entry 0, or none. -/
def restoring (suspended : Option (Fin 8)) : State :=
  let s := loading.storeBytes 0x3A0C60 [1, 0]
  { s with
    scanner := { s.scanner with state := .locked }
    composer := { s.composer with
      phase := .loading ⟨2, 4, 0x0103, 0x3AE000, 0, .restore⟩, ticket := none, suspended := suspended, resumeOffset := 9 } }

/-- R43: Valid 0 is written; the ticket is resumed at offset 9, or the state is carried and a scan started. -/
theorem witness_restore :
    (restoring (some 0)).scanner.pendingFlag = false ∧ (restoring none).scanner.inFlight = false
      ∧ (after .widthTableLoad (restoring (some 0))).map
        (fun t => (t.bytes 0x3A0C60 2, t.composer.ticket, t.composer.lineStart, t.composer.readPosition, t.composer.phase))
        = some ([0, 0], some 0, 9, 9, .reading)
      ∧ (after .widthTableLoad (restoring (some 0))).map (fun t => (t.composer.suspended, t.scanner.state, t.composer.snapshot))
        = some (none, .watch, composition)
      ∧ (after .widthTableLoad (restoring none)).map (fun t => (t.composer.carried, t.composer.phase, t.scanner))
        = some (some composition, .idle, { (restoring none).scanner with state := .idle, inFlight := true }) := by
  decide +kernel

/-! ### The Measure Unit (spec 04) -/

/-- R67, R68, R69, R82, R83 at their bounds. -/
theorem test_measure_words :
    widthOf 30 20 = 1600 ∧ widthOf 1 1 = 3 ∧ widthOf 1 2 = 5 ∧ MeasureWord.ofTicks 32767 = .num 524272
      ∧ MeasureWord.ofTicks 32768 = .overPlus ∧ MeasureWord.add (.num 524287) (.num 1) = .overPlus
      ∧ MeasureWord.add (.num (-524288)) (.num (-1)) = .overMinus ∧ MeasureWord.neg (.num (-524288)) = .overPlus
      ∧ MeasureWord.tick (.num 288007) = 18000 ∧ MeasureWord.tick (.num 7) = 0 ∧ MeasureWord.tick (.num 8) = 1
      ∧ MeasureWord.exposable (.num 288008) = false ∧ rowsOf 65535 = 4096 := by
  decide +kernel

/-- A line of three words, its first space of 640, 960 and 1,600 fine, with a second space. -/
def words (second : Element) : List Element :=
  [.glyph (glyph 5), .space 640 960 1600, .glyph (glyph 6), second, .glyph (glyph 7)]

/-- Line settings with an effective measure in fine. -/
def settings (effective : Int) : Settings := ⟨24, 429, 0, 0, 0, 20, effective, 0⟩

/-- R74: an odd remainder goes to the first space on line 3 and to the last on line 4. -/
theorem witness_justification :
    let es := words (.space 640 960 1600)
    glyphsOf es ≠ [] ∧ tabular es = false ∧ fits es 6855 = true ∧ (countingSpaces es).length = 2
      ∧ (∀ x ∈ countingSpaces es, (x.2.1 : Int) + Int.fdiv 135 2 ≤ x.2.2) ∧ (6855 : Int) - exactOpt es = 135
      ∧ (settingOf es (settings 6855) .justify 3).spaces = [1028, 1027]
      ∧ (settingOf es (settings 6855) .justify 4).spaces = [1027, 1028] := by
  decide +kernel

/-- R74: at W_min = E = 5,504 fine a small space is pressed below its min of 64, and the line is TIGHT. -/
theorem test_tight :
    let es := words (.space 64 96 160)
    minWidth es = .num 5504 ∧ (settingOf es (settings 5504) .justify 3).spaces = [784, -80]
      ∧ (settingOf es (settings 5504) .justify 3).conditions = 2 := by
  decide +kernel

/-! ### Exposure and film (spec 06, spec 08, spec 09) -/

/-- R124, R125: a withdrawn record is skipped, and released when both cursors are past it; one without FILM is skipped. -/
theorem witness_record_skipped :
    let r := { record (.lead .mark) with withdrawn := true }
    let s := (storing .running (.lead .mark)).modStore fun l => { l with records := [r] }
    let u := s.modStore fun l => { l with proof := ⟨1, false⟩ }
    let v := s.modStore fun l => { l with records := [{ record (.lead .mark) with toFilm := false }] }
    s.nextForFilm r ∧ v.exposure.phase = .idle ∧ after .exposureTakeRecord s = some (s.modStore LineStore.filmPast).settle
      ∧ (after .exposureTakeRecord u).map (·.store) = some { u.store with records := [], film := ⟨0, false⟩, proof := ⟨0, false⟩ }
      ∧ (after .exposureTakeRecord v).map (·.store.film) = some ⟨1, false⟩ := by
  decide +kernel

/-- R151, R156: MARK sets the mark at 1,000 ticks; a CUT with no galley open is finished at once. -/
theorem witness_record_mark_and_closed_cut :
    let s := storing .running (.lead .mark)
    let u := (storing .running (.cut .routine)).modFilm fun f => { f with galleyOpen := false }
    s.nextForFilm (record (.lead .mark))
      ∧ after .exposureTakeRecord s = some (State.settle { s with
        store := s.store.filmPast, film := { s.film with mark := some 1000 }, exposure := s.exposure.taken .idle })
      ∧ after .exposureTakeRecord u = some (State.settle { u with
        store := u.store.filmPast, exposure := u.exposure.taken .idle }) := by
  decide +kernel

/-- The state of a film move just started, as the statement gives it. -/
def filmMoves (s : State) (supply n : Nat) (forward : Bool) (m : Movement) : State :=
  { s with
    store := s.store.filmHolds
    film := { s.film with supply := supply }
    motion := { s.motion with film := ⟨4, 10, 11, forward, n, n, true, .none⟩ }
    exposure := s.exposure.taken (.moving m) }

/-- R148, R150, R152: an ADVANCE of 8,400 ticks, all new film, is the most that 9,000 ticks of supply hold with the trailer. -/
theorem witness_record_advance :
    let s := storing .running (.lead (.advance 8400))
    s.film.position + 8400 - s.film.deepest + setup.trailer = s.film.supply ∧ s.pins.takeup = true
      ∧ after .exposureTakeRecord s = some (filmMoves s 600 8400 true (.lead 8400 8400 .advance)) := by
  decide +kernel

/-- R151, R156: a REVERSE to the very floor, and a CUT's run-out of the trailer. -/
theorem witness_record_reverse_and_cut :
    let s := storing .running (.lead (.reverse 1000))
    let u := storing .running (.cut .routine)
    s.film.deepest - 12000 + 1000 = s.film.position ∧ u.film.galleyOpen = true
      ∧ after .exposureTakeRecord s = some (filmMoves s 9000 1000 false (.back 1000 0))
      ∧ after .exposureTakeRecord u = some (filmMoves u 8400 600 true (.runOut 600 600 .record)) := by
  decide +kernel

/-- R113, R116: a TEXT record waits for the ID scan. -/
theorem witness_record_text :
    let s := storing .running (.text 240 [item 5] [(2, 0x0102)])
    s.fonts.confirmed = false ∧ (item 5).exposable = true
      ∧ after .exposureTakeRecord s = some { s with store := s.store.filmHolds, exposure := s.exposure.taken .mountWait } := by
  decide +kernel

/-- R132, R133: a homing move found and one failed, the other still moving; a channel that is not busy. -/
theorem witness_homing :
    homing.motion.carriage.homing = .moving ∧ homing.motion.turret.homing = .moving ∧ homing.motion.film.busy = false
      ∧ after (.motionComplete .carriage true) homing = some { homing with
        pins := { homing.pins with home := true }
        motion := { homing.motion with carriage := ⟨3, 9, 9, false, 20000, 0, false, .found⟩ }
        exposure := { homing.exposure with carriageAt := some 0 } }
      ∧ after (.motionComplete .turret false) homing = some { homing with
        motion := { homing.motion with turret := ⟨5, 12, 13, true, 3200, 0, false, .failed⟩ } }
      ∧ after (.motionComplete .film true) homing = some homing := by
  decide +kernel

/-- A record at step 4: its item at tick 10, the track selected and settled, the carriage and the turret in place. -/
def exposing (p : EsPhase) : State :=
  let s := storing .running (.text 240 [item 5] [(2, 0x0102)])
  { s with
    store := s.store.filmHolds
    fonts := { s.fonts with confirmed := true, mount := s.fonts.mount.set 6 ⟨some 0x0102, 0⟩ }
    drum := { s.drum with state := .running, nominal := some 446, markCount := 4 }
    exposure := { s.exposure with
      phase := p, tracks := [(2, 6)], carriageAt := some 10, turretAt := some 2, track := some 6, settled := true } }

/-- R132, R136: the carriage arrives from tick 4 while the turret turns. -/
theorem witness_carriage_move :
    let s := exposing .positioning
    let s := { s with
      motion := ⟨⟨3, 9, 9, true, 6, 6, true, .none⟩, MotionChannel.initial, ⟨5, 12, 13, true, 400, 400, true, .none⟩⟩
      exposure := { s.exposure with carriageAt := some 4 } }
    s.exposure.phase = .positioning ∧ s.motion.turret.busy = true
      ∧ after (.motionComplete .carriage false) s = some { s with
        motion := { s.motion with carriage := ⟨3, 9, 9, true, 6, 0, false, .none⟩ }
        exposure := { s.exposure with carriageAt := some 10 } } := by
  decide +kernel

/-- R149, R159: the move of an ADVANCE of 300 ticks, 300 of them new film, ends. -/
theorem witness_film_move :
    let s := filmMoves (storing .running (.lead (.advance 300))) 8700 300 true (.lead 300 300 .advance)
    s.nextForFilm (record (.lead (.advance 300))) ∧ s.motion.film.busy = true ∧ s.store.proof.passed = 0
      ∧ (after (.motionComplete .film false) s).map (fun t => (t.film.position, t.film.deepest, t.exposure.phase))
        = some (1300, 1300, .idle)
      ∧ ((after (.motionComplete .film false) s).bind fun t => (t.flight[(0 : Fin 8)]).map (·.depth)) = some 300 := by
  decide +kernel

/-- R140: at a nominal 446 the tolerance is 26: 472 is in step and 473 is not. -/
theorem witness_mark :
    inStepWith 446 472 ∧ inStepWith 446 420 ∧ ¬ inStepWith 446 473 ∧ ¬ inStepWith 446 419
      ∧ after (.mark 472 true) (turning .running 110) = some ((turning .running 110).modDrum fun d =>
        { d with markCount := 111, intervalCounter := 4095, markLevel := true, indexLevel := true })
      ∧ after (.mark 473 false) (turning .running 4) = some ((turning .running 4).modDrum fun d =>
        { d with markCount := 5, intervalCounter := 4095, markLevel := true, state := .syncing, qualifying := false })
      ∧ after (.mark 446 false) (turning .running 111) = some ((turning .running 111).modDrum fun d =>
        { d with intervalCounter := 4095, markLevel := true, state := .syncing, qualifying := false })
      ∧ after (.mark 0 false) (turning .stopped 110) = some ((turning .stopped 110).modDrum fun d =>
        { d with markCount := 111, intervalCounter := 4095, markLevel := true, state := .syncing, qualifying := false }) := by
  decide +kernel

/-- R139, R141: an index at count 111 is in step, at 110 not; it closes a qualifying revolution; before START the levels alone
are seen. -/
theorem witness_index :
    after (.index 446) (turning .syncing 111) = some ((turning .syncing 111).modDrum fun d =>
        { d with markCount := 0, intervalCounter := 4095, indexLevel := true, state := .running })
      ∧ after (.index 446) (turning .running 111) = some ((turning .running 111).modDrum fun d =>
        { d with markCount := 0, intervalCounter := 4095, indexLevel := true })
      ∧ after (.index 446) (turning .running 110) = some ((turning .running 110).modDrum fun d =>
        { d with markCount := 0, intervalCounter := 4095, indexLevel := true, state := .syncing })
      ∧ after (.index 446) ((turning .syncing 111).modDrum fun d => { d with qualifying := false })
        = some ((turning .syncing 111).modDrum fun d => { d with markCount := 0, intervalCounter := 4095, indexLevel := true })
      ∧ after (.index 0) (turning .stopped 111) = some ((turning .stopped 111).modDrum fun d =>
        { d with markCount := 0, intervalCounter := 4095, indexLevel := true, state := .syncing })
      ∧ after (.index 0) ((resting .stopped).modDrum fun d => { d with markLevel := true })
        = some ((resting .stopped).modDrum fun d => { d with indexLevel := true })
      ∧ after (.mark 0 true) State.reset = some (State.reset.modDrum fun d => { d with markLevel := true, indexLevel := true }) := by
  decide +kernel

/-- R114: marks 8 and 107 read bits 0 and 15 of the positions 0 and 7; an INDEX edge at count 110 is band data. -/
theorem witness_id_scan :
    let second := (turning .scanning 106).modDrum fun d => { d with secondRevolution := true }
    (after (.mark 446 true) (turning .scanning 7)).map (·.drum.readings) = some (#v[1, 0, 0, 0, 0, 0, 0, 0])
      ∧ (after (.mark 446 true) second).map (·.drum.readings) = some (#v[0, 0, 0, 0, 0, 0, 0, 0x8000])
      ∧ (after (.mark 446 false) (turning .scanning 7)).map (·.drum.readings) = some (#v[0, 0, 0, 0, 0, 0, 0, 0])
      ∧ after (.index 446) (turning .scanning 110) = some ((turning .scanning 110).modDrum fun d => { d with indexLevel := true })
      ∧ after (.index 446) ((turning .scanning 1).modDrum fun d => { d with markLevel := true })
        = some ((turning .scanning 1).modDrum fun d => { d with indexLevel := true }) := by
  decide +kernel

/-- R113 to R115: a due scan begins at the index that would make the drum RUNNING, or at the next one of a RUNNING drum; position 1 is
selected at mark 28; the next index begins the second revolution, and the one after it completes the scan. -/
theorem witness_id_scan_runs :
    let due := fun (d : DrumState) => (turning d 111).modFonts fun c => { c with confirmed := false }
    let began := fun (s : State) => some (s.modDrum fun d =>
      { d with state := .scanning, markCount := 0, intervalCounter := 4095, indexLevel := true, bandRead := true })
    let second := (due .scanning).modDrum fun d => { d with secondRevolution := true, readings := d.readings.set 2 0x0204 }
    after (.index 446) (due .syncing) = began (due .syncing) ∧ after (.index 446) (due .running) = began (due .running)
      ∧ (after (.mark 446 true) (turning .scanning 27)).map (fun t => (t.drum.trackOut, t.drum.markCount)) = some (1, 28)
      ∧ (after (.index 446) (due .scanning)).map (fun t => (t.drum.secondRevolution, t.drum.trackOut)) = some (true, 4)
      ∧ (after (.index 446) second).map (fun t =>
        (t.drum.state, t.fonts.confirmed, (t.fonts.mount[2]).strip, (t.fonts.mount[3]).strip)) = some (.running, true, some 0x0204, some 0) := by
  decide +kernel

/-- R113, R118: with the cover open no scan begins; it is due once the cover has closed. -/
theorem test_no_scan_with_the_cover_open :
    let uncovered := fun (d : DrumState) => { turning d 111 with
      pins := { (turning d 111).pins with coverOpen := true }, fonts := { (turning d 111).fonts with confirmed := false } }
    let next := fun (d : DrumState) (s : State) => some (s.modDrum fun x =>
      { x with state := d, markCount := 0, intervalCounter := 4095, indexLevel := true })
    after (.index 446) (uncovered .syncing) = next .running (uncovered .syncing)
      ∧ after (.index 446) (uncovered .running) = next .running (uncovered .running)
      ∧ ((after .coverClose (uncovered .running)).bind (after (.index 446))).map (·.drum.state) = some .scanning := by
  decide +kernel

/-- R140, R141, R142: the watch in each drum state. -/
theorem witness_drumWatch :
    after .drumWatch (turning .stopped 0) = some (turning .stopped 0)
      ∧ after .drumWatch (turning .syncing 4) = some ((turning .syncing 4).modDrum fun d =>
        { d with state := .stopped, intervalCounter := 0, qualifying := false })
      ∧ after .drumWatch ((turning .running 4).modDrum fun d => { d with markLevel := true, indexLevel := true })
        = some ((turning .running 4).modDrum fun d => { d with state := .stopped, intervalCounter := 0, qualifying := false })
      ∧ after .drumWatch ((turning .scanning 4).modDrum fun d => { d with bandRead := true })
        = some ((turning .scanning 4).modDrum fun d => { d with state := .stopped, intervalCounter := 0, qualifying := false })
      ∧ after .drumWatch (exposing (.flashing .awaiting)) = (let s := exposing (.flashing .awaiting)
        some { s with
          drum := { s.drum with state := .stopped, intervalCounter := 0 }
          exposure := { s.exposure with phase := .drumWait, drumTimer := 2000 } }) := by
  decide +kernel

/-- R142: DRUM WAIT lasts out its time. -/
theorem witness_drumWaitTimeout :
    let s := (exposing .drumWait).modExposure fun x => { x with drumTimer := 1 }
    s.pins.coverOpen = false ∧ s.desk.controller = .running ∧ after .drumWaitTimeout (exposing .idle) = some (exposing .idle)
      ∧ (after .drumWaitTimeout s).map (fun t => (t.desk.controller, t.desk.cause, t.desk.events, t.notices.photoUnit.inFlight))
        = some (.halted, .drum, 4, some .drum) := by
  decide +kernel

/-- R135, R136: the track settles with all else in place. -/
theorem witness_trackSettled :
    let s := (exposing .positioning).modExposure fun x => { x with settled := false }
    s.nextForFilm (record (.text 240 [item 5] [(2, 0x0102)])) ∧ s.exposure.carriageAt = some (item 5).tick
      ∧ after .trackSettled s = some ((exposing (.flashing .awaiting)).modExposure fun x => { x with settled := true })
      ∧ after .trackSettled (exposing .positioning) = some (exposing .positioning) := by
  decide +kernel

/-- R137: mark 5 starts the flash delay of an item of code 5; its end fires the flash through position 6. -/
theorem witness_flash :
    let s := exposing (.flashing .awaiting)
    let u := exposing (.flashing .delay)
    s.exposure.lampTimer = 0 ∧ (item 5).code = s.drum.markCount + 1
      ∧ after (.mark 446 false) s = some { s with
        drum := { s.drum with intervalCounter := 4095, markLevel := true, markCount := 5 }
        exposure := { s.exposure with phase := .flashing .delay, flashTimer := 40 } }
      ∧ after .flashDelayExpiry u = some { u with
        fonts := { u.fonts with flashCount := 1, mount := u.fonts.mount.set 6 ⟨some 0x0102, 1⟩ }
        exposure := { u.exposure with phase := .flashing .pulse, begun := true, flashTimer := 120 } }
      ∧ after .flashDelayExpiry s = some s := by
  decide +kernel

/-- R130, R138, R159: the last flash of a record, and the lamp. -/
theorem witness_flashEnd :
    let s := exposing (.flashing .pulse)
    s.store.proof.passed = 0 ∧ after .flashEnd s = some (State.settle { s with
        store := s.store.filmPast
        flight := s.flight.set 0 (some
          { entry with finished := true, outstanding := 1, firstGalley := 4, lastGalley := 4 })
        exposure := { s.exposure.rested with lampTimer := 500 } })
      ∧ after .flashEnd (exposing .positioning) = some (exposing .positioning)
      ∧ after .lampReady ((exposing .idle).modExposure fun x => { x with lampTimer := 1 }) = some (exposing .idle) := by
  decide +kernel

/-- R112, R118: the cover opens on an idle part, and closes. -/
theorem witness_cover :
    let s := resting .running
    let opened := { s with
      pins := { s.pins with coverOpen := true }, exposure := { s.exposure with coverSeen := true } }
    after .coverOpen s = some (opened.notice .photoUnit) ∧ after .coverClose s = some s ∧ after .coverOpen opened = some opened
      ∧ (after .coverOpen s).map (·.notices.photoUnit.inFlight) = some (some .coverOpen)
      ∧ after .coverClose opened = some (State.notice .photoUnit { opened with pins := s.pins }) := by
  decide +kernel

/-- R143: a line begun is spoiled. -/
theorem witness_cover_spoils :
    let s := (exposing .positioning).modExposure fun x => { x with begun := true }
    s.drum.state ≠ .scanning ∧ s.motion.carriage.busy = false
      ∧ after .coverOpen s = some (State.notice .photoUnit { s with
        pins := { s.pins with coverOpen := true }
        fonts := { s.fonts with confirmed := false }
        flight := s.flight.set 0 (some ({ entry with finished := true, outstanding := 1 }.report 3 0x400))
        exposure := { s.exposure with phase := .mountWait, mountNext := .spoilGap, begun := false } }) := by
  decide +kernel

/-- R154: an insertion while STOPPED, at rest, and in a wait for film that it does not answer; a removal. -/
theorem witness_cassette :
    let s := resting .running
    let present := { s.pins with cassette := true }
    let waits := (storing .running (.lead (.advance 30000))).modExposure fun x => { x with phase := .needWait (.advance 30000) }
    after .cassetteInsertion (resting .stopped) = some { resting .stopped with
        pins := present, film := { (resting .stopped).film with inserted := true } }
      ∧ after .cassetteInsertion s = some { s with pins := present, film := { s.film with supply := 20000 } }
      ∧ 20000 < waits.film.need setup 30000
      ∧ after .cassetteInsertion waits = some (State.notice .film { waits with
        pins := present, film := { waits.film with supply := 20000, filmOut := true } })
      ∧ (after .cassetteInsertion (s.modFilm fun f => { f with filmOut := true })).map (·.notices.film.inFlight) = some (some .none)
      ∧ after .cassetteInsertion { s with pins := present } = some { s with pins := present }
      ∧ after .cassetteRemoval { s with pins := present } = some s := by
  decide +kernel

/-- R9, R133: the second homing ends: both found, with the film state known and unknown; or one of them failed. -/
theorem witness_homing_ends :
    let s := { homing with motion := { homing.motion with carriage := ⟨3, 9, 9, false, 20000, 0, false, .found⟩ } }
    let known := s.modFilm fun f => { f with unknown := false }
    let failed := { s with motion := { s.motion with carriage := { s.motion.carriage with homing := .failed } } }
    let ended := { s with
      pins := { s.pins with turretIndex := true }
      motion := { s.motion with
        carriage := ⟨3, 9, 9, false, 20000, 0, false, .none⟩, turret := ⟨5, 12, 13, true, 3200, 0, false, .none⟩ }
      exposure := { s.exposure with turretAt := some 0 } }
    s.film.unknown = true ∧ after (.motionComplete .turret true) s = some { ended with
        desk := { s.desk with startStep := some .clearingCut }, film := { s.film with knife := true, knifeTimer := 500 } }
      ∧ (after (.motionComplete .turret true) known).map (fun t => (t.desk.startStep, t.film.knife, t.notices.film.inFlight))
        = some (some .notices, false, some .none)
      ∧ after (.motionComplete .turret true) failed = some { ended with
        desk := { s.desk with controller := .halted, cause := .home, result := .accepted, busy := none, events := 12 } }
      ∧ (after (.motionComplete .turret false) s).map (fun t => (t.desk.cause, t.exposure.turretAt)) = some (.home, none) := by
  decide +kernel

/-- R116, R143: the cover opens again on a record whose check passed while HALTED; it waits for a check at the next scan. -/
theorem witness_cover_reopens :
    let s := (exposing .mountReady).modDesk fun d => { d with controller := .halted }
    s.drum.state ≠ .scanning ∧ after .coverOpen s = some (State.notice .photoUnit { s with
      pins := { s.pins with coverOpen := true }
      fonts := { s.fonts with confirmed := false }
      exposure := { s.exposure with phase := .mountWait } }) := by
  decide +kernel

/-- R149, R152, R154: an ADVANCE's wait in FILM WAIT, the galley closed: the new cassette holds its need of 400 + 300 + 600, and the
leader is drawn, or waits for the take-up; with a leader of 0 the lead itself is. -/
theorem witness_cassette_answers :
    let s := { storing .running (.lead (.advance 300)) with film := ⟨0, 0, false, 4, none, 5, false, false, true, false, 0⟩ }
    let s := s.modExposure fun x => { x with phase := .needWait (.advance 300) }
    let present := { s.pins with cassette := true }
    let halted := s.modDesk fun d => { d with controller := .halted }
    let away := s.modPins fun p => { p with takeup := false }
    let bare := s.modDesk fun d => { d with setup := { setup with leader := 0 } }
    let leads := EsPhase.moving (.lead 300 300 .advance)
    s.film.galleyOpen = false ∧ s.pins.takeup = true ∧ s.film.need setup 300 = 1300
      ∧ after .cassetteInsertion s = some (State.notice .film { s with
        pins := present
        film := { s.film with supply := 19600, filmOut := false, galleyOpen := true }
        motion := { s.motion with film := ⟨4, 10, 11, true, 400, 400, true, .none⟩ }
        exposure := { s.exposure with phase := .moving (.leader 400 300 .advance) } })
      ∧ (after .cassetteInsertion away).map (fun t => (t.exposure.phase, t.film.supply))
        = some (.takeupWait (.leader 400 300 .advance), 20000)
      ∧ (after .cassetteInsertion bare).map (fun t => (t.exposure.phase, t.film.supply)) = some (leads, 19700)
      ∧ after .cassetteInsertion halted = some (State.notice .film { halted with
        pins := present, film := { s.film with supply := 20000, filmOut := false } }) := by
  decide +kernel

/-- R148, R155: the take-up leaves and returns, and a movement that waited starts. -/
theorem witness_takeup :
    let s := resting .running
    let away := { s with pins := { s.pins with takeup := false } }
    let waits := { away with exposure := { s.exposure with phase := .takeupWait (.lead 300 200 .advance) } }
    let seated := State.notice .film { waits with pins := s.pins }
    after .takeupAbsent s = some (State.notice .film away) ∧ (away.noticeShown .film = .takeupAbsent)
      ∧ after .takeupPresent away = some (State.notice .film s)
      ∧ after .takeupPresent waits = some { seated with
        film := { s.film with supply := s.film.supply - 200 }
        motion := { s.motion with film := ⟨4, 10, 11, true, 300, 300, true, .none⟩ }
        exposure := { s.exposure with phase := .moving (.lead 300 200 .advance) } }
      ∧ (after .takeupPresent (waits.modExposure fun x => { x with phase := .takeupWait (.leader 400 300 .advance) })).map
        (fun t => (t.exposure.phase, t.motion.film.steps)) = some (.moving (.leader 400 300 .advance), 400) := by
  decide +kernel

/-- The knife of a CUT record, asserted. -/
def cutting : State :=
  let s := storing .running (.cut .routine)
  { s with
    store := s.store.filmHolds, exposure := { s.exposure with phase := .knife .record }
    film := { s.film with knife := true, knifeTimer := 500, mark := some 3, galleyNumber := 65535 } }

/-- R156, R157: the cut completes, the galley number going from 65,535 to 1; or its 500 ms run out. -/
theorem witness_knife :
    cutting.nextForFilm (record (.cut .routine)) ∧ cutting.store.proof.passed = 0
      ∧ after .knifeDone cutting = some (State.settle { cutting with
        film := ⟨0, 0, false, 1, none, 9000, false, false, false, false, 0⟩
        store := cutting.store.filmPast
        flight := cutting.flight.set 0 (some
          { entry with finished := true, outstanding := 1, firstGalley := 65535, lastGalley := 65535 })
        exposure := cutting.exposure.rested })
      ∧ after .knifeTimeout cutting = some { cutting with
        film := { cutting.film with knife := false, knifeTimer := 0 }
        exposure := { cutting.exposure with phase := .knifeHeld .record }
        desk := { cutting.desk with controller := .halted, cause := .knife, events := 4 } }
      ∧ after .knifeDone (resting .running) = some (resting .running) := by
  decide +kernel

/-- Ticket 7 with one character in its line, an item of the pool drawn for it, and a word space waiting. -/
def building : State :=
  ((withLine [.glyph (glyph 5)] (reading [0x70])).modStore fun l => { l with free := 1535 }).setPending [.wordSpace]

/-- The premises of the laws of the pool and of the film, in a part at work, with a step that answers a next state. -/
theorem witness_pool_and_film :
    building.composerLaw ∧ building.poolLaw ∧ cutting.transportLaw ∧ cutting.filmLaw
      ∧ (match step building with | .next t => t.composer.readPosition == 1 && t.store.free == 1535 | _ => false) = true
      ∧ (match step (cutting.setPending [.knifeDone]) with | .next t => t.film.galleyNumber == 1 | _ => false) = true := by
  unfold State.composerLaw State.poolLaw State.transportLaw State.filmLaw
  refine ⟨⟨(fun h => nomatch h), fun h => absurd rfl h, (fun h => nomatch h), ?_, rfl⟩, rfl, ⟨?_, ?_, ?_, rfl, (fun _ h => nomatch h), (fun _ h => nomatch h)⟩,
    ⟨?_, ?_⟩, ?_, ?_⟩
  · rintro (⟨_, _, h⟩ | ⟨_, h⟩) <;> exact nomatch h
  all_goals decide +kernel

/-- R158: START's clearing cut. -/
def clearing : State :=
  let s := resting .stopped
  { s with
    desk := { s.desk with busy := some .start, startStep := some .clearingCut }
    film := { s.film with knife := true, knifeTimer := 500 } }

/-- No notice write is in flight during it. -/
theorem witness_clearing_notices (o : Owner) : (clearing.notices.writer o).inFlight = none := by cases o <;> rfl

/-- R9, R158: the clearing cut done: galley 1, the film state known, and the notice records in flight; or START fails. -/
theorem witness_clearing_cut :
    (after .knifeDone clearing).map (·.film) = some ⟨0, 0, false, 1, none, 0, false, false, false, false, 0⟩
      ∧ (after .knifeDone clearing).map (fun t => (t.desk.startStep, t.notices.photoUnit.inFlight, t.notices.film.inFlight,
        t.notices.proof.inFlight)) = some (some .notices, some .none, some .none, some .none)
      ∧ after .knifeTimeout clearing = some { clearing with
        film := { clearing.film with knife := false, knifeTimer := 0 }
        desk := { clearing.desk with
          controller := .halted, cause := .knife, result := .accepted, busy := none, events := 12 } } := by
  decide +kernel

/-! ### The proof and the notices (spec 10, spec 01) -/

/-- R124, R161, R171: records skipped, passed while dropping, and an ADVANCE of 8 ticks, one row. -/
theorem witness_proofTakeRecord :
    let s := storing .running (.lead (.advance 8))
    let gone := s.modStore fun l => { l with records := [{ record (.lead (.advance 8)) with withdrawn := true }] }
    let dropping := s.modProof fun p => { p with dropping := true }
    let off := s.modDesk fun d => { d with glyphsGiven := false }
    s.proofsOn = true ∧ s.nextForProof (record (.lead (.advance 8))) ∧ off.proofsOn = false
      ∧ after .proofTakeRecord s = some (State.settle { s with
        store := s.store.proofPast, proof := { s.proof with baseline := 13 } })
      ∧ after .proofTakeRecord gone = some (gone.modStore LineStore.proofPast).settle
      ∧ after .proofTakeRecord dropping = some (State.settle { dropping with
        store := dropping.store.proofPast
        flight := dropping.flight.set 0 (some ({ entry with finished := true, outstanding := 1 }.report 3 0x2000)) })
      ∧ after .proofTakeRecord off = some off := by
  decide +kernel

/-- Band 3 being sent after 36 rows of white paper: one advance pair, and 2,307 bytes in all. -/
def sending (sent : Nat) (busy : Bool) : State :=
  let s := resting .running
  { s with
    pins := { s.pins with pbusy := busy }
    proof := { s.proof with
      printerRow := 12, bandA := { Band.initial with state := .printing 3 }, sending := some ⟨3, 36, sent, false, 30⟩
      timer := if busy then 30 else 0 } }

/-- R167, R168: the advance count, a byte of the band that raises PBUSY, the last byte, and no byte. -/
theorem witness_printerByte :
    (after (.printerByte false) (sending 1 false)).map (fun t => (t.proof.printerRow, t.proof.port, t.proof.timer))
        = some (48, 0xB1, 0)
      ∧ (after (.printerByte true) (sending 0 false)).map (fun t => (t.proof.printerRow, t.proof.port, t.proof.timer))
        = some (12, 36, 30)
      ∧ (after (.printerByte false) (sending 2305 false)).map (·.proof.sending) = some (some ⟨3, 36, 2306, false, 30⟩)
      ∧ after (.printerByte false) (sending 2306 false) = some ((sending 2306 false).modProof fun p =>
        { p with printerRow := 64, bandA := Band.initial, sending := none })
      ∧ after (.printerByte false) (sending 5 true) = some (sending 5 true)
      ∧ after (.printerByte false) (resting .running) = some (resting .running) := by
  decide +kernel

/-- A TEXT record with CLIPPED among its conditions, of an item of code 5 at column 10 and one that is not exposable, before the proof
cursor; the glyph's rows are the bytes 1 to 12. -/
def drawing : State :=
  let s := storing .running (.text 360 [{ item 5 with position := .num 2560, tick := 160 }, { item 9 with position := .void }] [])
  { s with
    store := { s.store with records := s.store.records.map fun r => { r with conditions := 1 } }
    proof := { s.proof with glyphs := List.replicate 60 0 ++ (List.range 12).map fun n => BitVec.ofNat 8 (n + 1) } }

/-- R161, R163 to R165: the baseline rises 23 rows to 35; glyph row 0 is row 26, the tenth of band 1 in A, and glyph row 6 row 32, the
first of band 2 in B; rows 26 to 37 are inverted from column 10 to column 17. -/
theorem witness_proof_text :
    drawing.proofsOn = true ∧ drawing.proof.bandA.state = .free ∧ drawing.proof.bandB.state = .free
      ∧ (after .proofTakeRecord drawing).map (fun t => (t.proof.baseline, t.store.proof, t.proof.bandA.state, t.proof.bandB.state))
        = some (35, ⟨1, false⟩, .opened 1, .opened 2)
      ∧ (after .proofTakeRecord drawing).map (fun t => (t.proof.bandA.ink[9], t.proof.bandA.ink[10], t.proof.bandA.ink[15]))
        = some (0, 1024, 6144)
      ∧ (after .proofTakeRecord drawing).map (fun t => (t.proof.bandB.ink[0], t.proof.bandB.ink[5], t.proof.bandB.ink[6]))
        = some (7168, 12288, 0)
      ∧ (after .proofTakeRecord drawing).map (fun t => (t.proof.bandA.invert[9], t.proof.bandA.invert[10], t.proof.bandB.invert[5]))
        = some (0, 261120, 261120)
      ∧ (after .proofTakeRecord drawing).map (fun t => t.proof.bandB.invert[6]) = some 0 := by
  decide +kernel

/-- R162, R166, R167: a CUT at baseline 11 draws rows 14 to 16 in bands 0 and 1, rises to row 60, and band 0 is sent; with both buffers
taken it waits, its record in hand. -/
theorem witness_proof_cut :
    let s := (storing .running (.cut .routine)).modProof fun p => { p with baseline := 11 }
    let busy := s.modProof fun p =>
      { p with
        bandA := { Band.initial with state := .printing 3 }, bandB := { Band.initial with state := .ready 4 }
        sending := some ⟨3, 36, 5, false, 30⟩ }
    (after .proofTakeRecord s).map (fun t => (t.proof.baseline, t.proof.bandA.state, t.proof.bandB.state, t.proof.port))
        = some (60, .printing 0, .ready 1, 0xB1)
      ∧ (after .proofTakeRecord s).map (fun t => (t.proof.bandA.ink[13], t.proof.bandA.ink[15], t.proof.bandB.ink[0], t.proof.bandB.ink[1]))
        = some (0, BitVec.allOnes 1152, BitVec.allOnes 1152, 0)
      ∧ (after .proofTakeRecord s).map (·.proof.sending) = some (some ⟨0, 0, 0, false, 30⟩)
      ∧ (after .proofTakeRecord busy).map (fun t => (t.proof.drawing, t.store.proof))
        = some (some ⟨[.solid [3, 4, 5], .cutRise], false⟩, ⟨0, true⟩) := by
  decide +kernel

/-- R162, R166, R171: the separator of a TO MARK at baseline 12, row 15 solid and its band sent as the baseline rises to 26; and the one
due before a MARK at baseline 20, row 23 solid and its band still open. -/
theorem witness_proof_separator :
    let due := (storing .running (.lead .mark)).modProof fun p => { p with separatorDue := true, baseline := 20 }
    (after .proofTakeRecord (storing .running (.lead .toMark))).map
        (fun t => (t.proof.baseline, t.proof.bandA.state, t.proof.bandA.ink[15], t.proof.bandA.ink[14]))
      = some (26, .printing 0, BitVec.allOnes 1152, 0)
      ∧ (after .proofTakeRecord (storing .running (.lead .toMark))).map (fun t => (t.proof.sending, t.proof.port))
        = some (some ⟨0, 0, 0, false, 30⟩, 0xB1)
      ∧ (after .proofTakeRecord due).map (fun t => (t.proof.baseline, t.proof.separatorDue, t.proof.bandA.state))
        = some (34, false, .opened 1)
      ∧ (after .proofTakeRecord due).map (fun t => (t.proof.bandA.ink[7], t.proof.sending)) = some (BitVec.allOnes 1152, none) := by
  decide +kernel

/-- R167: column 2 of a band: ink in rows 0 and 9, and invert in rows 9 and 15; mirrored, column 1,149 takes its place. -/
theorem witness_column_bytes :
    let band : Band := ⟨.printing 3, (Plane.clear.set 0 4).set 9 4, (Plane.clear.set 9 4).set 15 4⟩
    let s := fun (n : Nat) (mirror : Bool) => (sending n false).modProof fun p =>
      { p with bandA := band, sending := some ⟨3, 36, n, mirror, 30⟩ }
    (after (.printerByte false) (s 6 false)).map (·.proof.port) = some 1
      ∧ (after (.printerByte false) (s 7 false)).map (·.proof.port) = some 0x80
      ∧ (after (.printerByte false) (s 8 false)).map (·.proof.port) = some 0
      ∧ (after (.printerByte true) (s (6 + 2 * 1147) true)).map (fun t => (t.proof.port, t.proof.timer)) = some (1, 30)
      ∧ (after (.printerByte false) ((s 0 false).modProof fun p => { p with sending := some ⟨3, 300, 2, false, 30⟩ })).map (·.proof.port)
        = some 45 := by
  decide +kernel

/-- R170: the printer timer runs out in a PRINTER WAIT. -/
theorem witness_proofDrop :
    (sending 5 true).proof.drawing = none ∧ after .proofDrop (sending 5 false) = some (sending 5 false)
      ∧ after .proofDrop (sending 5 true) = some (((sending 5 true).modProof fun p =>
        { p with printerRow := 64, bandA := Band.initial, sending := none, timer := 0, dropping := true }).notice .proof)
      ∧ (after .proofDrop (sending 5 true)).map (·.notices.proof.inFlight) = some (some .proofDropping) := by
  decide +kernel

/-- R169, R171: the printer's lines, watched and not. -/
theorem witness_printer_lines :
    let s := (resting .running).modProof fun p => { p with dropping := true }
    let off := s.modDesk fun d => { d with glyphsGiven := false }
    s.proofsOn = true ∧ off.proofsOn = false
      ∧ after .printerFault s = some (State.notice .proof { s with
        pins := { s.pins with pfault := true }, proof := { s.proof with printer := true } })
      ∧ after .printerBusyTimeout off = some { off with pins := { off.pins with pbusy := true, busyLong := true } }
      ∧ after .printerReady s = some (State.notice .proof { s with
        proof := { s.proof with dropping := false, separatorDue := true } })
      ∧ (after .printerFault (sending 5 false)).map (·.proof.timer) = some 30 := by
  decide +kernel

/-- R132, R133: RESET stops a carriage that has left home: HOME is asserted there or not, as it may be; with the carriage at rest at home it
stays asserted, and so does TURRET INDEX with the turret at rest. -/
theorem test_reset_stops_a_move_from_home :
    let s := { resting .halted with pins := { (resting .halted).pins with home := true, turretIndex := true } }
    let moving := s.modMotion fun m => { m with carriage := { m.carriage with busy := true, counter := 40 } }
    (after (.reset 0) moving).map (·.pins.home) = some (Config.homeLevel 0)
      ∧ (after .powerOn moving).map (·.pins.home) = some (Config.homeLevel 0)
      ∧ (after (.reset 0) moving).map (fun t => (t.pins.turretIndex, t.freeCounter)) = some (true, 1)
      ∧ (after (.reset 0) s).map (fun t => (t.pins.home, t.freeCounter)) = some (true, 0) :=
  ⟨rfl, rfl, rfl, rfl⟩

/-- R20: with nothing written yet, the drum becoming RUNNING and the printer ready write nothing where no condition stood. -/
theorem test_no_condition_no_notice :
    let s := { turning .syncing 111 with notices := Notices.initial, desk := (resting .halted).desk }
    let drum := s.modNotices fun n => { n with drum := true }
    (after (.index 446) s).map (fun t => (t.drum.state, t.notices.photoUnit.inFlight)) = some (.running, none)
      ∧ (after (.index 446) drum).map (fun t => (t.drum.state, t.notices.photoUnit.inFlight)) = some (.running, some .none)
      ∧ (after .printerReady s).map (·.notices.proof.inFlight) = some none := by
  decide +kernel

/-- R20: a record's write begins where it would change, and not otherwise. -/
theorem witness_notice :
    let s := resting .running
    let stands := s.modNotices fun n => { n with film := ⟨some .none, none, false⟩ }
    stands.noticeStands .film ∧ ¬ s.noticeStands .film ∧ stands.notice .film = stands ∧ s.noticeSince .film s = s
      ∧ s.noticeSince .film { s with film := { s.film with filmOut := true } } = s.notice .film
      ∧ (s.notice .film).notices.film = ⟨none, some .none, false⟩
      ∧ ({ s with pins := { s.pins with coverOpen := true }, notices := { s.notices with drum := true } } : State).noticeShown
        .photoUnit = .coverOpen := by
  decide +kernel

end Sys2Proof.Tests
end

section
/-! The DESKBASE register (R1): what a write of it does, what it reads as, the addresses it gives, and that the RESET command keeps it. -/

namespace Sys2Proof

@[simp] theorem hiByte_half (lo hi : Byte) : hiByte (half lo hi) = hi := by
  simp only [hiByte, half]
  exact BitVec.extractLsb'_append_eq_left

end Sys2Proof

namespace Sys2Proof.Machine

/-! ### Writes, reads and addresses -/

theorem exec_deskbaseWrite (v : Half) (s : State) : exec (.deskbaseWrite v) s = .next (s.writeDeskbase v) := rfl

theorem State.writeDeskbase_accepted (v : Half) (s : State) (hc : s.desk.controller = .stopped) (hb : s.desk.busy = none) :
    s.writeDeskbase v = s.modDesk fun d => { d with base := hiByte v } :=
  if_pos ⟨hc, hb⟩

theorem State.writeDeskbase_ignored (v : Half) (s : State) (h : s.desk.controller ≠ .stopped ∨ s.desk.busy ≠ none) :
    s.writeDeskbase v = s :=
  if_neg (not_and_or.2 h)

theorem State.readRegister_deskbase (s : State) : s.readRegister .deskbase = half 0 s.desk.base := rfl

/-- Section 2.1: no carry leaves the offset, so the window is the 64 KB that DESKBASE heads. -/
theorem State.deskAddr_toNat (s : State) (offset : Half) :
    (s.deskAddr offset).toNat = s.desk.base.toNat * 65536 + offset.toNat := by
  calc (s.deskAddr offset).toNat
      = s.desk.base.toNat <<< 16 ||| offset.toNat := BitVec.toNat_append ..
    _ = s.desk.base.toNat <<< 16 + offset.toNat := (Nat.shiftLeft_add_eq_or_of_lt offset.isLt _).symm
    _ = s.desk.base.toNat * 65536 + offset.toNat := by rw [Nat.shiftLeft_eq]

/-! ### The RESET command (R16) -/

theorem exec_reset (operand : Byte) (s : State) : exec (.reset operand) s = .next s.resetWrite := rfl

/-- A refusal writes the result field and EVENTS alone, so a COMMAND write keeps DESKBASE where the command taken keeps it. -/
theorem State.commandWrite_desk_base (taken : Bool) (run : State → State) (s : State)
    (h : (run s).desk.base = s.desk.base) : (s.commandWrite taken run).desk.base = s.desk.base := by
  unfold State.commandWrite
  split
  · rfl
  · split
    · exact h
    · rfl

@[simp] theorem State.resetBlocks_desk (s : State) : s.resetBlocks.desk = s.desk := rfl

theorem State.resetCommand_desk_base (s : State) : s.resetCommand.desk.base = s.desk.base := by
  simp [State.resetCommand]

theorem State.resetWrite_desk_base (s : State) : s.resetWrite.desk.base = s.desk.base :=
  s.commandWrite_desk_base true State.resetCommand s.resetCommand_desk_base

/-! ### The rule -/

/-- Settles O13 (R1), a clause by each of the lemmas above; power-on is the reset value itself. -/
theorem deskbaseWritesAreAcceptedWhileStopped : Obligations.DeskbaseWritesAreAcceptedWhileStopped := by
  unfold Obligations.DeskbaseWritesAreAcceptedWhileStopped
  refine ⟨?accepted, ?ignored, State.readRegister_deskbase, State.deskAddr_toNat, rfl, ?reset⟩
  case accepted =>
    intro s upper lower hc hb
    rw [exec_deskbaseWrite, s.writeDeskbase_accepted _ hc hb, hiByte_half]
  case ignored =>
    intro s v h
    rw [exec_deskbaseWrite, s.writeDeskbase_ignored v h]
  case reset =>
    intro s t operand h
    rw [exec_reset] at h
    obtain rfl := Host.Outcome.next.inj h
    exact s.resetWrite_desk_base

end Sys2Proof.Machine
end

section
/-! Measure words (R69, R71, R82): how they are added and negated, what a word that is no NUM answers, and the carriage tick of an
exposable position. -/

namespace Sys2Proof.Machine.MeasureWord

/-! ### Addition -/

@[simp] theorem void_add (x : MeasureWord) : add .void x = .void := rfl

theorem add_num_num (x y : Int) : add (.num x) (.num y) = ofSum (x + y) := rfl

/-- A sum of two NUM words is that of their values, and every other cell of R69's table is a constant. -/
theorem add_comm (x y : MeasureWord) : x.add y = y.add x := by
  cases x with
  | num x =>
    cases y with
    | num y => rw [add_num_num, add_num_num, Int.add_comm]
    | overPlus | overMinus | void => rfl
  | overPlus | overMinus | void => cases y <;> rfl

theorem overPlus_add {x : MeasureWord} (h : x = .overPlus ∨ ∃ n, x = .num n) : add .overPlus x = .overPlus := by
  obtain rfl | ⟨n, rfl⟩ := h <;> rfl

theorem overMinus_add {x : MeasureWord} (h : x = .overMinus ∨ ∃ n, x = .num n) : add .overMinus x = .overMinus := by
  obtain rfl | ⟨n, rfl⟩ := h <;> rfl

/-! ### Negation -/

theorem ofSum_of_inRange {x : Int} (hlo : -524288 ≤ x) (hhi : x ≤ 524287) : ofSum x = .num x := by
  rw [ofSum, if_neg (by omega), if_neg (by omega)]

/-- NUM is not symmetric about 0, so its lowest value is the one whose negation is no NUM. -/
theorem neg_num {x : Int} (hlo : -524288 < x) (hhi : x ≤ 524287) : neg (.num x) = .num (-x) :=
  ofSum_of_inRange (by omega) (by omega)

/-! ### The carriage tick -/

theorem exposable_num_iff (x : Int) : exposable (.num x) = true ↔ 0 ≤ x ∧ x ≤ 288007 := decide_eq_true_iff

/-- R82's quotient is not negative in the exposable range, so the tick is its whole value. -/
theorem tick_num {x : Int} (hlo : 0 ≤ x) (hhi : x ≤ 288007) : (tick (.num x) : Int) = (x + 8) / 16 := by
  have htick : tick (.num x) = ((x + 8) / 16).toNat := if_pos ((exposable_num_iff x).2 ⟨hlo, hhi⟩)
  rw [htick, Int.toNat_of_nonneg (by omega)]

end Sys2Proof.Machine.MeasureWord

namespace Sys2Proof.Machine

/-! ### The fit test -/

theorem fits_iff (es : List Element) (effective : Int) :
    fits es effective = true ↔ ∃ w, minWidth es = .num w ∧ w ≤ effective := by
  unfold fits
  split
  next w hw => simp [hw]
  next hnum => simpa using fun w hw => absurd hw (hnum w)

theorem fits_eq_false_of_not_num {es : List Element} (effective : Int) (h : ∀ n, minWidth es ≠ .num n) :
    fits es effective = false := by
  rw [← Bool.not_eq_true, fits_iff]
  rintro ⟨w, hw, -⟩
  exact h w hw

/-! ### The rules -/

/-- Settles O46 (R69, R71): the table of sums and the negations by the lemmas above, the constant cells by their definition. -/
theorem measureWordsAreAddedAndNegated : Obligations.MeasureWordsAreAddedAndNegated := by
  unfold Obligations.MeasureWordsAreAddedAndNegated
  exact ⟨MeasureWord.add_comm, MeasureWord.void_add, fun _ => MeasureWord.overPlus_add, fun _ => MeasureWord.overMinus_add, rfl,
    MeasureWord.add_num_num, fun _ => MeasureWord.neg_num, rfl, rfl, rfl, rfl,
    fun _ effective => fits_eq_false_of_not_num effective, rfl, rfl, rfl⟩

/-- Settles O47 (R82): the tick is the floor of (x + 8) ÷ 16, and the bounds are those of a quotient and its remainder. -/
theorem carriageTickKeepsTheLawOfEscapement : Obligations.CarriageTickKeepsTheLawOfEscapement := by
  unfold Obligations.CarriageTickKeepsTheLawOfEscapement
  refine ⟨?tick, fun _ _ => rfl⟩
  intro x hlo hhi t
  have ht : (t : Int) = (x + 8) / 16 := MeasureWord.tick_num hlo hhi
  rw [Int.fdiv_eq_ediv_of_nonneg _ (by decide)]
  exact ⟨ht, by omega, by omega, by omega⟩

end Sys2Proof.Machine
end

section
/-! What the operations of the model keep. One relation says it for all of them: `Keeps photo composer s t` holds between a state and what an
operation makes of it, and composes along a run of operations. Its flags say which side of the machine the operation leaves alone: the photo-unit's
(`photo`) or the Ticket Scanner's and the Composer's (`composer`). The whole-machine statements are read off it. -/

namespace Sys2Proof.Machine

/-! ### The relation -/

/-- The photo-unit's blocks stand, and with them what of the Desk Interface the law of the transport asks: a running controller may have halted,
and a command in progress other than START or its RESUME may have begun or ended. -/
structure PhotoStands (s t : State) : Prop where
  exposure : t.exposure = s.exposure
  motion : t.motion = s.motion
  film : t.film = s.film
  controller : t.desk.controller = s.desk.controller ∨ (s.desk.controller = .running ∧ t.desk.controller = .halted)
  startStep : t.desk.startStep = s.desk.startStep
  busy : t.desk.busy = s.desk.busy ∨ (¬ s.desk.starts ∧ ¬ t.desk.starts)

/-- The items of the pool outside the line being built: the free ones and those of the records (R101, R120). -/
def LineStore.items (l : LineStore) : Nat := l.free + (l.records.map Record.itemCount).sum

/-- The scanner and the Composer stand, and with them the items that are not the Composer's. -/
structure ComposerStands (s t : State) : Prop where
  scanner : t.scanner = s.scanner
  composer : t.composer = s.composer
  items : t.store.items = s.store.items

/-- What every operation but a few named ones keeps: the queue, DESKBASE and EVENTMASK, the galley number, the strips of the Mount Table, the
input lines; and the laws of host memory, of the bus, and of the Line Store. -/
structure Keeps (photo composer : Bool) (s t : State) : Prop where
  pending : t.pending = s.pending
  base : t.desk.base = s.desk.base
  mask : t.desk.mask = s.desk.mask
  page : t.desk.page = s.desk.page
  galleyNumber : t.film.galleyNumber = s.film.galleyNumber
  strips : ∀ p : Fin 8, (t.fonts.mount[p]).strip = (s.fonts.mount[p]).strip
  confirmed : t.fonts.confirmed = true → s.fonts.confirmed = true
  pins : t.pins = s.pins
  memory : s.memoryLaw → t.memoryLaw
  bus : s.bus = none → t.bus = none
  controller : s.desk.controller ≠ .stopped → t.desk.controller ≠ .stopped
  stopped : s.stoppedLaw → t.stoppedLaw
  store : s.storeLaw → t.storeLaw
  photoSide : photo = true → PhotoStands s t
  composerSide : composer = true → ComposerStands s t

theorem PhotoStands.refl (s : State) : PhotoStands s s := ⟨rfl, rfl, rfl, .inl rfl, rfl, .inl rfl⟩

theorem PhotoStands.trans {s t u : State} (h : PhotoStands s t) (k : PhotoStands t u) : PhotoStands s u where
  exposure := k.exposure.trans h.exposure
  motion := k.motion.trans h.motion
  film := k.film.trans h.film
  controller := by
    obtain hk | ⟨hk, hu⟩ := k.controller
    · rw [hk]; exact h.controller
    · obtain hc | ⟨-, ht⟩ := h.controller
      · exact .inr ⟨hc ▸ hk, hu⟩
      · rw [ht] at hk; cases hk
  startStep := k.startStep.trans h.startStep
  busy := by
    obtain hh | hh := h.busy <;> obtain hk | hk := k.busy <;> simp_all [Desk.starts]

theorem PhotoStands.modDesk {s : State} {f : Desk → Desk}
    (hc : (f s.desk).controller = s.desk.controller ∨ (s.desk.controller = .running ∧ (f s.desk).controller = .halted))
    (hs : (f s.desk).startStep = s.desk.startStep) (hb : (f s.desk).busy = s.desk.busy ∨ (¬ s.desk.starts ∧ ¬ (f s.desk).starts)) :
    PhotoStands s (s.modDesk f) :=
  ⟨rfl, rfl, rfl, hc, hs, hb⟩

theorem ComposerStands.refl (s : State) : ComposerStands s s := ⟨rfl, rfl, rfl⟩

theorem ComposerStands.trans {s t u : State} (h : ComposerStands s t) (k : ComposerStands t u) : ComposerStands s u :=
  ⟨k.scanner.trans h.scanner, k.composer.trans h.composer, k.items.trans h.items⟩

namespace Keeps

variable {p c : Bool} {s t : State}

theorem refl (p c : Bool) (s : State) : Keeps p c s s :=
  ⟨rfl, rfl, rfl, rfl, rfl, fun _ => rfl, id, rfl, id, id, id, id, id, fun _ => .refl s, fun _ => .refl s⟩

theorem trans {u : State} (h : Keeps p c s t) (k : Keeps p c t u) : Keeps p c s u where
  pending := k.pending.trans h.pending
  base := k.base.trans h.base
  mask := k.mask.trans h.mask
  page := k.page.trans h.page
  galleyNumber := k.galleyNumber.trans h.galleyNumber
  strips p := (k.strips p).trans (h.strips p)
  confirmed := h.confirmed ∘ k.confirmed
  pins := k.pins.trans h.pins
  memory := k.memory ∘ h.memory
  bus := k.bus ∘ h.bus
  controller := k.controller ∘ h.controller
  stopped := k.stopped ∘ h.stopped
  store := k.store ∘ h.store
  photoSide e := (h.photoSide e).trans (k.photoSide e)
  composerSide e := (h.composerSide e).trans (k.composerSide e)

/-- An operation that leaves both sides alone leaves either. -/
theorem weaken (h : Keeps true true s t) : Keeps p c s t :=
  { h with photoSide := fun _ => h.photoSide rfl, composerSide := fun _ => h.composerSide rfl }

theorem of_ite {u : State} {b : Prop} [Decidable b] (ht : Keeps p c s t) (hu : Keeps p c s u) : Keeps p c s (if b then t else u) := by
  split
  · exact ht
  · exact hu

theorem forget (h : Keeps p c s t) : Keeps false false s t :=
  { h with photoSide := nofun, composerSide := nofun }

/-! ### Named updates -/

theorem modHyphenation (h : Keeps p c s t) (f) : Keeps p c s (t.modHyphenation f) :=
  { h with
    photoSide := fun e => { h.photoSide e with }
    composerSide := fun e => { h.composerSide e with } }

theorem modNotices (h : Keeps p c s t) (f) : Keeps p c s (t.modNotices f) :=
  { h with
    photoSide := fun e => { h.photoSide e with }
    composerSide := fun e => { h.composerSide e with } }

theorem modProof (h : Keeps p c s t) (f) : Keeps p c s (t.modProof f) :=
  { h with
    photoSide := fun e => { h.photoSide e with }
    composerSide := fun e => { h.composerSide e with } }

theorem modDrum (h : Keeps p c s t) (f) : Keeps p c s (t.modDrum f) :=
  { h with
    photoSide := fun e => { h.photoSide e with }
    composerSide := fun e => { h.composerSide e with } }

theorem modFlight (h : Keeps p c s t) (f) : Keeps p c s (t.modFlight f) :=
  { h with
    photoSide := fun e => { h.photoSide e with }
    composerSide := fun e => { h.composerSide e with } }

theorem setResultWrite (h : Keeps p c s t) (r) : Keeps p c s (t.setResultWrite r) :=
  { h with
    photoSide := fun e => { h.photoSide e with }
    composerSide := fun e => { h.composerSide e with } }

theorem drawFree (h : Keeps p c s t) : Keeps p c s t.drawFree :=
  { h with
    photoSide := fun e => { h.photoSide e with }
    composerSide := fun e => { h.composerSide e with } }

theorem modScanner (h : Keeps p false s t) (f) : Keeps p false s (t.modScanner f) :=
  { h with
    photoSide := fun e => { h.photoSide e with }
    composerSide := nofun }

theorem modComposer (h : Keeps p false s t) (f) : Keeps p false s (t.modComposer f) :=
  { h with
    photoSide := fun e => { h.photoSide e with }
    composerSide := nofun }

theorem modExposure (h : Keeps false c s t) (f) : Keeps false c s (t.modExposure f) :=
  { h with
    photoSide := nofun
    composerSide := fun e => { h.composerSide e with } }

theorem modMotion (h : Keeps false c s t) (f) : Keeps false c s (t.modMotion f) :=
  { h with
    photoSide := nofun
    composerSide := fun e => { h.composerSide e with } }

theorem modFilm (h : Keeps false c s t) (f) (hf : (f t.film).galleyNumber = t.film.galleyNumber) : Keeps false c s (t.modFilm f) :=
  { h with
    galleyNumber := hf.trans h.galleyNumber
    photoSide := nofun
    composerSide := fun e => { h.composerSide e with } }

/-- A change of the Width Store, of the stamps or of the counters; no strip is changed and the table is not made confirmed. -/
theorem modFonts (h : Keeps p c s t) (f) (hs : ∀ q : Fin 8, ((f t.fonts).mount[q]).strip = (t.fonts.mount[q]).strip)
    (hc : (f t.fonts).confirmed = true → t.fonts.confirmed = true) : Keeps p c s (t.modFonts f) :=
  { h with
    strips := fun q => (hs q).trans (h.strips q)
    confirmed := fun e => h.confirmed (hc e)
    photoSide := fun e => { h.photoSide e with }
    composerSide := fun e => { h.composerSide e with } }

/-- A change of the controller, its cause, the result, EVENTS or the command in progress. -/
theorem modDesk (h : Keeps p c s t) (f) (hb : (f t.desk).base = t.desk.base) (hm : (f t.desk).mask = t.desk.mask)
    (hp : (f t.desk).page = t.desk.page) (hs : (f t.desk).controller = .stopped → t.desk.controller = .stopped)
    (hd : p = true → PhotoStands t (t.modDesk f)) : Keeps p c s (t.modDesk f) :=
  { h with
    base := hb.trans h.base
    mask := hm.trans h.mask
    page := hp.trans h.page
    controller := fun e e' => h.controller e (hs e')
    stopped := fun e e' => h.stopped e (hs e')
    photoSide := fun e => (h.photoSide e).trans (hd e)
    composerSide := fun e => { h.composerSide e with } }

theorem storeBytes (h : Keeps p c s t) (a : Addr) (bs : List Byte) : Keeps p c s (t.storeBytes a bs) :=
  { h with
    pending := by simpa using h.pending
    base := by simpa using h.base
    mask := by simpa using h.mask
    page := by simpa using h.page
    galleyNumber := by simpa using h.galleyNumber
    strips := by simpa using h.strips
    confirmed := by simpa using h.confirmed
    pins := by simpa using h.pins
    memory := fun hw => State.storeBytes_wf a bs t (h.memory hw)
    bus := by simpa using h.bus
    controller := by simpa using h.controller
    stopped := by simpa [State.stoppedLaw] using h.stopped
    store := by simpa [State.storeLaw] using h.store
    photoSide := fun e =>
      have k := h.photoSide e
      ⟨by simpa using k.exposure, by simpa using k.motion, by simpa using k.film, by simpa using k.controller,
        by simpa using k.startStep, by simpa using k.busy⟩
    composerSide := fun e =>
      have k := h.composerSide e
      ⟨by simpa using k.scanner, by simpa using k.composer, by simpa using k.items⟩ }

theorem setBus (h : Keeps p c s t) (b) (hb : s.bus ≠ none) : Keeps p c s (t.setBus b) :=
  { h with
    bus := fun e => absurd e hb
    photoSide := fun e => { h.photoSide e with }
    composerSide := fun e => { h.composerSide e with } }

end Keeps

end Sys2Proof.Machine
end

section
/-! What the shared operations keep (spec 01, sections 2.3 to 2.8; spec 02, section 3.3; spec 07). -/

namespace Sys2Proof.Machine

/-! ### The Line Store: its laws under the shared operations -/

theorem withdrawFrom_length (i : Fin 8) (n : Nat) (rs : List Record) : (withdrawFrom i n rs).1.length = rs.length := by
  induction rs generalizing n with
  | nil => cases n <;> rfl
  | cons r rest ih =>
    cases n with
    | zero =>
      simp only [withdrawFrom, apply_ite Prod.fst, apply_ite List.length, List.length_cons, ih, ite_self]
    | succ k => simp [withdrawFrom, ih]

/-- A withdrawn record keeps its items until it is released (R126). -/
theorem withdrawFrom_itemCount (i : Fin 8) (n : Nat) (rs : List Record) :
    (withdrawFrom i n rs).1.map Record.itemCount = rs.map Record.itemCount := by
  induction rs generalizing n with
  | nil => cases n <;> rfl
  | cons r rest ih =>
    cases n with
    | zero =>
      simp only [withdrawFrom]
      split <;> simp [ih, Record.itemCount]
    | succ k => simp [withdrawFrom, ih]

/-- A cursor one record nearer to the head that leaves the ring. -/
theorem Cursor.reached_pred (k : Cursor) (h : 0 < k.passed) : Cursor.reached { k with passed := k.passed - 1 } + 1 = k.reached := by
  simp only [Cursor.reached]
  omega

namespace Keeps

variable {p c : Bool} {s t : State}

/-! ### The Desk Interface -/

theorem event (h : Keeps p c s t) (e : BitVec 4) : Keeps p c s (t.event e) := by
  unfold State.event
  exact h.modDesk _ rfl rfl rfl id fun _ => .modDesk (.inl rfl) rfl (.inl rfl)

theorem endCommand (h : Keeps p c s t) (r : CmdResult) (hb : p = true → ¬ t.desk.starts) : Keeps p c s (t.endCommand r) := by
  unfold State.endCommand
  exact (h.modDesk _ rfl rfl rfl id fun e => .modDesk (.inl rfl) rfl (.inr ⟨hb e, by simp⟩)).event _

theorem refuse (h : Keeps p c s t) (r : CmdResult) : Keeps p c s (t.refuse r) := by
  unfold State.refuse
  exact (h.modDesk _ rfl rfl rfl id fun _ => .modDesk (.inl rfl) rfl (.inl rfl)).event _

theorem fault (h : Keeps p c s t) (x : HaltCause) : Keeps p c s (t.fault x) := by
  unfold State.fault
  split
  next hr => exact (h.modDesk _ rfl rfl rfl (by simp) fun _ => .modDesk (.inr ⟨hr, rfl⟩) rfl (.inl rfl)).event _
  next =>
    split
    · exact (h.modDesk _ rfl rfl rfl id fun _ => .modDesk (.inl rfl) rfl (.inl rfl)).event _
    · exact h
  next => exact h

theorem startFails (h : Keeps false c s t) (x : HaltCause) : Keeps false c s (t.startFails x) := by
  unfold State.startFails
  exact ((h.modDesk _ rfl rfl rfl (by simp) nofun).event _).endCommand _ nofun

/-! ### Scan triggers -/

theorem trigger (h : Keeps p false s t) : Keeps p false s t.trigger := by
  unfold State.trigger
  split
  · exact h
  · split <;> exact h.modScanner _

theorem testPending (h : Keeps p false s t) : Keeps p false s t.testPending := by
  unfold State.testPending
  split
  · exact h.modScanner _
  · exact h

/-! ### Notices -/

theorem beginNotice (h : Keeps p c s t) (o : Owner) : Keeps p c s (t.beginNotice o) := h.modNotices _

theorem notice (h : Keeps p c s t) (o : Owner) : Keeps p c s (t.notice o) := by
  obtain e | ⟨-, -, -, e⟩ := t.notice_cases o
  · rwa [e]
  · rw [e]; exact h.beginNotice o

theorem noticeSince (h : Keeps p c s t) (o : Owner) (b : State) : Keeps p c s (t.noticeSince o b) := by
  obtain e | ⟨-, -, e⟩ := t.noticeSince_cases o b
  · rwa [e]
  · rw [e]; exact h.beginNotice o

/-! ### Bus accesses -/

theorem busRead (h : Keeps p c s t) (a : Addr) (n : Nat) : Keeps p c s (t.busRead a n).2 := by
  unfold State.busRead
  split
  · exact h
  next f hf =>
    have armed : s.bus ≠ none := fun e => by simp [h.bus e] at hf
    split
    · exact h.setBus _ armed
    · exact h.setBus _ armed

theorem busWrite (h : Keeps p c s t) (a : Addr) (bs : List Byte) : Keeps p c s (t.busWrite a bs).2 := by
  unfold State.busWrite
  split
  · exact h.storeBytes a bs
  next f hf =>
    have armed : s.bus ≠ none := fun e => by simp [h.bus e] at hf
    split
    · exact (h.storeBytes a bs).setBus _ armed
    · exact (h.storeBytes a _).setBus _ armed

/-! ### Flight entries and results -/

theorem modEntry (h : Keeps p c s t) (i : Fin 8) (f) : Keeps p c s (t.modEntry i f) := h.modFlight _

theorem report (h : Keeps p c s t) (i : Fin 8) (n : Nat) (x : Half) : Keeps p c s (t.report i n x) := h.modEntry i _

theorem markDue (h : Keeps p c s t) : Keeps p c s t.markDue := by
  unfold State.markDue
  split
  · exact h.modFlight _
  · exact h

theorem beginResult (h : Keeps p c s t) : Keeps p c s t.beginResult := by
  unfold State.beginResult
  repeat' split
  all_goals first | exact h | exact (h.setResultWrite _).drawFree

theorem settle (h : Keeps p c s t) : Keeps p c s t.settle := h.markDue.beginResult

theorem writeResults (h : Keeps p c s t) (slot : Nat) (r : Results) (x : Byte) : Keeps p c s (t.writeResults slot r x).2 := by
  have first := h.busWrite (t.slotAddr slot 0x18) r.bytes
  simp only [State.writeResults]
  split
  · exact first.busWrite _ _
  · exact first

/-! ### The Line Store -/

/-- A change of the Line Store that keeps its law, fills no empty ring, and on the photo-unit's side keeps the pool. -/
theorem modStore (h : Keeps p c s t) (f) (hl : t.storeLaw → (t.modStore f).storeLaw)
    (hr : t.store.records = [] → (f t.store).records = []) (hi : c = true → (f t.store).items = t.store.items) :
    Keeps p c s (t.modStore f) :=
  { h with
    stopped := fun e e' => hr (h.stopped e e')
    store := hl ∘ h.store
    photoSide := fun e => { h.photoSide e with }
    composerSide := fun e => { h.composerSide e with items := (hi e).trans (h.composerSide e).items } }

/-- An append of records for which the ring has room, with the controller not STOPPED. -/
theorem append (h : Keeps p false s t) (i : Fin 8) (rs : List Record) (hc : t.desk.controller ≠ .stopped)
    (hr : t.store.records.length + rs.length ≤ 16) : Keeps p false s (t.append i rs) := by
  have key : Keeps p false s (t.modStore fun l => { l with records := l.records ++ rs }) :=
    { h with
      stopped := fun _ e => absurd e hc
      store := fun e => by
        obtain ⟨-, hf, hp⟩ := h.store e
        exact ⟨by simpa [Config.ringPlaces] using hr, Nat.le_trans hf (by simp), Nat.le_trans hp (by simp)⟩
      photoSide := fun e => { h.photoSide e with }
      composerSide := nofun }
  simp only [State.append]
  refine Keeps.modEntry ?_ _ _
  split
  · exact key
  · refine key.modStore _ ?_ (fun e => e) nofun
    rintro ⟨hn, hf, -⟩
    exact ⟨hn, hf, Nat.le_refl _⟩

theorem releaseHead (h : Keeps p c s t) (n : Nat) : Keeps p c s (t.releaseHead n) := by
  induction n generalizing t with
  | zero => exact h
  | succ n ih =>
    unfold State.releaseHead
    split
    · exact h
    next r rest hr =>
      split
      next hp =>
        refine ih (Keeps.modEntry (h.modStore _ ?_ ?_ ?_) _ _)
        · intro hl
          have hf := Cursor.reached_pred t.store.film hp.1
          have hq := Cursor.reached_pred t.store.proof hp.2
          simp only [State.storeLaw, hr, List.length_cons, State.modStore_store] at hl ⊢
          omega
        · simp [hr]
        · intro _
          simp [LineStore.items, hr]
          omega
      · exact h

theorem release (h : Keeps p c s t) : Keeps p c s t.release := (h.releaseHead _).settle

theorem passFilm (h : Keeps p c s t) : Keeps p c s t.passFilm := by
  unfold State.passFilm
  split
  · exact h
  next r hr =>
    refine (h.modStore _ ?_ id fun _ => rfl).release
    rintro ⟨hn, -, hp⟩
    have : t.store.film.passed < t.store.records.length := (List.getElem?_eq_some_iff.1 hr).1
    exact ⟨hn, by simpa [Cursor.reached], hp⟩

theorem passProof (h : Keeps p c s t) : Keeps p c s t.passProof := by
  unfold State.passProof
  split
  · exact h
  next r hr =>
    refine (h.modStore _ ?_ id fun _ => rfl).release
    rintro ⟨hn, hf, -⟩
    have : t.store.proof.passed < t.store.records.length := (List.getElem?_eq_some_iff.1 hr).1
    exact ⟨hn, hf, by simpa [Cursor.reached]⟩

/-- The film cursor takes the record it stands before. -/
theorem holdFilm (h : Keeps p c s t) {r : Record} (hr : t.filmRecord = some r) :
    Keeps p c s (t.modStore fun l => { l with film := { l.film with holding := true } }) := by
  refine h.modStore _ ?_ id fun _ => rfl
  rintro ⟨hn, -, hp⟩
  have : t.store.film.passed < t.store.records.length := (List.getElem?_eq_some_iff.1 hr).1
  exact ⟨hn, by simpa [Cursor.reached], hp⟩

/-- The proof cursor takes the record it stands before. -/
theorem holdProof (h : Keeps p c s t) {r : Record} (hr : t.proofRecord = some r) :
    Keeps p c s (t.modStore fun l => { l with proof := { l.proof with holding := true } }) := by
  refine h.modStore _ ?_ id fun _ => rfl
  rintro ⟨hn, hf, -⟩
  have : t.store.proof.passed < t.store.records.length := (List.getElem?_eq_some_iff.1 hr).1
  exact ⟨hn, hf, by simpa [Cursor.reached]⟩

theorem withdraw (h : Keeps p false s t) (i : Fin 8) : Keeps p false s (t.withdraw i) := by
  have key : Keeps p false s (t.modStore fun l =>
      { l with records := (withdrawFrom i (max t.store.film.reached t.store.proof.reached) t.store.records).1 }) := by
    refine h.modStore _ ?_ ?_ nofun
    · intro hl
      simpa [State.storeLaw, withdrawFrom_length] using hl
    · intro e
      simp [e, withdrawFrom]
  simp only [State.withdraw]
  split
  · exact key.modComposer _
  · exact key

end Keeps

end Sys2Proof.Machine
end

section
/-! What the operations of the Ticket Scanner, Font Control and the Composer keep (spec 02 to 07): they leave the photo-unit's side alone. -/

namespace Sys2Proof.Machine

namespace Keeps

variable {p c : Bool} {s t : State}

/-- The state of a pair that an operation answers. -/
theorem of_eq {α : Type} {x : α × State} {a : α} {u : State} (k : Keeps p c s x.2) (e : x = (a, u)) : Keeps p c s u := by
  rwa [e] at k

/-! ### The Tray (spec 02, section 3.2) -/

theorem holdTray (h : Keeps p false s t) (x : HeldTray) : Keeps p false s (t.holdTray x) := (h.modScanner _).fault _

theorem writeRefusal (h : Keeps p false s t) (slot : Nat) (r : Reason) : Keeps p false s (t.writeRefusal slot r).2 := by
  have hw := h.writeResults slot (Results.refusal r) refusedByte
  simp only [State.writeRefusal]
  split
  · exact hw.event _
  · exact hw.holdTray _

theorem writeTaken (h : Keeps p c s t) (slot : Nat) : Keeps p c s (t.writeTaken slot).2 := by
  have hw := h.busWrite (t.slotAddr slot 0) [takenByte]
  simp only [State.writeTaken]
  split
  · exact hw.storeBytes _ _
  · exact hw

theorem refuseStale (h : Keeps p false s t) (slot : Nat) (again : Bool) : Keeps p false s (t.refuseStale slot again).2 := by
  have hr := h.busRead (t.slotAddr slot 0) 1
  simp only [State.refuseStale]
  split
  · exact hr.holdTray _
  · split
    · split
      · exact (hr.writeTaken _).writeRefusal _ _
      · exact (hr.writeTaken _).holdTray _
    · exact hr

theorem enterTicket (h : Keeps p false s t) (slot : Nat) (cls : Class) (b : List Byte) : Keeps p false s (t.enterTicket slot cls b) := by
  unfold State.enterTicket
  split
  · exact h
  · cases cls <;> exact ((h.modFlight _).modScanner _).modComposer _

theorem validateTaken (h : Keeps p false s t) (slot : Nat) (cls : Class) : Keeps p false s (t.validateTaken slot cls).2 := by
  have hr := h.busRead (t.slotAddr slot 0) 0x18
  simp only [State.validateTaken]
  split
  · exact hr.holdTray _
  · split
    · exact hr.enterTicket _ _ _
    · split
      · exact (hr.writeRefusal _ _).trigger
      · exact hr.writeRefusal _ _

theorem takeTicket (h : Keeps p false s t) (slot : Nat) (cls : Class) (seq : Half) (again : Bool) :
    Keeps p false s (t.takeTicket slot cls seq again).2 := by
  have hr := h.busRead (t.slotAddr slot 0) 6
  simp only [State.takeTicket]
  split
  · exact hr.holdTray _
  · split
    · split
      · exact ((hr.writeTaken _).modScanner _).validateTaken _ _
      · exact (hr.writeTaken _).holdTray _
    · exact hr

theorem scanSlots (h : Keeps p false s t) (routine : Bool) (slots : List Nat) (m : Option (Nat × Half)) :
    Keeps p false s (t.scanSlots routine slots m).2 := by
  induction slots generalizing m t with
  | nil =>
    cases m with
    | none => exact h
    | some x =>
      unfold State.scanSlots
      split
      · exact h
      · exact h.takeTicket _ _ _ _
  | cons slot rest ih =>
    have hr := h.busRead (t.slotAddr slot 0) 6
    unfold State.scanSlots
    split
    · exact ih h _
    · split
      next e => exact (hr.of_eq e).holdTray _
      next u e =>
        have hu := hr.of_eq e
        split
        · exact ih hu _
        · dsimp only
          split
          · split
            · split
              · exact ih hu _
              · split
                next e => exact ih ((hu.takeTicket _ _ _ _).of_eq e) _
                next => exact hu.takeTicket _ _ _ _
            · exact ih hu _
          · split
            · split
              next e => exact ih ((hu.refuseStale _ _).of_eq e) _
              next e => exact (hu.refuseStale _ _).of_eq e
            · exact ih hu _

theorem scanTray (h : Keeps p false s t) (flashOnly : Bool) : Keeps p false s (t.scanTray flashOnly).2 := h.scanSlots _ _ _

theorem finishSequence (h : Keeps p false s t) (r f : Half) (hb : p = true → ¬ t.desk.starts) :
    Keeps p false s (t.finishSequence r f) := by
  unfold State.finishSequence
  refine endCommand ?_ _ (by split <;> simpa using hb)
  split
  · exact (h.modScanner _).trigger
  · exact h.modScanner _

theorem sequenceGoesOn (h : Keeps p false s t) : Keeps p false s t.sequenceGoesOn := by
  unfold State.sequenceGoesOn
  split
  next hb => exact h.finishSequence _ _ (by simp [hb])
  next => exact h

theorem expireHeldTimer (h : Keeps p false s t) : Keeps p false s t.expireHeldTimer := by
  unfold State.expireHeldTimer
  split
  · exact h.modScanner _
  · exact h

theorem endScan (h : Keeps p false s t) : Keeps p false s t.endScan := (h.modScanner _).expireHeldTimer.testPending.sequenceGoesOn

theorem afterTake (h : Keeps p false s t) (e : ScanEnd) : Keeps p false s (t.afterTake e) := by
  cases e with
  | fault => exact h.sequenceGoesOn
  | nothing => exact h
  | entered =>
    simp only [State.afterTake]
    split
    · exact h.endScan
    · exact h.expireHeldTimer
  | refused =>
    simp only [State.afterTake]
    split
    · exact h.expireHeldTimer.modComposer _
    · exact h.endScan

theorem runScan (h : Keeps p false s t) : Keeps p false s t.runScan := by
  unfold State.runScan
  split
  · split
    next e => exact ((h.scanTray _).of_eq e).sequenceGoesOn
    next e => exact ((h.scanTray _).of_eq e).endScan
  · exact h

theorem retryTray (h : Keeps p false s t) : Keeps p false s t.retryTray := by
  have h' := h.modScanner fun c => { c with held := none }
  unfold State.retryTray
  dsimp only
  split
  · exact h
  · exact h'
  · exact h'.refuseStale _ _
  · exact (h'.takeTicket _ _ _ _).afterTake _
  · exact (h'.validateTaken _ _).afterTake _
  · exact h'.writeRefusal _ _
  · split
    next e => exact ((h'.writeRefusal _ _).of_eq e).trigger.afterTake _
    next e => exact (h'.writeRefusal _ _).of_eq e

/-! ### Font Control (spec 06, section 7.1) -/

theorem emptied (h : Keeps p c s t) (i : Fin 8) : Keeps p c s (t.modFonts fun c => c.emptied i) :=
  h.modFonts _ (fun _ => rfl) id

theorem stamped (h : Keeps p c s t) (i : Fin 8) (x : FontSlot) : Keeps p c s (t.modFonts fun c => c.stamped i x) :=
  h.modFonts _ (fun _ => rfl) id

theorem beginLoad (h : Keeps p c s t) (f : Nat) (r : Byte) (x : Half) (ptr : Nat) (o : Option Nat) (q : Purpose) :
    Keeps p c s (t.beginLoad f r x ptr o q).2 := by
  simp only [State.beginLoad]
  split <;> exact h.emptied _

theorem selectFont (h : Keeps p c s t) (f : Nat) (o : Option Nat) (q : Purpose) : Keeps p c s (t.selectFont f o q).2 := by
  have hr := h.busRead (t.areaAddr t.desk.areas.fontDirectory (12 * f)) 12
  simp only [State.selectFont]
  split
  · exact hr
  · split
    · split
      · exact hr.emptied _
      · exact hr
    · split
      · split
        · exact hr.stamped _ _
        · exact hr.beginLoad _ _ _ _ _ _
      · exact hr.beginLoad _ _ _ _ _ _

theorem completeLoad (h : Keeps p c s t) (sel : Selection) : Keeps p c s (t.completeLoad sel).2 := by
  have hr := h.busRead sel.table 128
  simp only [State.completeLoad]
  split
  · exact hr
  · split
    · exact hr.stamped _ _
    · exact hr

/-! ### The dictionary (spec 05, section 6.4) -/

theorem grantedRead (h : Keeps p c s t) (ptr n : Nat) : Keeps p c s (t.grantedRead ptr n).2 := by
  have hr := h.busRead (BitVec.ofNat 24 ptr) n
  unfold State.grantedRead
  split
  · split
    next e => exact hr.of_eq e
    next e => exact hr.of_eq e
  · exact h

theorem searchChain (h : Keeps p c s t) (key : List Byte) (left ptr : Nat) : Keeps p c s (t.searchChain key left ptr).2 := by
  induction left using Nat.strong_induction_on generalizing ptr t with
  | _ left ih =>
    have h1 := h.grantedRead ptr 1
    unfold State.searchChain
    split
    next e => exact h1.of_eq e
    next b u e =>
      have hu := h1.of_eq e
      dsimp only
      split
      · exact hu
      · have h2 := hu.grantedRead (ptr + 1) (4 + natAt b 0)
        split
        next e => exact h2.of_eq e
        next e =>
          have hv := h2.of_eq e
          split
          · exact hv
          · split
            · exact hv
            · exact hv
            · exact ih _ (by omega) hv _

theorem lookupWord (h : Keeps p c s t) (chars : List (Nat × Glyph)) : Keeps p c s (t.lookupWord chars).2 := by
  have hr := h.grantedRead (t.hyphenation.dictionary.toNat + 4 * bucketOf (chars.map fun c => t.hyphenation.foldOf c.2.code)) 4
  simp only [State.lookupWord]
  split
  next e => exact hr.of_eq e
  next e =>
    split
    · exact hr.of_eq e
    · exact (hr.of_eq e).searchChain _ _ _

/-! ### The line being built and the end of a ticket (spec 03) -/

theorem setPhase (h : Keeps p false s t) (x : Phase) : Keeps p false s (t.setPhase x) := h.modComposer _

theorem pushCode (h : Keeps p false s t) (x : LineCode) : Keeps p false s (t.pushCode x) := h.modComposer _

theorem pushElement (h : Keeps p false s t) (o : Nat) (x : Element) (q : Half) : Keeps p false s (t.pushElement o x q) := h.pushCode _

theorem command (h : Keeps p false s t) (o : Nat) (x : Half) (f) : Keeps p false s (t.command o x f) := (h.pushCode _).modComposer _

theorem discardLine (h : Keeps p false s t) : Keeps p false s t.discardLine := (h.modStore _ id id nofun).modComposer _

theorem leaveTicket (h : Keeps p false s t) (cls : Class) : Keeps p false s (t.leaveTicket cls) := by
  cases cls with
  | flash => exact h.setPhase _
  | routine =>
    unfold State.leaveTicket
    dsimp only
    split
    · exact ((h.modComposer _).modScanner _).trigger
    · exact h.modComposer _

theorem carry (h : Keeps p false s t) (cls : Class) : Keeps p false s (t.carry cls) := by
  cases cls with
  | flash => exact h
  | routine =>
    unfold State.carry
    exact h.modComposer _

theorem stopTicket (h : Keeps p false s t) (r : Reason) (m : Option Nat) : Keeps p false s (t.stopTicket r m) := by
  unfold State.stopTicket
  split
  · exact h
  · exact (((h.discardLine.modComposer _).modEntry _ _).carry _).leaveTicket _

theorem finishTake (h : Keeps p false s t) (o : Nat) : Keeps p false s (t.finishTake o) := by
  unfold State.finishTake
  split
  · exact h
  · exact ((h.modEntry _ _).carry _).leaveTicket _

/-! ### Appends: the ring has room for what is appended (spec 07, section 8.3) -/

theorem appendCut (h : Keeps p false s t) (i : Fin 8) (r : Record) (hc : t.desk.controller ≠ .stopped)
    (hr : t.store.records.length + 1 ≤ 16) : Keeps p false s (t.appendCut i r) :=
  (h.append i [r] hc hr).modComposer _

theorem writeLog (h : Keeps p c s t) (i : Fin 8) (e : Entry) (g : EndedLine) : Keeps p c s (t.writeLog i e g).2 := by
  have hw := h.busWrite (Addr.plus e.logPtr (16 * e.logIndex)) (logBytes e.lineNumber t.composer.lineStart g)
  simp only [State.writeLog]
  split
  · dsimp only
    split
    · exact hw.modEntry _ _
    · exact hw
  · exact h

theorem appendLine (h : Keeps p false s t) (i : Fin 8) (e : Entry) (g : EndedLine) (hc : t.desk.controller ≠ .stopped)
    (hr : t.store.records.length + (1 + g.leads.length) ≤ 16) : Keeps p false s (t.appendLine i e g) := by
  unfold State.appendLine
  refine (((h.append i _ hc ?_).modEntry _ _).modComposer _)
  simpa [Nat.add_comm] using hr

theorem startNextLine (h : Keeps p false s t) (i : Fin 8) (g : EndedLine) : Keeps p false s (t.startNextLine i g) :=
  (h.modEntry _ _).modComposer _

theorem goAfter (h : Keeps p false s t) (a : After) : Keeps p false s (t.goAfter a) := by
  cases a with
  | readOn | retest | place => exact h.setPhase _
  | finishTake o => exact h.finishTake o

theorem appendGroup (h : Keeps p false s t) (g : EndedLine) (hc : t.desk.controller ≠ .stopped)
    (hr : t.store.records.length + (1 + g.leads.length) ≤ 16) : Keeps p false s (t.appendGroup g) := by
  unfold State.appendGroup
  split
  · exact h
  next i e _ =>
    have hw := (((h.appendLine i e g hc hr).writeLog i e g).startNextLine i g)
    dsimp only
    split
    · exact hw.goAfter _
    · exact hw.stopTicket _ _

theorem appendLead (h : Keeps p false s t) (l : Lead) (n : Nat) (hc : t.desk.controller ≠ .stopped)
    (hr : t.store.records.length + 1 ≤ 16) : Keeps p false s (t.appendLead l n) := by
  unfold State.appendLead
  split
  · exact h
  · exact (h.append _ [_] hc hr).modComposer _

/-! ### Ends of lines and breaks (spec 05) -/

theorem endLine (h : Keeps p false s t) (le : LineEnd) : Keeps p false s (t.endLine le) := by
  unfold State.endLine
  split
  · exact h
  · dsimp only
    split
    · exact (h.report _ _ _).stopTicket _ _
    · exact (h.report _ _ _).setPhase _

theorem endWhole (h : Keeps p false s t) (q : Quad) (n : Nat) (a : After) : Keeps p false s (t.endWhole q n a) := h.endLine _

theorem breakAt (h : Keeps p false s t) (o : Nat) (y : Option Glyph) (x : Half) (a : After) : Keeps p false s (t.breakAt o y x a) :=
  h.endLine _

theorem endEmpty (h : Keeps p false s t) (a : After) : Keeps p false s (t.endEmpty a) := by
  unfold State.endEmpty
  split
  · exact h
  · dsimp only
    split
    · exact (h.report _ _ _).stopTicket _ _
    · exact ((h.report _ _ _).modComposer _).goAfter _

theorem actTrigger (h : Keeps p false s t) (x : Trigger) : Keeps p false s (t.actTrigger x) := by
  cases x with
  | space => exact (h.pushCode _).setPhase _
  | endCode => exact h.endWhole _ _ _
  | endParagraph | endOfTake =>
    unfold State.actTrigger
    dsimp only
    split
    · exact h.endEmpty _
    · exact h.endWhole _ _ _

theorem forceWhole (h : Keeps p false s t) (x : Trigger) : Keeps p false s (t.forceWhole x) := by
  cases x with
  | space => exact h.endLine _
  | endCode | endParagraph | endOfTake =>
    unfold State.forceWhole
    exact (h.modComposer _).actTrigger _

theorem breakWithoutPoint (h : Keeps p false s t) (x : Trigger) : Keeps p false s (t.breakWithoutPoint x) := by
  unfold State.breakWithoutPoint
  split
  · split
    · exact h.breakAt _ _ _ _
    · exact h.actTrigger _
  · split
    · exact h.breakAt _ _ _ _
    · exact h.forceWhole _

theorem testTrigger (h : Keeps p false s t) (x : Trigger) : Keeps p false s (t.testTrigger x) := by
  unfold State.testTrigger
  dsimp only
  split
  · exact h.actTrigger _
  · split <;> exact h.setPhase _

theorem choose (h : Keeps p false s t) (x : Trigger) (cs : List Candidate) : Keeps p false s (t.choose x cs) := by
  unfold State.choose
  split
  · exact h.setPhase _
  · exact h.breakWithoutPoint _

theorem drawItem (h : Keeps p false s t) : Keeps p false s t.drawItem := (h.modStore _ id id nofun).modComposer _

theorem hyphenate (h : Keeps p false s t) (x : HyphenPlan) : Keeps p false s (t.hyphenate x) := by
  unfold State.hyphenate
  split
  · exact h
  · exact h.drawItem.breakAt _ _ _ _

theorem limitBreak (h : Keeps p false s t) (x : LineCode) : Keeps p false s (t.limitBreak x) := by
  unfold State.limitBreak
  dsimp only
  repeat' split
  all_goals exact h.breakAt _ _ _ _

theorem placeCharacter (h : Keeps p false s t) (x : LineCode) : Keeps p false s (t.placeCharacter x) := by
  unfold State.placeCharacter
  dsimp only
  split
  · split
    · exact (h.pushCode _).setPhase _
    · exact h.limitBreak _
  · exact h.drawItem.modComposer _

/-! ### Selections, and the beginning of a ticket -/

theorem fontInEffect (h : Keeps p false s t) (f : Nat) : Keeps p false s (t.fontInEffect f) := h.modComposer _

theorem endSelection (h : Keeps p false s t) (q : Purpose) (f : Nat) (r : Option Reason) : Keeps p false s (t.endSelection q f r) := by
  unfold State.endSelection
  split
  · exact (h.fontInEffect _).setPhase _
  · exact h.setPhase _
  · exact h.setPhase _
  · exact h.stopTicket _ _

theorem select (h : Keeps p false s t) (f : Nat) (o : Option Nat) (q : Purpose) : Keeps p false s (t.select f o q) := by
  have hs := h.selectFont f o q
  unfold State.select
  split
  next e => exact (hs.of_eq e).endSelection _ _ _
  next e => exact (hs.of_eq e).setPhase _
  next e => exact (hs.of_eq e).endSelection _ _ _

theorem beginCut (h : Keeps p false s t) (i : Fin 8) (e : Entry) (hc : t.desk.controller ≠ .stopped)
    (hr : t.store.records.length + 1 ≤ 16) : Keeps p false s (t.beginCut i e) :=
  ((h.appendCut _ _ hc hr).modEntry _ _).leaveTicket _

theorem beginTake (h : Keeps p false s t) (e : Entry) : Keeps p false s (t.beginTake e) := (h.modComposer _).select _ _ _

theorem beginTicket (h : Keeps p false s t) (hc : t.desk.controller ≠ .stopped)
    (hr : t.cutNext = true → t.store.records.length + 1 ≤ 16) : Keeps p false s t.beginTicket := by
  unfold State.beginTicket
  split
  · exact h.modComposer _
  next i e ht =>
    split
    · exact h.leaveTicket _
    next hf =>
      split
      next hk => exact h.beginCut _ _ hc (hr (by simp [State.cutNext, ht, hk, hf]))
      next => exact h.beginTake _

/-! ### Preemption and resumption (spec 02, section 3.5) -/

theorem preemptFor (h : Keeps p false s t) (i : Fin 8) : Keeps p false s (t.preemptFor i) := by
  unfold State.preemptFor
  exact h.discardLine.modComposer _

theorem writeContext (h : Keeps p false s t) : Keeps p false s t.writeContext := by
  have hw := h.busWrite (t.areaAddr t.desk.areas.context 0) (contextBytes t.composer.suspended t.composer.savedOffset t.composer.saved)
  simp only [State.writeContext]
  split
  · exact hw.setPhase _
  · exact hw.fault _

theorem bracketCut (h : Keeps p false s t) (cls : CutClass) (hc : t.desk.controller ≠ .stopped)
    (hr : t.store.records.length + 1 ≤ 16) : Keeps p false s (t.bracketCut cls) := by
  unfold State.bracketCut
  split
  · exact h
  · exact h.appendCut _ _ hc hr

theorem makeOpenCut (h : Keeps p false s t) (hc : t.desk.controller ≠ .stopped)
    (hr : t.composer.galleyContent = true → t.store.records.length + 1 ≤ 16) : Keeps p false s t.makeOpenCut := by
  unfold State.makeOpenCut
  split
  next hg => exact (h.bracketCut _ hc (hr hg)).setPhase _
  next => exact h.setPhase _

theorem makeCloseCut (h : Keeps p false s t) (hc : t.desk.controller ≠ .stopped) (hr : t.store.records.length + 1 ≤ 16) :
    Keeps p false s t.makeCloseCut :=
  (h.bracketCut _ hc hr).modComposer _

theorem makeFlashScan (h : Keeps p false s t) : Keeps p false s t.makeFlashScan := by
  have hs := h.scanTray true
  unfold State.makeFlashScan
  split
  · exact h.expireHeldTimer.setPhase _
  · split
    next e => exact (hs.of_eq e).expireHeldTimer.setPhase _
    next e => exact (hs.of_eq e).expireHeldTimer.setPhase _
    next e => exact (hs.of_eq e).expireHeldTimer
    next e => exact hs.of_eq e

theorem readContext (h : Keeps p false s t) : Keeps p false s t.readContext := by
  have hr := h.busRead (t.areaAddr t.desk.areas.context 0) 64
  simp only [State.readContext]
  split
  · exact hr.fault _
  · exact (hr.modComposer _).select _ _ _

theorem endChain (h : Keeps p false s t) (x : Option Reason) : Keeps p false s (t.endChain x) := by
  unfold State.endChain
  split
  · dsimp only
    split
    · refine testPending ?_
      split
      · exact ((h.modScanner _).modComposer _).stopTicket _ _
      · exact (h.modScanner _).modComposer _
    · exact ((h.modScanner _).modComposer _).testPending
  · exact ((h.modScanner _).modComposer _).trigger.testPending

theorem writeValid (h : Keeps p false s t) (x : Option Reason) : Keeps p false s (t.writeValid x) := by
  have hw := h.busWrite (t.areaAddr t.desk.areas.context 0) [0]
  simp only [State.writeValid]
  split
  · exact hw.endChain _
  · exact hw.fault _

/-! ### The run of the Composer -/

theorem composerPhase (h : Keeps p false s t) (hc : t.desk.controller ≠ .stopped) (hq : t.phaseReady = true) :
    Keeps p false s t.composerPhase := by
  have room : ∀ n, t.hasRoom n = true → 0 < n → t.store.records.length + n ≤ 16 := by
    intro n hn hp
    have hn : n ≤ 16 - t.store.records.length := of_decide_eq_true hn
    omega
  unfold State.phaseReady at hq
  unfold State.composerPhase
  split at hq
  case h_5 e => simp only [e]; exact h.beginTicket hc fun hn => room 1 (by simpa [hn] using hq) (by omega)
  case h_6 e => simp only [e]; exact h.hyphenate _
  case h_7 e => simp only [e]; exact h.placeCharacter _
  case h_8 e => simp only [e]; exact h.appendGroup _ hc (room _ hq (by omega))
  case h_9 e => simp only [e]; exact h.appendLead _ _ hc (room 1 hq (by omega))
  case h_10 e => simp only [e]; exact h.makeOpenCut hc fun hn => room 1 (by simpa [hn] using hq) (by omega)
  case h_11 e => simp only [e]; exact h.makeCloseCut hc (room 1 hq (by omega))
  case h_12 e => simp only [e]; exact h.makeFlashScan
  case h_13 e => simp only [e]; exact h.testTrigger _
  case h_14 e => simp only [e]; exact h.choose _ _
  case h_15 e => simp only [e]; exact h.writeContext
  case h_16 e => simp only [e]; exact h.readContext
  case h_17 e => simp only [e]; exact h.writeValid _
  all_goals exact absurd hq (by simp)

theorem composerLoop (h : Keeps p false s t) (n : Nat) : Keeps p false s (t.composerLoop n) := by
  induction n generalizing t with
  | zero => exact h
  | succ n ih =>
    unfold State.composerLoop
    split
    · exact h
    next hr =>
      rw [not_or, not_not] at hr
      split
      · exact ih (h.preemptFor _)
      · split
        next hq => exact ih (h.composerPhase (by simp [hr.1]) hq)
        next => exact h

theorem composerRun (h : Keeps p false s t) : Keeps p false s t.composerRun := (h.composerLoop _).settle

/-! ### Loads, lookups and cancels -/

theorem cancelComposed (h : Keeps p false s t) (i : Fin 8) (e : Entry) : Keeps p false s (t.cancelComposed i e) := by
  simp only [State.cancelComposed]
  refine leaveTicket ?_ _
  split
  · exact (h.discardLine.modEntry _ _).carry _
  · exact h.discardLine.modEntry _ _

theorem cancelResumed (h : Keeps p false s t) (i : Fin 8) : Keeps p false s (t.cancelResumed i) := (h.modEntry _ _).modComposer _

theorem selectionMade (h : Keeps p false s t) (sel : Selection) (r : Option Reason) : Keeps p false s (t.selectionMade sel r) := by
  unfold State.selectionMade
  split
  · exact h.fontInEffect _
  · exact h

theorem lookupEnds (h : Keeps p false s t) (x : Trigger) (o : Lookup) : Keeps p false s (t.lookupEnds x o) := by
  cases o with
  | found | notFound => exact h.setPhase _
  | stop => exact h.stopTicket _ _

end Keeps

end Sys2Proof.Machine
end

section
/-! What the steps of the Composer, the Ticket Scanner and the result write keep, and the host's commands to them (spec 01 to 03). -/

namespace Sys2Proof.Machine

theorem PhotoStands.not_starts {s t : State} (h : PhotoStands s t) (hs : ¬ s.desk.starts) : ¬ t.desk.starts := by
  obtain e | ⟨-, e⟩ := h.busy
  · rwa [Desk.starts, e]
  · exact e

/-- A CANCEL in progress is neither START nor its RESUME. -/
theorem State.not_starts_of_cancelWaiting {s : State} {i : Fin 8} (h : s.cancelWaiting = some i) : ¬ s.desk.starts := by
  unfold State.cancelWaiting at h
  split at h
  next e => simp [e]
  next => cases h

theorem State.not_starts_of_cancelsComposed {s : State} {x : Fin 8 × Entry} (h : s.cancelsComposed = some x) : ¬ s.desk.starts := by
  obtain ⟨-, hx⟩ := Option.filter_eq_some_iff.1 h
  exact State.not_starts_of_cancelWaiting (by simpa using hx)

theorem State.not_starts_of_cancelsResumed {s : State} {i : Fin 8} (h : s.cancelsResumed = some i) : ¬ s.desk.starts := by
  unfold State.cancelsResumed at h
  split at h
  next e => exact State.not_starts_of_cancelWaiting (e.2.trans h)
  next => cases h

namespace Keeps

variable {p : Bool} {s t : State}

theorem not_starts {c : Bool} (h : Keeps true c s t) (hs : ¬ s.desk.starts) : ¬ t.desk.starts := (h.photoSide rfl).not_starts hs

/-! ### Loads and lookups complete -/

theorem loadCompletes (h : Keeps p false s t) : Keeps p false s t.loadCompletes := by
  unfold State.loadCompletes
  split
  next sel _ =>
    have hl := h.completeLoad sel
    dsimp only
    split
    next i e hx =>
      refine composerRun (endCommand ((hl.selectionMade _ _).cancelComposed _ _) _ fun _ => ?_)
      exact (((refl true false _).selectionMade _ _).cancelComposed _ _).not_starts (State.not_starts_of_cancelsComposed hx)
    next i _ hx =>
      refine composerRun (endCommand ((hl.cancelResumed _).endSelection _ _ _) _ fun _ => ?_)
      exact (((refl true false _).cancelResumed _).endSelection _ _ _).not_starts (State.not_starts_of_cancelsResumed hx)
    next =>
      split
      · exact (hl.setPhase _).composerRun
      · exact (hl.endSelection _ _ _).composerRun
  next => exact h

theorem lookupCompletes (h : Keeps p false s t) : Keeps p false s t.lookupCompletes := by
  unfold State.lookupCompletes
  split
  next x _ =>
    have hl := h.lookupWord t.hyphenationChars
    dsimp only
    split
    next i e hx =>
      refine composerRun (endCommand (hl.cancelComposed _ _) _ fun _ => ?_)
      exact ((refl true false _).cancelComposed _ _).not_starts (State.not_starts_of_cancelsComposed hx)
    next =>
      split
      · exact (hl.setPhase _).composerRun
      · exact (hl.lookupEnds _ _).composerRun
  next => exact h

/-! ### Take codes (spec 03) -/

theorem readCode (h : Keeps p false s t) (e : Entry) (act : CodeAction)
    (ha : ∀ o n ops u, Keeps p false s u → Keeps p false s (act o n ops u)) : Keeps p false s (t.readCode e act) := by
  have h1 := h.busRead (t.readAddr e) 1
  unfold State.readCode
  dsimp only
  split
  next e1 => exact ((h1.of_eq e1).stopTicket _ _).composerRun
  next e1 =>
    have h2 := (h1.of_eq e1).busRead
    split
    next e2 => exact (((h2 _ _).of_eq e2).stopTicket _ _).composerRun
    next e2 => exact (ha _ _ _ _ (((h2 _ _).of_eq e2).modComposer _)).composerRun

theorem takeCode (h : Keeps p false s t) (row : Nat → Bool) (act : CodeAction)
    (ha : ∀ o n ops u, Keeps p false s u → Keeps p false s (act o n ops u)) : Keeps p false s (t.takeCode row act) := by
  unfold State.takeCode
  split
  · exact h
  · split
    · exact h.readCode _ _ ha
    · exact h

section actions

variable (o n : Nat) (ops : List Byte) {u : State} (h : Keeps p false s u)
include h

theorem actCharacter : Keeps p false s (actCharacter o n ops u) := by
  unfold Machine.actCharacter
  dsimp only
  split
  · exact h.pushElement _ _ _
  · exact h.setPhase _

theorem actWordSpace : Keeps p false s (actWordSpace o n ops u) := by
  unfold Machine.actWordSpace
  dsimp only
  split
  · exact h
  · exact h.setPhase _

theorem actFixedSpace : Keeps p false s (actFixedSpace o n ops u) := h.pushElement _ _ _
theorem actDiscretionary : Keeps p false s (actDiscretionary o n ops u) := h.pushCode _
theorem actFill : Keeps p false s (actFill o n ops u) := h
theorem actEndLine : Keeps p false s (actEndLine o n ops u) := h.setPhase _
theorem actEndParagraph : Keeps p false s (actEndParagraph o n ops u) := h.setPhase _
theorem actEndOfTake : Keeps p false s (actEndOfTake o n ops u) := h.setPhase _

theorem filmCode (l : Lead) : Keeps p false s (u.filmCode l o) := by
  unfold State.filmCode
  split
  · exact h.setPhase _
  · split <;> exact h.pushCode _

theorem actMark : Keeps p false s (actMark o n ops u) := h.filmCode o _
theorem actToMark : Keeps p false s (actToMark o n ops u) := h.filmCode o _

theorem actReverse : Keeps p false s (actReverse o n ops u) := by
  unfold Machine.actReverse
  split
  · exact h
  · exact h.filmCode o _

theorem actAdvance : Keeps p false s (actAdvance o n ops u) := by
  unfold Machine.actAdvance
  split
  · exact h
  · exact h.filmCode o _

theorem actHyphenation (on : Bool) : Keeps p false s (actHyphenation on o n ops u) := h.command _ _ _

theorem actFont : Keeps p false s (actFont o n ops u) := by
  unfold Machine.actFont
  dsimp only
  split
  · exact h.command _ _ _
  · exact (h.command _ _ _).select _ _ _

theorem actPointSize : Keeps p false s (actPointSize o n ops u) := by
  unfold Machine.actPointSize
  exact h.command _ _ _

theorem actSetSize : Keeps p false s (actSetSize o n ops u) := by
  unfold Machine.actSetSize
  exact h.command _ _ _

theorem actLeading : Keeps p false s (actLeading o n ops u) := h.command _ _ _
theorem actMeasure : Keeps p false s (actMeasure o n ops u) := by
  unfold Machine.actMeasure
  exact h.command _ _ _

theorem actIndentLeft : Keeps p false s (actIndentLeft o n ops u) := by
  unfold Machine.actIndentLeft
  exact h.command _ _ _

theorem actIndentRight : Keeps p false s (actIndentRight o n ops u) := by
  unfold Machine.actIndentRight
  exact h.command _ _ _

theorem actLetterspace : Keeps p false s (actLetterspace o n ops u) := by
  unfold Machine.actLetterspace
  exact h.command _ _ _


theorem actTabStopSet : Keeps p false s (actTabStopSet o n ops u) := by
  unfold Machine.actTabStopSet
  dsimp only
  split <;> exact h.command _ _ _

theorem actTabTo : Keeps p false s (actTabTo o n ops u) := h.pushElement _ _ _
theorem actMoveTo : Keeps p false s (actMoveTo o n ops u) := h.pushElement _ _ _
theorem actMoveBy : Keeps p false s (actMoveBy o n ops u) := h.pushElement _ _ _
theorem actBadCode : Keeps p false s (actBadCode o n ops u) := h.pushCode _

theorem actionOf (b : Nat) : Keeps p false s (actionOf b o n ops u) := by
  unfold Machine.actionOf
  split
  · exact h.actCharacter o n ops
  · split
    · exact h.actWordSpace o n ops
    · exact h.actFixedSpace o n ops
    · exact h.actFixedSpace o n ops
    · exact h.actFixedSpace o n ops
    · exact h.actDiscretionary o n ops
    · exact h.actEndLine o n ops
    · exact h.actEndLine o n ops
    · exact h.actEndLine o n ops
    · exact h.actEndLine o n ops
    · exact h.actEndParagraph o n ops
    · exact h.actMark o n ops
    · exact h.actToMark o n ops
    · exact h.actHyphenation o n ops _
    · exact h.actHyphenation o n ops _
    · exact h.actFill o n ops
    · exact h.actEndOfTake o n ops
    · exact h.actFont o n ops
    · exact h.actPointSize o n ops
    · exact h.actSetSize o n ops
    · exact h.actLeading o n ops
    · exact h.actReverse o n ops
    · exact h.actMeasure o n ops
    · exact h.actIndentLeft o n ops
    · exact h.actIndentRight o n ops
    · exact h.actTabStopSet o n ops
    · exact h.actTabTo o n ops
    · exact h.actMoveTo o n ops
    · exact h.actMoveBy o n ops
    · exact h.actLetterspace o n ops
    · exact h.actAdvance o n ops
    · exact h.actBadCode o n ops

end actions

theorem overrun (h : Keeps p false s t) : Keeps p false s t.overrun := (h.stopTicket _ _).composerRun

theorem nextCode (h : Keeps p false s t) : Keeps p false s t.nextCode := by
  unfold State.nextCode
  split
  · exact h
  next e _ =>
    split
    · split
      next hr => exact (((h.busRead _ _).of_eq hr).stopTicket _ _).composerRun
      next hr => exact ((h.busRead _ _).of_eq hr).overrun
    · exact h.readCode _ _ fun o n ops u hu => hu.actionOf o n ops _

/-! ### Steps of the scanner, the Composer and the result write -/

theorem scanStep (h : Keeps p false s t) : Keeps p false s t.scanStep := by
  unfold State.scanStep
  split
  · exact h.runScan.composerRun
  · exact h

theorem drawStep (h : Keeps p false s t) : Keeps p false s t.drawStep := by
  unfold State.drawStep
  split
  · exact h.composerRun
  · exact h

theorem appendStep (h : Keeps p false s t) : Keeps p false s t.appendStep := by
  unfold State.appendStep
  split
  · exact h.composerRun
  · exact h

theorem endWaitingCancel (h : Keeps p false s t) (i : Fin 8) : Keeps p false s (t.endWaitingCancel i) := by
  unfold State.endWaitingCancel
  split
  next e => exact h.endCommand _ fun _ => State.not_starts_of_cancelWaiting e
  next => exact h

theorem writeResult (h : Keeps p false s t) : Keeps p false s t.writeResult := by
  unfold State.writeResult
  split
  next i f _ =>
    split
    · exact h.setResultWrite _
    next e _ =>
      have hw := h.writeResults e.slot (e.results f) f.code
      dsimp only
      split
      · have he := ((hw.modFlight fun v => v.set i.val none).setResultWrite none).event Event.ticket
        refine settle (endWaitingCancel ?_ i)
        split
        · exact he.trigger.testPending
        · exact he
      · exact ((hw.setResultWrite _).endWaitingCancel i).fault _
  next => exact h

theorem rescanExpires (h : Keeps p false s t) : Keeps p false s t.rescanExpires := by
  unfold State.rescanExpires
  split
  · exact h
  · split
    · exact h.modScanner _
    · exact (h.modScanner _).trigger

theorem writeNudge (h : Keeps p false s t) (v : Half) : Keeps p false s (t.writeNudge v) := by
  unfold State.writeNudge
  split
  · exact h
  · exact h.trigger

/-! ### COMMAND writes (TABLE 2-5) -/

/-- A command that is taken is taken with none in progress, and so with no START under way. -/
theorem commandWrite {c : Bool} (h : Keeps p c s t) (taken : Bool) (run : State → State)
    (hr : ¬ t.desk.starts → taken = true → Keeps p c s (run t)) : Keeps p c s (t.commandWrite taken run) := by
  unfold State.commandWrite
  split
  · exact h.refuse _
  next hb =>
    have idle : t.desk.busy = none := by simpa using hb
    split
    next ht => exact hr (by simp [idle]) ht
    next => exact h.refuse _

theorem haltWrite {c : Bool} (h : Keeps p c s t) : Keeps p c s t.haltWrite := by
  refine h.commandWrite _ _ fun hb hr => ?_
  have hr : t.desk.controller = .running := by simpa using hr
  unfold State.haltCommand
  refine endCommand (event (h.modDesk _ rfl rfl rfl (by simp) fun _ => ?_) _) _ fun _ => hb
  exact .modDesk (.inr ⟨hr, rfl⟩) rfl (.inl rfl)

theorem unknownWrite {c : Bool} (h : Keeps p c s t) : Keeps p c s t.unknownWrite := by
  unfold State.unknownWrite
  split <;> exact h.refuse _

theorem sequenceWrite (h : Keeps p false s t) : Keeps p false s t.sequenceWrite := by
  refine h.commandWrite _ _ fun hb _ => ?_
  have hr := (refl true false t).busRead (t.deskAddr 0x0C) 4
  have hu := h.busRead (t.deskAddr 0x0C) 4
  unfold State.sequenceCommand
  split
  next e =>
    have hb' := (hr.of_eq e).not_starts hb
    split
    · exact (hu.of_eq e).modDesk _ rfl rfl rfl id fun _ => .modDesk (.inl rfl) rfl (.inr ⟨hb', by simp⟩)
    · exact (hu.of_eq e).finishSequence _ _ fun _ => hb'
  next u e =>
    have hb' := (hr.of_eq e).not_starts hb
    have hu := hu.of_eq e
    dsimp only
    refine endCommand ?_ _ fun _ => ?_
    · split
      · exact hu.modDesk _ rfl rfl rfl id fun _ => .modDesk (.inl rfl) rfl (.inl rfl)
      · exact hu.fault _
    · split
      · exact hb'
      · exact ((refl true false u).fault _).not_starts hb'

/-- CANCEL marks its ticket as one in progress that waits (R15, R47). -/
theorem cancelWaits {c : Bool} (h : Keeps p c s t) (i : Fin 8) (hb : ¬ t.desk.starts) : Keeps p c s (t.cancelWaits i) := by
  unfold State.cancelWaits
  exact h.modDesk _ rfl rfl rfl id fun _ => .modDesk (.inl rfl) rfl (.inr ⟨hb, by simp⟩)

theorem cancelUnbegun {c : Bool} (h : Keeps p c s t) (i : Fin 8) (hb : ¬ t.desk.starts) : Keeps p c s (t.cancelUnbegun i) :=
  (h.modEntry _ _).endCommand _ fun _ => hb

theorem cancelSuspended (h : Keeps p false s t) (i : Fin 8) (hb : ¬ t.desk.starts) : Keeps p false s (t.cancelSuspended i) := by
  have hw := (h.cancelResumed i).busWrite ((t.cancelResumed i).areaAddr (t.cancelResumed i).desk.areas.context 1) [0xFF]
  have kw := ((refl true false t).cancelResumed i).busWrite
    ((t.cancelResumed i).areaAddr (t.cancelResumed i).desk.areas.context 1) [0xFF]
  simp only [State.cancelSuspended]
  split
  · exact (h.cancelResumed i).endCommand _ fun _ => hb
  · refine endCommand ?_ _ fun _ => ?_
    · split
      · exact hw
      · exact (hw.modComposer _).fault _
    · split
      · exact kw.not_starts hb
      · exact ((kw.modComposer _).fault _).not_starts hb

theorem cancelComposition (h : Keeps p false s t) (i : Fin 8) (e : Entry) (hb : ¬ t.desk.starts) :
    Keeps p false s (t.cancelComposition i e) := by
  unfold State.cancelComposition
  split
  · split
    · exact h.endCommand _ fun _ => hb
    · split
      · exact h.cancelWaits i hb
      · split
        · exact h.cancelUnbegun i hb
        · exact (h.cancelComposed i e).composerRun.endCommand _ fun _ =>
            ((refl true false t).cancelComposed i e).composerRun.not_starts hb
  · split
    · exact h.cancelUnbegun i hb
    · split
      · split
        · split
          · exact h.cancelWaits i hb
          · exact (h.cancelResumed i).endCommand _ fun _ => hb
        · exact h.cancelSuspended i hb
      · exact h.endCommand _ fun _ => hb

theorem cancelWrite (h : Keeps p false s t) (operand : Byte) : Keeps p false s (t.cancelWrite operand) := by
  refine h.commandWrite _ _ fun hb _ => ?_
  unfold State.cancelCommand
  split
  · exact h.refuse _
  next i _ =>
    split
    · exact h.refuse _
    next e _ =>
      have hw := (h.modEntry i fun e => { e with cancelMark := true }).withdraw i
      have hb' := (((refl true false t).modEntry i fun e => { e with cancelMark := true }).withdraw i).not_starts hb
      dsimp only
      split
      · split
        · split
          · exact hw.endCommand _ fun _ => hb'
          · exact hw.cancelWaits i hb'
        · exact (hw.cancelComposition i e hb').settle
      · exact (hw.cancelComposition i e hb').settle

end Keeps

end Sys2Proof.Machine
end

section
/-! What the operations of the Proof Renderer, the Exposure Sequencer, the Film Transport, the Motion Channels and the Drum Monitor keep
(spec 06 to 10): they leave the Composer's side alone, and those of the Proof Renderer the photo-unit's side too. -/

namespace Sys2Proof.Machine

namespace Keeps

variable {p c : Bool} {s t : State}

/-! ### The Proof Renderer (spec 10) -/

theorem leaveProofRecord (h : Keeps p c s t) : Keeps p c s t.leaveProofRecord := (h.modProof _).passProof

theorem drawOp (h : Keeps p c s t) (o : DrawOp) : Keeps p c s (t.drawOp o) := by
  cases o <;> (unfold State.drawOp; exact h.modProof _)

theorem drawOps (h : Keeps p c s t) (ops : List DrawOp) : Keeps p c s (t.drawOps ops) := by
  induction ops generalizing t with
  | nil => exact h.leaveProofRecord
  | cons o rest ih =>
    unfold State.drawOps
    dsimp only
    split
    · exact ih ((h.modProof _).drawOp o)
    · exact h.modProof _

theorem drawOn (h : Keeps p c s t) : Keeps p c s t.drawOn := by
  unfold State.drawOn
  split
  · split
    · exact h
    · exact h.drawOps _
  · exact h

theorem driveByte (h : Keeps p c s t) : Keeps p c s t.driveByte := by
  unfold State.driveByte
  split
  · exact h
  · exact h.modProof _

theorem sendNext (h : Keeps p c s t) : Keeps p c s t.sendNext := by
  unfold State.sendNext
  split
  · split
    · exact h
    · exact (h.modProof _).driveByte
  · exact h

theorem proofRun (h : Keeps p c s t) : Keeps p c s t.proofRun := h.drawOn.sendNext

/-- A byte taken sets PBUSY, and nothing else of the input lines. -/
theorem byteTaken (busy : Bool) (hs : s.proof.sending.isSome = true) :
    Keeps p c (s.modPins fun q => { q with pbusy := busy, busyLong := false }) (s.byteTaken busy) := by
  unfold State.byteTaken
  split
  next e => simp [e] at hs
  · dsimp only
    split
    · exact ((refl p c _).modProof _).driveByte
    · exact ((refl p c _).modProof _).proofRun

theorem printerLines (s : State) (f : Pins → Pins) : Keeps p c (s.modPins f) (s.printerLines f) := by
  have hw := of_ite (b := ((s.modPins f).printerWait && !s.printerWait) = true)
    ((refl p c (s.modPins f)).modProof fun q => { q with timer := q.waitTimeout }) (refl p c (s.modPins f))
  unfold State.printerLines
  exact of_ite ((hw.modProof _).noticeSince _ _) hw

theorem printerReadies (s : State) :
    Keeps p c (s.modPins fun q => { q with pbusy := false, busyLong := false, pfault := false }) s.printerReadies := by
  have hw := (refl p c (s.modPins fun q => { q with pbusy := false, busyLong := false, pfault := false })).modProof
    fun q => { q with timer := 0 }
  unfold State.printerReadies
  dsimp only
  split
  · exact (hw.modProof _).noticeSince _ _
  · exact hw

theorem reportProofLost (h : Keeps p c s t) : Keeps p c s t.reportProofLost := by
  unfold State.reportProofLost
  split
  · exact h.report _ _ _
  · exact h

theorem loseDrawing (h : Keeps p c s t) : Keeps p c s t.loseDrawing := by
  unfold State.loseDrawing
  split
  · exact h
  · split
    · exact h.reportProofLost.leaveProofRecord
    · exact h.modProof _

theorem dropProof (h : Keeps p c s t) : Keeps p c s t.dropProof := ((h.modProof _).noticeSince _ _).loseDrawing

theorem takeProofRecord (h : Keeps p c s t) : Keeps p c s t.takeProofRecord := by
  unfold State.takeProofRecord
  split
  · exact h
  next r hr =>
    split
    · exact h.passProof
    · split
      · exact h.reportProofLost.passProof
      · exact ((h.holdProof hr).drawOps _).sendNext

theorem startProof (h : Keeps p c s t) : Keeps p c s t.startProof := h.modProof _

theorem reloadProof (h : Keeps p c s t) (before : Bool) : Keeps p c s (t.reloadProof before) := by
  unfold State.reloadProof
  split
  · exact (h.modProof _).noticeSince _ _
  · split
    · exact (h.modProof _).noticeSince _ _
    · exact h

theorem proofResumes (h : Keeps p c s t) : Keeps p c s t.proofResumes := by
  have hu := h.modProof (ProofRenderer.useTimeout t.desk.setup.proofTimeout)
  unfold State.proofResumes
  dsimp only
  split
  · split
    · exact hu.reportProofLost.leaveProofRecord.sendNext
    · exact hu.proofRun
  · exact hu.sendNext

/-! ### The film work of a record (spec 09) -/

theorem startChannel (h : Keeps false c s t) (k : Channel) (f : Bool) (n : Nat) : Keeps false c s (t.startChannel k f n) := h.modMotion _

theorem setEs (h : Keeps false c s t) (x : EsPhase) : Keeps false c s (t.setEs x) := h.modExposure _

theorem reportFilm (h : Keeps p c s t) (x : Half) : Keeps p c s (t.reportFilm x) := by
  unfold State.reportFilm
  split
  · exact h.report _ _ _
  · exact h

theorem reportDepth (h : Keeps p c s t) (n : Nat) : Keeps p c s (t.reportDepth n) := by
  unfold State.reportDepth
  split
  · exact h.modEntry _ _
  · exact h

theorem reportGalley (h : Keeps p c s t) (n : Nat) : Keeps p c s (t.reportGalley n) := by
  unfold State.reportGalley
  split
  · exact h.modEntry _ _
  · exact h

theorem waitForFilm (h : Keeps false c s t) (g : FilmGoal) : Keeps false c s (t.waitForFilm g) :=
  ((h.modFilm _ rfl).setEs _).noticeSince _ _

theorem needPassed (h : Keeps false c s t) (g : FilmGoal) : Keeps false c s (t.needPassed g) := by
  cases g <;> exact h.setEs _

theorem needCheck (h : Keeps false c s t) (g : FilmGoal) : Keeps false c s (t.needCheck g) := by
  unfold State.needCheck
  split
  · exact h.needPassed g
  · split
    · exact (h.reportFilm _).setEs _
    · exact h.waitForFilm g

theorem openGalley (h : Keeps false c s t) (n : Nat) (l : LeadFor) : Keeps false c s (t.openGalley n l) := by
  unfold State.openGalley
  split
  · exact h.setEs _
  · exact (h.modFilm _ rfl).setEs _

theorem startMovement (h : Keeps false c s t) (m : Movement) : Keeps false c s (t.startMovement m) := by
  unfold State.startMovement
  split
  · exact h.setEs _
  · split
    · exact h.setEs _
    · exact ((h.modFilm _ rfl).startChannel _ _ _).setEs _

theorem endMovement (h : Keeps false c s t) (m : Movement) : Keeps false c s (t.endMovement m) := by
  cases m with
  | leader => exact h.setEs _
  | lead n new l => cases l <;> exact ((h.modFilm _ rfl).reportDepth _).setEs _
  | back => exact (h.modFilm _ rfl).setEs _
  | runOut => exact (h.modFilm _ rfl).setEs _

theorem reverse (h : Keeps false c s t) (n : Nat) : Keeps false c s (t.reverse n) := by
  unfold State.reverse
  dsimp only
  refine setEs ?_ _
  split
  · exact h.reportFilm _
  · exact h

theorem returnToMark (h : Keeps false c s t) : Keeps false c s t.returnToMark := by
  unfold State.returnToMark
  split
  · exact (h.reportFilm _).setEs _
  next m _ =>
    have hr := of_ite (b := m < t.film.floor) (h.reportFilm Cond.reverseLimited) h
    exact of_ite (hr.setEs _) (hr.setEs _)

theorem leadRecord (h : Keeps false c s t) (l : Lead) : Keeps false c s (t.leadRecord l) := by
  cases l with
  | mark => exact (h.modFilm _ rfl).setEs _
  | toMark => exact h.returnToMark
  | reverse n => exact h.reverse n
  | advance => exact h.setEs _

theorem cutRecord (h : Keeps false c s t) : Keeps false c s t.cutRecord := by
  unfold State.cutRecord
  split <;> exact h.setEs _

theorem assertKnife (h : Keeps false c s t) : Keeps false c s t.assertKnife := h.modFilm _ rfl

theorem releaseKnife (h : Keeps false c s t) : Keeps false c s t.releaseKnife := h.modFilm _ rfl

/-- A cut that completes closes the galley, and from there on leaves the galley number alone. -/
theorem completeCut (s : State) (x : CutFor) : Keeps false c s.closeGalley (s.completeCut x) := by
  cases x with
  | record =>
    unfold State.completeCut
    exact setEs (of_ite (refl _ _ _) ((refl false c s.closeGalley).reportGalley _)) _
  | split g =>
    unfold State.completeCut
    exact (refl _ _ _).waitForFilm g

/-! ### The Exposure Sequencer (spec 08) -/

theorem afterMount (h : Keeps false c s t) : Keeps false c s t.afterMount := by
  unfold State.afterMount
  split <;> exact h.setEs _

theorem mountCheck (h : Keeps false c s t) (next : State → State) (hn : ∀ u, Keeps false c s u → Keeps false c s (next u)) :
    Keeps false c s (t.mountCheck next) := by
  unfold State.mountCheck
  split
  · exact hn _ (((h.modExposure _).modNotices _).noticeSince _ _)
  · exact h.setEs _
  · exact ((h.modNotices _).setEs _).noticeSince _ _

theorem mountStep (h : Keeps false c s t) : Keeps false c s t.mountStep := by
  unfold State.mountStep
  split
  · exact h.setEs _
  · exact h.mountCheck _ fun _ hu => hu.afterMount

theorem recheckMount (h : Keeps false c s t) : Keeps false c s t.recheckMount := by
  unfold State.recheckMount
  split
  · refine h.mountCheck _ fun u hu => ?_
    split
    · exact hu.afterMount
    · exact hu.setEs _
  · exact h

theorem moveCarriage (h : Keeps false c s t) (n : Nat) : Keeps false c s (t.moveCarriage n) := by
  unfold State.moveCarriage
  dsimp only
  split
  · exact h
  · exact h.startChannel _ _ _

theorem moveTurret (h : Keeps false c s t) (l : Fin 8) : Keeps false c s (t.moveTurret l) := by
  unfold State.moveTurret
  dsimp only
  split
  · exact h
  · split <;> exact h.startChannel _ _ _

theorem selectTrack (h : Keeps false c s t) (x : Fin 8) : Keeps false c s (t.selectTrack x) := by
  unfold State.selectTrack
  split
  · exact h
  · exact (h.modExposure _).modDrum _

theorem unselectTrack (h : Keeps false c s t) : Keeps false c s t.unselectTrack := h.modExposure _

theorem enterDrumWait (h : Keeps false c s t) : Keeps false c s t.enterDrumWait := h.modExposure _

theorem enterFlashing (h : Keeps false c s t) : Keeps false c s t.enterFlashing := by
  unfold State.enterFlashing
  split
  · exact h.modExposure _
  · exact h.enterDrumWait

theorem position (h : Keeps false c s t) : Keeps false c s t.position := by
  unfold State.position
  split
  · exact h
  next x _ =>
    have hm := (h.moveCarriage x.tick).moveTurret x.lens
    dsimp only
    split
    · exact hm.enterFlashing
    · exact hm.setEs _

theorem nextItem (h : Keeps false c s t) : Keeps false c s t.nextItem := by
  unfold State.nextItem
  split
  · exact h.setEs _
  · dsimp only
    split
    · exact (h.modExposure _).setEs _
    · exact ((h.modExposure _).selectTrack _).position

theorem beginItems (h : Keeps false c s t) : Keeps false c s t.beginItems := by
  unfold State.beginItems
  split <;> exact h.modExposure _

theorem finishRecord (h : Keeps false c s t) : Keeps false c s t.finishRecord := by
  unfold State.finishRecord
  exact passFilm (modExposure (of_ite (h.reportGalley _) h) _)

theorem exposurePhase (h : Keeps false c s t) : Keeps false c s t.exposurePhase := by
  unfold State.exposurePhase
  split
  · exact h.needCheck _
  · exact h.mountStep
  · exact h.openGalley _ _
  · exact h.startMovement _
  · exact h.endMovement _
  · exact h.beginItems
  · exact h.nextItem
  · exact h.assertKnife.setEs _
  · exact h.finishRecord
  all_goals exact h

theorem exposureLoop (h : Keeps false c s t) (n : Nat) : Keeps false c s (t.exposureLoop n) := by
  induction n generalizing t with
  | zero => exact h
  | succ n ih =>
    unfold State.exposureLoop
    split
    · exact ih h.exposurePhase
    · exact h

theorem exposureRun (h : Keeps false c s t) : Keeps false c s t.exposureRun := h.exposureLoop _

theorem takeFilmRecord (h : Keeps false c s t) : Keeps false c s t.takeFilmRecord := by
  unfold State.takeFilmRecord
  split
  · exact h
  next r hr =>
    split
    · exact h.passFilm
    · refine exposureRun ?_
      have hh := (h.holdFilm hr).modExposure fun x =>
        { x with item := 0, tracks := [], begun := false, coverSeen := false, mountNext := .leading }
      split
      · exact hh.setEs _
      · exact hh.leadRecord _
      · exact hh.cutRecord

theorem drumLeft (h : Keeps false c s t) : Keeps false c s t.drumLeft := by
  unfold State.drumLeft
  split
  · exact h.enterDrumWait
  · exact h.enterDrumWait
  · exact h

theorem drumRuns (h : Keeps false c s t) : Keeps false c s t.drumRuns := by
  unfold State.drumRuns
  dsimp only
  split
  · exact ((h.modNotices _).noticeSince _ _).enterFlashing
  · exact (h.modNotices _).noticeSince _ _

theorem flashEvent (h : Keeps false c s t) (n : Nat) : Keeps false c s (t.flashEvent n) := by
  unfold State.flashEvent
  split
  · split
    · exact h.modExposure _
    · exact h
  · exact h

theorem flashed (h : Keeps p c s t) (i : Fin 8) : Keeps p c s (t.modFonts fun x => x.flashed i) := by
  refine h.modFonts _ (fun q => ?_) id
  by_cases e : q = i
  · subst e
    simp [FontControl.flashed]
  · have : i.val ≠ q.val := fun e' => e (Fin.ext e'.symm)
    simp [FontControl.flashed, this]

theorem fireFlash (h : Keeps false c s t) : Keeps false c s t.fireFlash := by
  unfold State.fireFlash
  split
  · split
    · exact (h.flashed _).modExposure _
    · exact h
  · exact h

theorem endPulse (h : Keeps false c s t) : Keeps false c s t.endPulse := h.modExposure _

theorem endCoverHold (h : Keeps false c s t) : Keeps false c s t.endCoverHold := by
  unfold State.endCoverHold
  split
  · exact h.setEs _
  · exact h

theorem spoilLine (h : Keeps false c s t) : Keeps false c s t.spoilLine := by
  have h1 := of_ite (b := t.exposure.phase = .flashing .pulse) h.endPulse h
  unfold State.spoilLine
  exact endCoverHold (modExposure (of_ite (h1.reportFilm _) h1) _)

theorem coverOpens (h : Keeps false c s t) : Keeps false c s t.coverOpens := by
  unfold State.coverOpens
  split
  · exact h.spoilLine
  · exact h.spoilLine
  · exact h.spoilLine
  · exact h.setEs _
  · exact h.modExposure _

theorem exposureResumes (h : Keeps false c s t) : Keeps false c s t.exposureResumes := by
  unfold State.exposureResumes
  split
  · split
    · exact h
    · exact (h.needPassed _).exposureRun
  · exact (h.startMovement _).exposureRun
  · exact h.afterMount.exposureRun
  · exact (h.setEs _).exposureRun
  · exact h.enterFlashing
  · exact h

theorem filmInserted (h : Keeps false c s t) : Keeps false c s t.filmInserted := by
  unfold State.filmInserted
  split
  · split
    · split
      · exact (h.needPassed _).exposureRun
      · exact h
    · exact h.modFilm _ rfl
  · exact h

/-! ### The Drum Monitor (spec 08, section 9.6) -/

theorem setDrumState (h : Keeps false c s t) (d : DrumState) : Keeps false c s (t.setDrumState d) := by
  unfold State.setDrumState
  dsimp only
  split
  · exact (h.modDrum _).drumLeft
  · split
    · exact (h.modDrum _).drumRuns
    · exact h.modDrum _

theorem beginIdScan (h : Keeps false c s t) : Keeps false c s t.beginIdScan := (h.setDrumState _).modDrum _

theorem endIdScan (h : Keeps false c s t) : Keeps false c s t.endIdScan := (h.modDrum _).unselectTrack

theorem leaveScan (h : Keeps false c s t) (d : DrumState) : Keeps false c s (t.leaveScan d) := by
  unfold State.leaveScan
  split
  · exact h.endIdScan.setDrumState d
  · exact h.setDrumState d

theorem outOfStep (h : Keeps false c s t) : Keeps false c s t.outOfStep := h.leaveScan _

/-- An in-step index that completes no scan. -/
theorem indexInStep (h : Keeps false c s t) (hs : ¬ (t.drum.state = .scanning ∧ t.drum.secondRevolution = true)) :
    Keeps false c s t.indexInStep := by
  unfold State.indexInStep
  split
  · exact h.setDrumState _
  · split
    · split
      · exact h.beginIdScan
      · exact h.setDrumState _
    · exact h
  · split
    · exact h.beginIdScan
    · exact h
  next e =>
    split
    next e' => exact absurd ⟨e, e'⟩ hs
    next => exact h.modDrum _

theorem drumMark (h : Keeps false c s t) (n m : Nat) (l : Bool) : Keeps false c s (t.drumMark n m l) := by
  have step : ∀ (u : State) (b : Bool) (k : Nat), Keeps false c s u → Keeps false c s
      (if b then (match u.drum.state with
        | .stopped => (u.setDrumState .syncing).modDrum fun d => { d with qualifying := false }
        | .scanning => u.modDrum fun d => d.readBand k l
        | .syncing => u
        | .running => u)
      else u.outOfStep.modDrum fun d => { d with qualifying := false }) := by
    intro u b k hu
    split
    · split
      · exact (hu.setDrumState _).modDrum _
      · exact hu.modDrum _
      · exact hu
      · exact hu
    · exact hu.outOfStep.modDrum _
  unfold State.drumMark
  dsimp only
  split
  · exact flashEvent (step _ _ _ (h.modDrum _)) _
  · exact step _ _ _ (h.modDrum _)

theorem drumStops (h : Keeps false c s t) : Keeps false c s t.drumStops := (h.leaveScan _).modDrum _

/-! ### Motion, and the steps of START (spec 01, section 2.5.1; spec 08, section 9.3) -/

theorem atStep (h : Keeps false c s t) (x : StartStep) : Keeps false c s (t.atStep x) := by
  unfold State.atStep
  exact h.modDesk _ rfl rfl rfl id nofun

theorem startNotice (h : Keeps p c s t) (o : Owner) : Keeps p c s (t.startNotice o) := by
  unfold State.startNotice
  dsimp only
  split
  · exact h
  · exact h.beginNotice o

theorem startNotices (h : Keeps false c s t) : Keeps false c s t.startNotices :=
  (((h.atStep _).startNotice _).startNotice _).startNotice _

theorem startCut (h : Keeps false c s t) : Keeps false c s t.startCut := by
  unfold State.startCut
  split
  · exact (h.atStep _).assertKnife
  · exact h.startNotices

theorem homeChannel (h : Keeps false c s t) (k : Channel) (i f : Bool) (n : Nat) : Keeps false c s (t.homeChannel k i f n) := by
  unfold State.homeChannel
  split
  · exact h.modMotion _
  · exact (h.startChannel _ _ _).modMotion _

theorem homingEnds (h : Keeps false c s t) : Keeps false c s t.homingEnds := by
  unfold State.homingEnds
  dsimp only
  split
  · exact h
  · split
    · exact (h.modMotion _).startCut
    · exact (h.modMotion _).startFails _

theorem startHoming (h : Keeps false c s t) : Keeps false c s t.startHoming :=
  ((((h.atStep _).unselectTrack.modExposure _).homeChannel _ _ _ _).homeChannel _ _ _ _).homingEnds

theorem homingMoveEnds (h : Keeps false c s t) (k : Channel) (x : Bool) : Keeps false c s (t.homingMoveEnds k x) :=
  ((h.modMotion _).modExposure _).homingEnds

theorem moveCompletes (h : Keeps false c s t) (k : Channel) : Keeps false c s (t.moveCompletes k) := by
  have hm := (h.modMotion fun m => m.modChannel k MotionChannel.ended).modExposure fun x => x.moved k (t.motion.channel k)
  unfold State.moveCompletes
  dsimp only
  split
  · exact (hm.setEs _).exposureRun
  · exact hm
  · exact hm.position
  · exact hm.endCoverHold
  · exact hm

end Keeps

end Sys2Proof.Machine
end

section
/-! What START, RELOAD, RESUME and the notice writes keep (spec 01), and what every command keeps: all but RESET and power-on keep what
`Keeps` names, from the change that the command itself makes to it on. -/

namespace Sys2Proof.Machine

/-- The reads of the three tables as a function of their pointers. -/
def State.readTablesAt (h : List Byte) (g : List Grant) (l r y : Nat) (s : State) : LoadEnd × State :=
  match s.readTable l 224 with
  | (none, s) => (.busError, s)
  | (some letters, s) =>
    match s.readTable r 256 with
    | (none, s) => (.busError, s)
    | (some pairs, s) =>
      match s.readTable y 1344 with
      | (none, s) => (.busError, s)
      | (some glyphs, s) => (.loaded ⟨h, g, letters, pairs, glyphs⟩, s)

/-- The pointers are 32-bit sums that the kernel must not set out to evaluate, so the two sides are compared with the reader of such fields
abstracted. -/
theorem State.readTables_eq (h : List Byte) (g : List Grant) (s : State) :
    s.readTables h g = s.readTablesAt h g (longAt h 0x14) (longAt h 0x18) (longAt h 0x1C) := by
  generalize hF : State.readTables = F
  delta State.readTables at hF
  subst hF
  generalize longAt = field
  revert field
  refine id fun field => ?_
  rfl

namespace Keeps

variable {c : Bool} {s t : State}

/-! ### START, RELOAD and RESUME -/

theorem readTable {p : Bool} (h : Keeps p c s t) (ptr n : Nat) : Keeps p c s (t.readTable ptr n).2 := by
  unfold State.readTable
  split
  · exact h
  · exact h.busRead _ _

theorem readTablesAt {p : Bool} (h : Keeps p c s t) (b : List Byte) (g : List Grant) (l r y : Nat) :
    Keeps p c s (t.readTablesAt b g l r y).2 := by
  have h1 := h.readTable l 224
  unfold State.readTablesAt
  split
  next e => exact h1.of_eq e
  next e =>
    have h2 := (h1.of_eq e).readTable r 256
    split
    next e => exact h2.of_eq e
    next e =>
      have h3 := (h2.of_eq e).readTable y 1344
      split
      next e => exact h3.of_eq e
      next e => exact h3.of_eq e

theorem readTables {p : Bool} (h : Keeps p c s t) (b : List Byte) (g : List Grant) : Keeps p c s (t.readTables b g).2 := by
  rw [State.readTables_eq]
  exact h.readTablesAt _ _ _ _ _

theorem readDesk {p : Bool} (h : Keeps p c s t) : Keeps p c s t.readDesk.2 := by
  have h1 := h.busRead (t.deskAddr 0) headerSize
  unfold State.readDesk
  split
  next e => exact h1.of_eq e
  next b _ e =>
    split
    · exact h1.of_eq e
    · have h2 := (h1.of_eq e).busRead
      split
      next e => exact (h2 _ _).of_eq e
      next e =>
        split
        · exact ((h2 _ _).of_eq e).readTables _ _
        · exact (h2 _ _).of_eq e

theorem takeCopies {p : Bool} (h : Keeps p c s t) (x : Holding) : Keeps p c s (t.takeCopies x) := by
  unfold State.takeCopies
  exact (((h.modDesk _ rfl rfl rfl id fun _ => .modDesk (.inl rfl) rfl (.inl rfl)).modHyphenation _).modProof _).modDrum _

theorem startBlocks (h : Keeps false false s t) (x : Holding) : Keeps false false s (t.startBlocks x) := by
  unfold State.startBlocks
  exact ((((h.modScanner _).modFonts _ (fun _ => rfl) (by simp)).modComposer _).modFilm _ rfl).startProof

theorem startEnds (h : Keeps false false s t) : Keeps false false s t.startEnds := by
  unfold State.startEnds
  exact ((h.modDesk _ rfl rfl rfl (by simp) nofun).modScanner _).trigger.testPending.endCommand _ nofun

theorem refuseStart (h : Keeps false c s t) (x : HaltCause) : Keeps false c s (t.refuseStart x) := by
  unfold State.refuseStart
  exact ((h.modDesk _ rfl rfl rfl id nofun).event _).endCommand _ nofun

theorem startWrite (h : Keeps false false s t) : Keeps false false s t.startWrite := by
  unfold State.startWrite
  split
  · exact (h.refuse _).event _
  · split
    · have hr := (h.modDesk (fun d => { d with busy := some .start }) rfl rfl rfl id nofun).readDesk
      unfold State.startCommand
      split
      next e => exact (hr.of_eq e).refuseStart _
      next e => exact (hr.of_eq e).refuseStart _
      next e => exact (((hr.of_eq e).takeCopies _).startBlocks _).startHoming
    · exact (h.refuse _).event _

theorem reloadWrite {p : Bool} (h : Keeps p false s t) : Keeps p false s t.reloadWrite := by
  refine h.commandWrite _ _ fun hb _ => ?_
  have kr := (refl true false t).readDesk
  have hr := h.readDesk
  unfold State.reloadCommand
  dsimp only
  split
  next e => exact (hr.of_eq e).endCommand _ fun _ => (kr.of_eq e).not_starts hb
  next e => exact (hr.of_eq e).endCommand _ fun _ => (kr.of_eq e).not_starts hb
  next e =>
    refine endCommand ((((hr.of_eq e).takeCopies _).reloadProof _).modScanner _) _ fun _ => ?_
    exact (((kr.of_eq e).takeCopies _).reloadProof _).not_starts hb

theorem retryNotice {p : Bool} (h : Keeps p c s t) (o : Owner) : Keeps p c s (t.retryNotice o) := of_ite (h.beginNotice o) h

theorem retryCancelWrite {p : Bool} (h : Keeps p false s t) : Keeps p false s t.retryCancelWrite := by
  have hw := h.busWrite (t.areaAddr t.desk.areas.context 1) [0xFF]
  simp only [State.retryCancelWrite]
  split
  · split
    · exact hw.modComposer _
    · exact hw.fault _
  · exact h

theorem retryNotices {p : Bool} (h : Keeps p c s t) :
    Keeps p c s (((t.retryNotice .photoUnit).retryNotice .film).retryNotice .proof) :=
  ((h.retryNotice _).retryNotice _).retryNotice _

theorem releaseBlocks (h : Keeps false false s t) : Keeps false false s t.releaseBlocks :=
  ((h.exposureResumes.proofResumes.retryNotices.setResultWrite _).retryCancelWrite.retryTray.composerRun).trigger.testPending

theorem resumeStart (h : Keeps false false s t) (x : StartStep) : Keeps false false s (t.resumeStart x) := by
  have hb := h.modDesk (fun d => { d with busy := some .resume }) rfl rfl rfl id nofun
  cases x with
  | homing => exact hb.startHoming
  | clearingCut => exact hb.startCut
  | notices =>
    unfold State.resumeStart
    exact of_ite hb.retryNotices.startEnds hb.retryNotices

theorem resumeWrite (h : Keeps false false s t) : Keeps false false s t.resumeWrite := by
  refine h.commandWrite _ _ fun _ _ => ?_
  unfold State.resumeCommand
  split
  · exact h.resumeStart _
  · exact ((h.modDesk _ rfl rfl rfl (by simp) nofun).releaseBlocks.settle).endCommand _ nofun

/-! ### Notice writes -/

theorem renotice {p : Bool} (h : Keeps p c s t) (o : Owner) : Keeps p c s (t.renotice o) := of_ite (h.beginNotice o) h

theorem writeNotice (h : Keeps false false s t) (o : Owner) : Keeps false false s (t.writeNotice o) := by
  unfold State.writeNotice
  dsimp only
  split
  next n _ _ =>
    have hw := h.busWrite (t.noticeAddr o) n.bytes
    split
    · exact of_ite (((hw.modNotices _).event _).renotice o).startEnds (((hw.modNotices _).event _).renotice o)
    · exact of_ite ((hw.modNotices _).startFails _) ((hw.modNotices _).fault _)
  next => exact h

/-! ### Bus errors -/

theorem stepOf (h : Keeps false false s t) (b : BusStep) : Keeps false false s (State.stepOf b t) := by
  induction b with
  | start => exact h.startWrite
  | reload => exact h.reloadWrite
  | sequence => exact h.sequenceWrite
  | resume => exact h.resumeWrite
  | cancel operand => exact h.cancelWrite operand
  | scan => exact h.scanStep
  | resultWrite => exact h.writeResult
  | takeCode => exact h.nextCode
  | widthTableLoad => exact h.loadCompletes
  | dictionaryLookup => exact h.lookupCompletes
  | itemDraw => exact h.drawStep
  | groupAppend => exact h.appendStep
  | noticeWrite o => exact h.writeNotice o
  | further _ _ _ ih => exact ih

/-- The bus is armed for the step of a bus error alone. -/
theorem of_setBus {p : Bool} {b : Option BusFault} (h : Keeps p c (s.setBus b) t) (ht : t.bus = none) : Keeps p c s t :=
  { h with
    bus := fun _ => ht
    photoSide := fun e => { h.photoSide e with }
    composerSide := fun e => { h.composerSide e with } }

theorem failStep (s : State) (b : BusStep) (acked : Nat) (landed : Bool) : Keeps false false s (s.failStep b acked landed) := by
  unfold State.failStep
  dsimp only
  split
  next e => exact ((refl false false _).stepOf b).of_setBus e
  next => exact refl _ _ s

end Keeps

end Sys2Proof.Machine
end

section
/-! What every command keeps: all but RESET and power-on keep what `Keeps` names, from the change on that the command itself makes to it. -/

namespace Sys2Proof

/-! ### The side of a command -/

/-- The step of a bus error leaves the photo-unit's side alone. -/
def BusStep.leavesPhoto : BusStep → Bool
  | .start | .resume | .noticeWrite _ => false
  | .further during _ _ => BusStep.leavesPhoto during
  | _ => true

/-- A command leaves the photo-unit's side alone. -/
def Instr.leavesPhoto : Instr → Bool
  | .start _ | .resume _ | .reset _ | .powerOn | .noticeWriteDone _ | .exposureTakeRecord | .motionComplete _ _ | .trackSettled | .mark _ _
  | .index _ | .drumWatch | .flashDelayExpiry | .flashEnd | .lampReady | .drumWaitTimeout | .coverOpen | .cassetteInsertion | .takeupPresent
  | .knifeDone | .knifeTimeout => false
  | .busError during _ _ => during.leavesPhoto
  | _ => true

/-- A command leaves the side of the Ticket Scanner and the Composer alone. -/
def Instr.leavesComposer : Instr → Bool
  | .halt _ | .unknownCommand _ _ | .deskbaseWrite _ | .eventsClear _ | .eventmaskWrite _ | .registerWriteIgnored _ | .exposureTakeRecord
  | .motionComplete _ _ | .trackSettled | .mark _ _ | .index _ | .drumWatch | .flashDelayExpiry | .flashEnd | .lampReady | .drumWaitTimeout
  | .coverOpen | .coverClose | .cassetteInsertion | .cassetteRemoval | .takeupAbsent | .takeupPresent | .knifeDone | .knifeTimeout
  | .proofTakeRecord | .printerByte _ | .proofDrop | .printerBusyTimeout | .printerFault | .printerReady => true
  | _ => false

end Sys2Proof

namespace Sys2Proof.Machine

/-! ### The change a command itself makes -/

/-- What a command itself changes of what its operations keep: a register at its own write, an input line at the events that report it, the
strips of the Mount Table at the index that completes an ID scan, and the galley number at KNIFE DONE. -/
inductive Outside : Instr → State → State → Prop
  | nothing (c : Instr) (s : State) : Outside c s s
  | deskbase (v : Half) (s : State) (hc : s.desk.controller = .stopped) (hb : s.desk.busy = none) :
      Outside (.deskbaseWrite v) s (s.modDesk fun d => { d with base := hiByte v })
  | eventmask (v : Half) (s : State) :
      Outside (.eventmaskWrite v) s (s.modDesk fun d => { d with mask := v.extractLsb' 0 4, page := v.getLsbD 15 })
  | coverOpen (s : State) : Outside .coverOpen s (s.modPins fun p => { p with coverOpen := true })
  | coverClose (s : State) : Outside .coverClose s (s.modPins fun p => { p with coverOpen := false })
  | cassetteInsertion (s : State) : Outside .cassetteInsertion s (s.modPins fun p => { p with cassette := true })
  | cassetteRemoval (s : State) : Outside .cassetteRemoval s (s.modPins fun p => { p with cassette := false })
  | takeupAbsent (s : State) : Outside .takeupAbsent s (s.modPins fun p => { p with takeup := false })
  | takeupPresent (s : State) : Outside .takeupPresent s (s.modPins fun p => { p with takeup := true })
  | motion (k : Channel) (level : Bool) (s : State) (hb : (s.motion.channel k).busy = true) :
      Outside (.motionComplete k level) s (s.modPins fun p => p.homeInput k level)
  | printerByte (busy : Bool) (s : State) :
      Outside (.printerByte busy) s (s.modPins fun p => { p with pbusy := busy, busyLong := false })
  | printerBusyTimeout (s : State) : Outside .printerBusyTimeout s (s.modPins fun p => { p with pbusy := true, busyLong := true })
  | printerFault (s : State) : Outside .printerFault s (s.modPins fun p => { p with pfault := true })
  | printerReady (s : State) : Outside .printerReady s (s.modPins fun p => { p with pbusy := false, busyLong := false, pfault := false })
  | scanned (elapsed : Nat) (s : State) (r : Vector Half 8) (hd : s.drum.state = .scanning) (hr : s.drum.secondRevolution = true)
      (hm : s.drum.markCount = 111) : Outside (.index elapsed) s (s.modFonts fun x => x.scanned r)
  | galley (s : State) (hk : s.film.knife = true) : Outside .knifeDone s s.closeGalley

namespace Keeps

variable {s t : State}

/-- A command's outcome, taken back to the change it makes itself. -/
abbrev From (c : Instr) (s t : State) : Prop := ∃ u, Outside c s u ∧ Keeps c.leavesPhoto c.leavesComposer u t

theorem From.of_keeps {c : Instr} (h : Keeps c.leavesPhoto c.leavesComposer s t) : From c s t := ⟨s, .nothing c s, h⟩


/-! ### The steps whose bus accesses may fail -/

theorem stepOf_leavesPhoto (h : Keeps true false s t) (b : BusStep) (hb : b.leavesPhoto = true) :
    Keeps true false s (State.stepOf b t) := by
  induction b with
  | start => cases hb
  | reload => exact h.reloadWrite
  | sequence => exact h.sequenceWrite
  | resume => cases hb
  | cancel operand => exact h.cancelWrite operand
  | scan => exact h.scanStep
  | resultWrite => exact h.writeResult
  | takeCode => exact h.nextCode
  | widthTableLoad => exact h.loadCompletes
  | dictionaryLookup => exact h.lookupCompletes
  | itemDraw => exact h.drawStep
  | groupAppend => exact h.appendStep
  | noticeWrite o => cases hb
  | further _ _ _ ih => exact ih hb

theorem failStep_leavesPhoto (s : State) (b : BusStep) (acked : Nat) (landed : Bool) :
    Keeps b.leavesPhoto false s (s.failStep b acked landed) := by
  cases hb : b.leavesPhoto with
  | false => exact failStep s b acked landed
  | true =>
    unfold State.failStep
    dsimp only
    split
    next e => exact ((refl true false _).stepOf_leavesPhoto b hb).of_setBus e
    next => exact refl _ _ s

/-! ### The drum -/

/-- The strips a scan has read are what it makes of any Mount Table. -/
theorem scanned {p c : Bool} (h : Keeps p c s t) (r : Vector Half 8) :
    Keeps p c (s.modFonts fun x => x.scanned r) (t.modFonts fun x => x.scanned r) :=
  { h with
    strips := fun q => by simp [FontControl.scanned]
    confirmed := fun _ => rfl
    photoSide := fun e => { h.photoSide e with }
    composerSide := fun e => { h.composerSide e with } }

/-- An index, and the scan it may complete. -/
theorem drumIndex (s : State) (n elapsed : Nat) : ∃ u, Outside (.index elapsed) s u ∧ Keeps false true u (s.drumIndex n elapsed) := by
  have ends : ∀ (u v w : State) (a : Bool), Keeps false true u v → w = v.modDrum (fun d => { d with qualifying := true }) →
      Keeps false true u (if a then w.flashEvent 0 else w) := fun u v w a h e =>
    e ▸ of_ite ((h.modDrum _).flashEvent 0) (h.modDrum _)
  have hz := (refl false true s).modDrum fun d => { d.indexHigh with markCount := 0, intervalCounter := 4095 }
  unfold State.drumIndex
  dsimp only
  by_cases hi : ((s.drum.state == .stopped || intervalInStep n (intervalOf elapsed)) && s.drum.markCount == 111) = true
  · by_cases hs : s.drum.state = .scanning ∧ s.drum.secondRevolution = true
    · refine ⟨_, .scanned elapsed s s.drum.readings hs.1 hs.2 (by simp at hi; exact hi.2), ends _ _ _ _ ?_ rfl⟩
      rw [if_pos hi]
      simp only [State.indexInStep, State.modDrum_drum, Drum.indexHigh, hs, State.completeIdScan, if_true]
      exact ((hz.endIdScan.setDrumState .running).scanned _).recheckMount.exposureRun
    · exact ⟨s, .nothing _ s, ends _ _ _ _ (if_pos hi ▸ hz.indexInStep hs) rfl⟩
  · exact ⟨s, .nothing _ s, ends _ _ _ _ (if_neg hi ▸ hz.outOfStep) rfl⟩

/-- KNIFE DONE, and the galley it may close. -/
theorem knifeDone (s : State) : From .knifeDone s s.knifeDone := by
  unfold State.knifeDone
  split
  next hk =>
    split
    · exact ⟨_, .galley s hk, (completeCut s _).exposureRun⟩
    · split
      · exact ⟨_, .galley s hk, ((refl false true _).modFilm _ rfl).startNotices⟩
      · exact .of_keeps (refl _ _ _)
  next => exact .of_keeps (refl _ _ _)

theorem motionEnds (s : State) (k : Channel) (home : Bool) : From (.motionComplete k home) s (s.motionEnds k home) := by
  unfold State.motionEnds
  split
  next hb =>
    have h := refl false true (s.modPins fun p => p.homeInput k home)
    exact ⟨_, .motion k home s hb, of_ite (h.homingMoveEnds k home) (h.moveCompletes k)⟩
  next => exact .of_keeps (refl _ _ _)

theorem coverOpen (s : State) (h : execCoverOpen s = .next t) : From .coverOpen s t := by
  unfold execCoverOpen at h
  split at h
  · cases h
    exact .of_keeps (refl _ _ _)
  · cases h
    have hc := (refl false true (s.modPins fun p => { p with coverOpen := true })).modFonts
      (fun x => { x with confirmed := false }) (fun _ => rfl) (by simp)
    exact ⟨_, .coverOpen s, (of_ite (hc.leaveScan _) hc).coverOpens.noticeSince _ _⟩

theorem cassetteInsertion (s : State) (h : execCassetteInsertion s = .next t) : From .cassetteInsertion s t := by
  have hc := refl false true (s.modPins fun p => { p with cassette := true })
  unfold execCassetteInsertion at h
  dsimp only at h
  split at h
  · cases h
    exact .of_keeps (refl _ _ _)
  · split at h <;> cases h
    · exact ⟨_, .cassetteInsertion s, hc.modFilm _ rfl⟩
    · exact ⟨_, .cassetteInsertion s, (hc.modFilm _ rfl).filmInserted.noticeSince _ _⟩

theorem takeupPresent (s : State) (h : execTakeupPresent s = .next t) : From .takeupPresent s t := by
  have hc := (refl false true (s.modPins fun p => { p with takeup := true })).noticeSince .film s
  refine ⟨_, .takeupPresent s, ?_⟩
  unfold execTakeupPresent at h
  dsimp only at h
  split at h
  · split at h <;> cases h
    · exact (hc.startMovement _).exposureRun
    · exact hc
  · cases h
    exact hc

theorem trackSettled (s : State) (h : execTrackSettled s = .next t) : Keeps false true s t := by
  have hm := (refl false true s).modExposure fun x => { x with settled := true }
  unfold execTrackSettled at h
  dsimp only at h
  split at h
  · split at h <;> cases h
    · exact hm.position
    · exact hm
  · cases h
    exact refl _ _ _

theorem mark (s : State) (n : Nat) (l : Bool) (h : execMark n l s = .next t) : Keeps false true s t := by
  unfold execMark at h
  split at h <;> cases h
  · exact (refl _ _ _).modDrum _
  · exact (refl _ _ _).drumMark _ _ _

theorem index (s : State) (n : Nat) (h : execIndex n s = .next t) : From (.index n) s t := by
  unfold execIndex at h
  split at h
  · cases h
    exact .of_keeps ((refl _ _ _).modDrum _)
  · split at h <;> cases h
    · exact .of_keeps ((refl _ _ _).modDrum _)
    · exact drumIndex s _ n

/-- A command that is answered at once where its condition does not hold. -/
theorem of_condition {p c : Bool} {b : Prop} [Decidable b] {u : State} (hu : Keeps p c s u)
    (h : (if b then Host.Outcome.next u else .next s : Host.Outcome State Fault Refusal) = .next t) : Keeps p c s t := by
  split at h <;> cases h
  · exact hu
  · exact refl _ _ _

theorem takeOverrun (s : State) (h : execTakeOverrun s = .next t) : Keeps true false s t := by
  unfold execTakeOverrun at h
  split at h
  · cases h
    exact refl _ _ _
  · exact of_condition (refl _ _ _).overrun h

/-- Every command but RESET and power-on keeps what `Keeps` names, from the change it makes itself on. -/
theorem exec_from (c : Instr) (h : exec c s = .next t) (hr : ∀ o, c ≠ .reset o) (hp : c ≠ .powerOn) : From c s t := by
  cases c with
  | reset o => exact absurd rfl (hr o)
  | powerOn => exact absurd rfl hp
  | start => cases h; exact .of_keeps (refl _ _ _).startWrite
  | halt => cases h; exact .of_keeps (refl _ _ _).haltWrite
  | resume => cases h; exact .of_keeps (refl _ _ _).resumeWrite
  | reload => cases h; exact .of_keeps (refl _ _ _).reloadWrite
  | sequence => cases h; exact .of_keeps (refl _ _ _).sequenceWrite
  | cancel o => cases h; exact .of_keeps ((refl _ _ _).cancelWrite o)
  | unknownCommand => cases h; exact .of_keeps (refl _ _ _).unknownWrite
  | deskbaseWrite v =>
    cases h
    unfold State.writeDeskbase
    split
    next hd => exact ⟨_, .deskbase v s hd.1 hd.2, refl _ _ _⟩
    next => exact .of_keeps (refl _ _ _)
  | nudge v => cases h; exact .of_keeps ((refl _ _ _).writeNudge v)
  | eventsClear => cases h; exact .of_keeps ((refl _ _ _).modDesk _ rfl rfl rfl id fun _ => .modDesk (.inl rfl) rfl (.inl rfl))
  | eventmaskWrite v => cases h; exact ⟨_, .eventmask v s, refl _ _ _⟩
  | registerWriteIgnored => cases h; exact .of_keeps (refl _ _ _)
  | busError b n l => cases h; exact .of_keeps (failStep_leavesPhoto s b n l)
  | rescanTimerExpiry => cases h; exact .of_keeps (refl _ _ _).rescanExpires
  | scan => cases h; exact .of_keeps (refl _ _ _).scanStep
  | resultWrite => cases h; exact .of_keeps (refl _ _ _).writeResult
  | character => cases h; exact .of_keeps ((refl _ _ _).takeCode _ _ fun o n ops _ hu => hu.actCharacter o n ops)
  | wordSpace => cases h; exact .of_keeps ((refl _ _ _).takeCode _ _ fun o n ops _ hu => hu.actWordSpace o n ops)
  | fixedSpace => cases h; exact .of_keeps ((refl _ _ _).takeCode _ _ fun o n ops _ hu => hu.actFixedSpace o n ops)
  | discretionaryHyphen => cases h; exact .of_keeps ((refl _ _ _).takeCode _ _ fun o n ops _ hu => hu.actDiscretionary o n ops)
  | endLine => cases h; exact .of_keeps ((refl _ _ _).takeCode _ _ fun o n ops _ hu => hu.actEndLine o n ops)
  | endParagraph => cases h; exact .of_keeps ((refl _ _ _).takeCode _ _ fun o n ops _ hu => hu.actEndParagraph o n ops)
  | endOfTake => cases h; exact .of_keeps ((refl _ _ _).takeCode _ _ fun o n ops _ hu => hu.actEndOfTake o n ops)
  | takeOverrun => exact .of_keeps (takeOverrun s h)
  | markColumnTop => cases h; exact .of_keeps ((refl _ _ _).takeCode _ _ fun o n ops _ hu => hu.actMark o n ops)
  | returnToMark => cases h; exact .of_keeps ((refl _ _ _).takeCode _ _ fun o n ops _ hu => hu.actToMark o n ops)
  | reverseLead => cases h; exact .of_keeps ((refl _ _ _).takeCode _ _ fun o n ops _ hu => hu.actReverse o n ops)
  | leadNow => cases h; exact .of_keeps ((refl _ _ _).takeCode _ _ fun o n ops _ hu => hu.actAdvance o n ops)
  | hyphenationOff => cases h; exact .of_keeps ((refl _ _ _).takeCode _ _ fun o n ops _ hu => hu.actHyphenation o n ops false)
  | hyphenationOn => cases h; exact .of_keeps ((refl _ _ _).takeCode _ _ fun o n ops _ hu => hu.actHyphenation o n ops true)
  | fill => cases h; exact .of_keeps ((refl _ _ _).takeCode _ _ fun o n ops _ hu => hu.actFill o n ops)
  | font => cases h; exact .of_keeps ((refl _ _ _).takeCode _ _ fun o n ops _ hu => hu.actFont o n ops)
  | widthTableLoad => cases h; exact .of_keeps (refl _ _ _).loadCompletes
  | pointSize => cases h; exact .of_keeps ((refl _ _ _).takeCode _ _ fun o n ops _ hu => hu.actPointSize o n ops)
  | setSize => cases h; exact .of_keeps ((refl _ _ _).takeCode _ _ fun o n ops _ hu => hu.actSetSize o n ops)
  | leading => cases h; exact .of_keeps ((refl _ _ _).takeCode _ _ fun o n ops _ hu => hu.actLeading o n ops)
  | measure => cases h; exact .of_keeps ((refl _ _ _).takeCode _ _ fun o n ops _ hu => hu.actMeasure o n ops)
  | indentLeft => cases h; exact .of_keeps ((refl _ _ _).takeCode _ _ fun o n ops _ hu => hu.actIndentLeft o n ops)
  | indentRight => cases h; exact .of_keeps ((refl _ _ _).takeCode _ _ fun o n ops _ hu => hu.actIndentRight o n ops)
  | tabStopSet => cases h; exact .of_keeps ((refl _ _ _).takeCode _ _ fun o n ops _ hu => hu.actTabStopSet o n ops)
  | tabTo => cases h; exact .of_keeps ((refl _ _ _).takeCode _ _ fun o n ops _ hu => hu.actTabTo o n ops)
  | moveTo => cases h; exact .of_keeps ((refl _ _ _).takeCode _ _ fun o n ops _ hu => hu.actMoveTo o n ops)
  | moveBy => cases h; exact .of_keeps ((refl _ _ _).takeCode _ _ fun o n ops _ hu => hu.actMoveBy o n ops)
  | letterspaceLimit => cases h; exact .of_keeps ((refl _ _ _).takeCode _ _ fun o n ops _ hu => hu.actLetterspace o n ops)
  | badCode => cases h; exact .of_keeps ((refl _ _ _).takeCode _ _ fun o n ops _ hu => hu.actBadCode o n ops)
  | dictionaryLookup => cases h; exact .of_keeps (refl _ _ _).lookupCompletes
  | itemDraw => cases h; exact .of_keeps (refl _ _ _).drawStep
  | groupAppend => cases h; exact .of_keeps (refl _ _ _).appendStep
  | exposureTakeRecord => exact .of_keeps (of_condition (refl _ _ _).takeFilmRecord h)
  | motionComplete k home => cases h; exact motionEnds s k home
  | trackSettled => exact .of_keeps (trackSettled s h)
  | mark n l => exact .of_keeps (mark s n l h)
  | index n => exact index s n h
  | drumWatch =>
    change execDrumWatch s = _ at h
    unfold execDrumWatch at h
    split at h <;> cases h
    · exact .of_keeps (refl _ _ _)
    · exact .of_keeps (refl _ _ _).drumStops
  | flashDelayExpiry => cases h; exact .of_keeps (refl _ _ _).fireFlash
  | flashEnd => exact .of_keeps (of_condition ((refl _ _ _).endPulse.modExposure _).exposureRun h)
  | lampReady => cases h; exact .of_keeps ((refl _ _ _).modExposure _)
  | drumWaitTimeout =>
    exact .of_keeps (of_condition (((((refl _ _ _).modExposure _).fault _).modNotices _).noticeSince _ _) h)
  | coverOpen => exact coverOpen s h
  | coverClose =>
    change execCoverClose s = _ at h
    unfold execCoverClose at h
    split at h <;> cases h
    · exact ⟨_, .coverClose s, (refl _ _ _).noticeSince _ _⟩
    · exact .of_keeps (refl _ _ _)
  | noticeWriteDone o => cases h; exact .of_keeps ((refl _ _ _).writeNotice o)
  | cassetteInsertion => exact cassetteInsertion s h
  | cassetteRemoval => cases h; exact ⟨_, .cassetteRemoval s, refl _ _ _⟩
  | takeupAbsent => cases h; exact ⟨_, .takeupAbsent s, (refl _ _ _).noticeSince _ _⟩
  | takeupPresent => exact takeupPresent s h
  | knifeDone => cases h; exact knifeDone s
  | knifeTimeout =>
    cases h
    refine .of_keeps ?_
    unfold State.knifeTimesOut
    split
    · split
      · exact ((refl _ _ _).releaseKnife.setEs _).fault _
      · exact of_ite ((refl _ _ _).releaseKnife.startFails _) (refl _ _ _)
    · exact refl _ _ _
  | proofTakeRecord => exact .of_keeps (of_condition (refl _ _ _).takeProofRecord h)
  | printerByte busy =>
    change execPrinterByte busy s = _ at h
    unfold execPrinterByte at h
    split at h
    next hc => cases h; exact ⟨_, .printerByte busy s, byteTaken busy hc.1⟩
    next => cases h; exact .of_keeps (refl _ _ _)
  | proofDrop => exact .of_keeps (of_condition (refl _ _ _).dropProof h)
  | printerBusyTimeout => cases h; exact ⟨_, .printerBusyTimeout s, printerLines s _⟩
  | printerFault => cases h; exact ⟨_, .printerFault s, printerLines s _⟩
  | printerReady => cases h; exact ⟨_, .printerReady s, printerReadies s⟩

end Keeps
end Sys2Proof.Machine
end

section
/-! The statements about every command and every step that `Keeps` answers. -/

namespace Sys2Proof.Machine

/-! ### RESET and power-on -/

/-- A write stopped on its way stores some of its bytes and leaves the rest of the state (R16). -/
theorem State.stopWrites_keeps (s : State) : Keeps true true s s.stopWrites := by
  have cut : ∀ {t : State} (a : Addr) (bs : List Byte), Keeps true true s t → Keeps true true s (t.cutShort a bs) :=
    fun a bs h => (h.storeBytes a _).drawFree
  have notice : ∀ {t : State} (o : Owner), Keeps true true s t → Keeps true true s (t.stopNotice o) := by
    intro t o h
    unfold State.stopNotice
    dsimp only
    split
    · exact cut _ _ h
    · exact h
  refine notice .proof (notice .film (notice .photoUnit ?_))
  unfold State.stopResult
  split
  · split
    · exact cut _ _ (.refl _ _ s)
    · exact .refl _ _ s
  · exact .refl _ _ s

/-! ### Every command -/

/-- A RESET that is not refused is taken. -/
theorem State.resetWrite_cases (s : State) : s.resetWrite = s.refuse .refusedBusy ∨ s.resetWrite = s.resetCommand := by
  unfold State.resetWrite State.commandWrite
  split
  · exact .inl rfl
  · exact .inr rfl

/-- Every command is RESET taken, power-on, or one that keeps what `Keeps` names from its own change on. -/
theorem exec_cases {c : Instr} {s t : State} (h : exec c s = .next t) :
    ((∃ o, c = .reset o) ∧ t = s.resetCommand) ∨ (c = .powerOn ∧ t = s.powerOnReset)
      ∨ ∃ u, Outside c s u ∧ Keeps false false u t := by
  have away : (∀ o, c ≠ .reset o) → c ≠ .powerOn → ∃ u, Outside c s u ∧ Keeps false false u t := fun hr hp =>
    have ⟨u, hu, k⟩ := Keeps.exec_from c h hr hp
    ⟨u, hu, k.forget⟩
  cases c with
  | reset o =>
    cases h
    obtain e | e := s.resetWrite_cases
    · exact .inr (.inr ⟨s, .nothing _ s, e ▸ (Keeps.refl _ _ s).refuse _⟩)
    · exact .inl ⟨⟨o, rfl⟩, e⟩
  | powerOn =>
    cases h
    exact .inr (.inl ⟨rfl, rfl⟩)
  | _ => exact .inr (.inr (away nofun nofun))

/-- A step is its command's, on the state with the queue's rest. -/
theorem step_cases {s t : State} (h : step s = .next t) : t = s ∨ ∃ c rest, exec c (s.setPending rest) = .next t := by
  unfold step at h
  split at h
  · cases h
    exact .inl rfl
  · exact .inr ⟨_, _, h⟩

/-- What a command keeps of a state, a step keeps: the queue is no part of it. -/
theorem step_of_exec {P : State → Prop} (hq : ∀ s rest, P s → P (s.setPending rest))
    (he : ∀ c s t, P s → exec c s = .next t → P t) (s t : State) (hs : P s) (h : step s = .next t) : P t := by
  obtain rfl | ⟨c, rest, e⟩ := step_cases h
  · exact hs
  · exact he c _ t (hq s rest hs) e

/-- A law that the operations keep, that no change of a command's own touches, and that RESET and power-on keep, every step keeps. -/
theorem step_of_keeps {P : State → Prop} (hq : ∀ s rest, P s → P (s.setPending rest)) (ho : ∀ c s u, Outside c s u → P s → P u)
    (hk : ∀ s t, Keeps false false s t → P s → P t) (hr : ∀ s, P s → P s.resetCommand) (hp : ∀ s, P s → P s.powerOnReset) :
    ∀ s t, P s → step s = .next t → P t :=
  step_of_exec hq fun c s t hs h => by
    obtain ⟨-, rfl⟩ | ⟨-, rfl⟩ | ⟨u, hu, k⟩ := exec_cases h
    · exact hr s hs
    · exact hp s hs
    · exact hk u t k (ho c s u hu hs)

/-! ### What a command's own change leaves -/

namespace Outside

variable {c : Instr} {s u : State}

theorem pending (h : Outside c s u) : u.pending = s.pending := by cases h <;> rfl
theorem mem (h : Outside c s u) : u.mem = s.mem := by cases h <;> rfl
theorem store (h : Outside c s u) : u.store = s.store := by cases h <;> rfl
theorem bus (h : Outside c s u) : u.bus = s.bus := by cases h <;> rfl
theorem controller (h : Outside c s u) : u.desk.controller = s.desk.controller := by cases h <;> rfl

end Outside

/-! ### The invariants of every step -/

/-- Settles O5: every operation of the model writes memory by `storeBytes`, which keeps the form. -/
theorem stepKeepsMemoryForm : Obligations.StepKeepsMemoryForm := by
  unfold Obligations.StepKeepsMemoryForm
  refine step_of_keeps (fun _ _ h => h) (fun c s u h e => ?outside) (fun _ _ k => k.memory) (fun s h => ?reset) fun s h => ?power
  case outside => simpa [State.memoryLaw, h.mem] using e
  case reset => simpa [State.resetCommand, State.resetBlocks, State.memoryLaw] using s.stopWrites_keeps.memory h
  case power => simpa [State.powerOnReset, State.memoryLaw] using s.stopWrites_keeps.memory h

/-- Settles O7: no operation stops the controller but RESET and power-on, which empty the store, and none fills the store of a stopped
one. -/
theorem stepKeepsTheStoppedStoreEmpty : Obligations.StepKeepsTheStoppedStoreEmpty := by
  unfold Obligations.StepKeepsTheStoppedStoreEmpty
  refine step_of_keeps (fun _ _ h => h) (fun c s u h e => ?_) (fun _ _ k => k.stopped) (fun s _ _ => rfl) fun s _ _ => rfl
  simpa [State.stoppedLaw, h.store, h.controller] using e

/-- The first half of O6. -/
theorem step_keeps_storeLaw : ∀ s t : State, s.storeLaw → step s = .next t → t.storeLaw := by
  have empty : ∀ s : State, s.store = LineStore.initial → s.storeLaw := by
    intro s e
    simp [State.storeLaw, e, LineStore.initial, Cursor.reached]
  refine step_of_keeps (fun _ _ h => h) (fun c s u h e => ?_) (fun _ _ k => k.store) (fun s _ => empty _ rfl) fun s _ => empty _ rfl
  simpa [State.storeLaw, h.store] using e

/-- Settles O8: the bus is armed for the step of a bus error alone, which ends with it disarmed or is no step. -/
theorem stepLeavesNoBusAccess : Obligations.StepLeavesNoBusAccess := by
  unfold Obligations.StepLeavesNoBusAccess
  refine step_of_keeps (fun _ _ h => h) (fun c s u h e => h.bus.trans e) (fun _ _ k => k.bus) (fun s h => ?reset) fun s h => ?power
  case reset => simpa [State.resetCommand, State.resetBlocks] using h
  case power => simpa [State.powerOnReset] using h

/-! ### What changes at its own commands alone -/

/-- An arm that answers at once where its condition does not hold answers. -/
theorem answers_ite {b : Prop} [Decidable b] (t u : State) :
    ∃ v, (if b then Host.Outcome.next t else .next u : Host.Outcome State Fault Refusal) = .next v := by
  split
  · exact ⟨t, rfl⟩
  · exact ⟨u, rfl⟩

/-- The dispatch has no arm that faults or refuses. -/
theorem exec_next (c : Instr) (s : State) : ∃ t, exec c s = .next t := by
  cases c with
  | takeOverrun =>
    change ∃ t, execTakeOverrun s = _
    unfold execTakeOverrun
    split
    · exact ⟨s, rfl⟩
    · exact answers_ite _ _
  | trackSettled =>
    change ∃ t, execTrackSettled s = _
    unfold execTrackSettled
    split
    · exact answers_ite _ _
    · exact ⟨s, rfl⟩
  | mark n l =>
    change ∃ t, execMark n l s = _
    unfold execMark
    split <;> exact ⟨_, rfl⟩
  | index n =>
    change ∃ t, execIndex n s = _
    unfold execIndex
    split
    · exact ⟨_, rfl⟩
    · exact answers_ite _ _
  | cassetteInsertion =>
    change ∃ t, execCassetteInsertion s = _
    unfold execCassetteInsertion
    split
    · exact ⟨s, rfl⟩
    · exact answers_ite _ _
  | takeupPresent =>
    change ∃ t, execTakeupPresent s = _
    unfold execTakeupPresent
    dsimp only
    split
    · exact answers_ite _ _
    · exact ⟨_, rfl⟩
  | exposureTakeRecord | drumWatch | flashEnd | drumWaitTimeout | coverOpen | coverClose | proofTakeRecord | printerByte | proofDrop =>
    exact answers_ite _ _
  | _ => exact ⟨_, rfl⟩

/-- Settles O2: each arm of the dispatch answers a next state, and of the updates of the state that the arms are made of none touches the
queue. -/
theorem everyCommandAnswersNext : Obligations.EveryCommandAnswersNext := by
  unfold Obligations.EveryCommandAnswersNext
  intro c s
  obtain ⟨t, h⟩ := exec_next c s
  refine ⟨t, h, ?_⟩
  obtain ⟨-, rfl⟩ | ⟨-, rfl⟩ | ⟨u, hu, k⟩ := exec_cases h
  · simp [State.resetCommand, State.resetBlocks]
  · simp [State.powerOnReset]
  · exact k.pending.trans hu.pending

/-- Settles O9. -/
theorem deskbaseAndEventmaskKeepTheirValues : Obligations.DeskbaseAndEventmaskKeepTheirValues := by
  unfold Obligations.DeskbaseAndEventmaskKeepTheirValues
  intro c s t h
  obtain ⟨-, rfl⟩ | ⟨rfl, -⟩ | ⟨u, hu, k⟩ := exec_cases h
  · exact ⟨fun e => absurd s.resetCommand_desk_base e, fun e => absurd (by simp [State.resetCommand]) e⟩
  · exact ⟨fun _ => .inl rfl, fun _ => .inl rfl⟩
  · rw [k.base, k.mask, k.page]
    cases hu with
    | deskbase v _ hc hb => exact ⟨fun _ => .inr ⟨v, rfl, hc, hb⟩, fun e => absurd rfl e⟩
    | eventmask v => exact ⟨fun e => absurd rfl e, fun _ => .inr ⟨v, rfl⟩⟩
    | _ => exact ⟨fun e => absurd rfl e, fun e => absurd rfl e⟩

/-- Settles O11. -/
theorem mountTableChangesAtAScan : Obligations.MountTableChangesAtAScan := by
  unfold Obligations.MountTableChangesAtAScan
  intro c s t h
  have same : ∀ u : State, u.fonts = s.fonts → (∀ p : Fin 8, (t.fonts.mount[p]).strip = (u.fonts.mount[p]).strip) →
      (t.fonts.confirmed = true → u.fonts.confirmed = true) →
      ¬ ((∃ p : Fin 8, (t.fonts.mount[p]).strip ≠ (s.fonts.mount[p]).strip)
        ∨ (s.fonts.confirmed = false ∧ t.fonts.confirmed = true)) := by
    rintro u e hs hc (⟨p, hp⟩ | ⟨hf, ht⟩)
    · exact hp (e ▸ hs p)
    · exact absurd (e ▸ hc ht) (by simp [hf])
  obtain ⟨-, rfl⟩ | ⟨rfl, -⟩ | ⟨u, hu, k⟩ := exec_cases h
  · exact fun e => absurd e (same s rfl (by simp [State.resetCommand, State.resetBlocks]) (by simp [State.resetCommand, State.resetBlocks]))
  · exact fun _ => .inl rfl
  · cases hu with
    | scanned elapsed _ r hd hr hm => exact fun _ => .inr ⟨elapsed, rfl, hd, hr, hm⟩
    | _ => exact fun e => absurd e (same _ rfl k.strips k.confirmed)

/-- Of the input lines a reset changes the home inputs of the moves it stops alone. -/
theorem State.stopMoves_pinsThroughReset (s : State) : s.pinsThroughReset s.stopWrites.stopMoves.pins := by
  simpa [State.pinsThroughReset] using s.stopWrites.stopMoves_pins

/-- The clauses of O12 at a command that stops the moves. -/
theorem inputLines_of_reset {c : Instr} {s : State} {p : Pins} (hp : s.pinsThroughReset p)
    (hc : (∃ o, c = .reset o) ∨ c = .powerOn) :
    (p.coverOpen ≠ s.pins.coverOpen → c = .coverOpen ∨ c = .coverClose)
      ∧ (p.cassette ≠ s.pins.cassette → c = .cassetteInsertion ∨ c = .cassetteRemoval)
      ∧ (p.takeup ≠ s.pins.takeup → c = .takeupAbsent ∨ c = .takeupPresent)
      ∧ (p.home ≠ s.pins.home → s.motion.carriage.busy = true
        ∧ ((∃ level, c = .motionComplete .carriage level) ∨ (∃ operand, c = .reset operand) ∨ c = .powerOn))
      ∧ (p.turretIndex ≠ s.pins.turretIndex → s.motion.turret.busy = true
        ∧ ((∃ level, c = .motionComplete .turret level) ∨ (∃ operand, c = .reset operand) ∨ c = .powerOn))
      ∧ ((p.pbusy, p.busyLong) ≠ (s.pins.pbusy, s.pins.busyLong) →
        (∃ busy, c = .printerByte busy) ∨ c = .printerBusyTimeout ∨ c = .printerReady)
      ∧ (p.pfault ≠ s.pins.pfault → c = .printerFault ∨ c = .printerReady) := by
  obtain ⟨e, hh, ht⟩ := hp
  have busy : ∀ {b : Bool} {P : Prop}, (b = false → P) → ¬ P → b = true := fun h hn => by
    rw [← Bool.not_eq_false]
    exact hn ∘ h
  refine ⟨fun n => absurd ?_ n, fun n => absurd ?_ n, fun n => absurd ?_ n, fun n => ⟨busy hh n, .inr hc⟩,
    fun n => ⟨busy ht n, .inr hc⟩, fun n => absurd ?_ n, fun n => absurd ?_ n⟩ <;> rw [e]

/-- Settles O12. -/
theorem inputLinesChangeAtTheirEvents : Obligations.InputLinesChangeAtTheirEvents := by
  unfold Obligations.InputLinesChangeAtTheirEvents
  intro c s t h
  obtain ⟨hc, rfl⟩ | ⟨hc, rfl⟩ | ⟨u, hu, k⟩ := exec_cases h
  · exact inputLines_of_reset s.stopMoves_pinsThroughReset (.inl hc)
  · exact inputLines_of_reset s.stopMoves_pinsThroughReset (.inr hc)
  · rw [k.pins]
    cases hu with
    | motion ch level _ hb =>
      cases ch with
      | carriage => simpa [Pins.homeInput, Motion.channel] using fun _ => hb
      | turret => simpa [Pins.homeInput, Motion.channel] using fun _ => hb
      | film => simp [Pins.homeInput]
    | galley => simp [State.closeGalley, State.releaseKnife]
    | _ => simp

/-- The first half of O10. -/
theorem galleyNumber_changes_at_knifeDone (c : Instr) (s t : State) (h : exec c s = .next t)
    (hne : t.film.galleyNumber ≠ s.film.galleyNumber) :
    c = .powerOn
      ∨ (c = .knifeDone ∧ s.film.knife = true
        ∧ t.film.galleyNumber = if s.film.galleyNumber = 65535 then 1 else s.film.galleyNumber + 1) := by
  obtain ⟨-, rfl⟩ | ⟨rfl, -⟩ | ⟨u, hu, k⟩ := exec_cases h
  · exact absurd (by simp [State.resetCommand, State.resetBlocks, Film.reset]) hne
  · exact .inl rfl
  · cases hu with
    | galley _ hk => exact .inr ⟨rfl, hk, k.galleyNumber⟩
    | _ => exact absurd k.galleyNumber hne

end Sys2Proof.Machine
end

section
/-! The law of the film and of the transport (R129, R133, R151, R152): every step keeps them. A record is exposed only with START behind the part
(`Exposing`), START is carried out only with no record in hand (`Starting`), and what does neither leaves the transport as it is
(`TransportStands`). -/

namespace Sys2Proof.Machine

/-! ### The Desk Interface after an event and after a command -/

@[simp] theorem State.event_desk (e : BitVec 4) (s : State) : (s.event e).desk = { s.desk with events := s.desk.events ||| e } := rfl

@[simp] theorem State.endCommand_desk (r : CmdResult) (s : State) : (s.endCommand r).desk = { s.desk.ends r with busy := none } := rfl

@[simp] theorem State.refuse_desk (r : CmdResult) (s : State) : (s.refuse r).desk = s.desk.ends r := rfl

@[simp] theorem State.homeChannel_desk (k : Channel) (i f : Bool) (n : Nat) (s : State) : (s.homeChannel k i f n).desk = s.desk := by
  unfold State.homeChannel
  split <;> rfl

/-! ### What the laws read -/

/-- The two laws of O10. -/
def State.photoLaw (s : State) : Prop := s.transportLaw ∧ s.filmLaw

/-- No homing of the three channels is under way or held (R133). -/
structure Motion.Unhomed (m : Motion) : Prop where
  carriage : m.carriage.homing = .none
  turret : m.turret.homing = .none
  film : m.film.homing = .none

/-- What the laws read stands, but that a running controller may have halted and a command other than START or its RESUME may have begun or
ended. -/
structure TransportStands (s t : State) : Prop where
  phase : t.exposure.phase = s.exposure.phase
  carriage : t.motion.carriage.homing = s.motion.carriage.homing
  turret : t.motion.turret.homing = s.motion.turret.homing
  filmChannel : t.motion.film.homing = s.motion.film.homing
  position : t.film.position = s.film.position
  deepest : t.film.deepest = s.film.deepest
  galleyOpen : t.film.galleyOpen = s.film.galleyOpen
  controller : t.desk.controller = s.desk.controller ∨ (s.desk.controller = .running ∧ t.desk.controller = .halted)
  startStep : t.desk.startStep = s.desk.startStep
  busy : t.desk.busy = s.desk.busy ∨ (¬ s.desk.starts ∧ ¬ t.desk.starts)

theorem PhotoStands.transport {s t : State} (h : PhotoStands s t) : TransportStands s t :=
  ⟨by rw [h.exposure], by rw [h.motion], by rw [h.motion], by rw [h.motion], by rw [h.film], by rw [h.film], by rw [h.film],
    h.controller, h.startStep, h.busy⟩

namespace TransportStands

variable {s t : State}

theorem starts (h : TransportStands s t) : t.desk.starts ↔ s.desk.starts := by
  obtain e | ⟨hs, ht⟩ := h.busy
  · rw [Desk.starts, e]
  · exact iff_of_false ht hs

theorem floor (h : TransportStands s t) : t.film.floor = s.film.floor := by simp [Film.floor, h.deepest]

theorem modExposure (s : State) (f : Exposure → Exposure) (hf : (f s.exposure).phase = s.exposure.phase) :
    TransportStands s (s.modExposure f) :=
  ⟨hf, rfl, rfl, rfl, rfl, rfl, rfl, .inl rfl, rfl, .inl rfl⟩

theorem modFilm (s : State) (f : Film → Film) (hp : (f s.film).position = s.film.position) (hd : (f s.film).deepest = s.film.deepest)
    (hg : (f s.film).galleyOpen = s.film.galleyOpen) : TransportStands s (s.modFilm f) :=
  ⟨rfl, rfl, rfl, rfl, hp, hd, hg, .inl rfl, rfl, .inl rfl⟩

theorem modPins (s : State) (f : Pins → Pins) : TransportStands s (s.modPins f) :=
  ⟨rfl, rfl, rfl, rfl, rfl, rfl, rfl, .inl rfl, rfl, .inl rfl⟩

theorem photoLaw (h : TransportStands s t) : s.photoLaw → t.photoLaw := by
  rintro ⟨⟨idle, running, homing, film, back, need⟩, floor, deepest⟩
  have hrun : t.desk.controller = .running → s.desk.controller = .running := by
    obtain e | ⟨e, -⟩ := h.controller
    · exact e ▸ id
    · exact fun _ => e
  have hstop : t.desk.controller = .stopped → s.desk.controller = .stopped := by
    obtain e | ⟨-, e⟩ := h.controller
    · exact e ▸ id
    · simp [e]
  refine ⟨⟨?_, ?_, ?_, ?_, ?_, ?_⟩, ?_, ?_⟩
  · rw [h.phase, h.startStep, h.starts]
    exact fun e => idle (e.imp_left hstop)
  · rw [h.startStep, h.starts]
    exact running ∘ hrun
  · rw [h.carriage, h.turret, h.startStep, h.starts]
    exact homing
  · rw [h.filmChannel]
    exact film
  · rw [h.phase, h.floor, h.deepest]
    exact back
  · rw [h.phase, h.galleyOpen]
    exact need
  · rw [h.floor, h.position]
    exact floor
  · rw [h.position, h.deepest]
    exact deepest

end TransportStands

/-- What an operation that leaves the photo-unit's side alone keeps. -/
theorem State.photoLaw.keeps {s t : State} {c : Bool} (h : s.photoLaw) (k : Keeps true c s t) : t.photoLaw :=
  (k.photoSide rfl).transport.photoLaw h

/-! ### A part that exposes, and one that starts -/

/-- The part may expose a record: START is behind it, no homing is under way, and the film stands within its bounds. -/
structure Transporting (s : State) : Prop where
  controller : s.desk.controller ≠ .stopped
  startStep : s.desk.startStep = none
  starts : ¬ s.desk.starts
  unhomed : s.motion.Unhomed
  floor : s.film.floor ≤ s.film.position
  deepest : s.film.position ≤ s.film.deepest

/-- A phase that the transport stands ready for: a backward target within its bounds, and a wait for film only with the galley closed. -/
def Film.allows (f : Film) (p : EsPhase) : Prop :=
  (∀ target, p.backTo? = some target → f.floor ≤ target ∧ target ≤ f.deepest) ∧ ∀ g, p = .needWait g → f.galleyOpen = false

/-- The part may expose, and stands at a phase it may stand at. -/
structure Exposing (s : State) : Prop extends Transporting s where
  phase : s.film.allows s.exposure.phase

/-- START, or the RESUME that carries it out, is in progress: no record is in hand. -/
structure Starting (s : State) : Prop where
  idle : s.exposure.phase = .idle
  controller : s.desk.controller ≠ .running
  starts : s.desk.starts
  film : s.motion.film.homing = .none
  floor : s.film.floor ≤ s.film.position
  deepest : s.film.position ≤ s.film.deepest

theorem Film.allows_idle (f : Film) : f.allows .idle := ⟨nofun, nofun⟩

theorem Exposing.photoLaw {s : State} (h : Exposing s) : s.photoLaw := by
  refine ⟨⟨fun e => ?_, fun _ => ⟨h.startStep, h.starts⟩, fun e => ?_, h.unhomed.film, h.phase.1, h.phase.2⟩, h.floor, h.deepest⟩
  · simp [h.controller, h.startStep, h.starts] at e
  · simp [h.unhomed.carriage, h.unhomed.turret] at e

theorem Starting.photoLaw {s : State} (h : Starting s)
    (hm : s.motion.carriage.homing ≠ .none ∨ s.motion.turret.homing ≠ .none → s.desk.startStep = some .homing) : s.photoLaw := by
  refine ⟨⟨fun _ => h.idle, fun e => absurd e h.controller, fun e => ⟨h.starts, hm e⟩, h.film, ?_, ?_⟩, h.floor, h.deepest⟩
  · simp [h.idle, EsPhase.backTo?]
  · simp [h.idle]

namespace State.photoLaw

variable {s : State}

/-- Behind START the law is that of a part that exposes. -/
theorem exposing_of (h : s.photoLaw) (hc : s.desk.controller ≠ .stopped) (hp : s.desk.startStep = none) (hs : ¬ s.desk.starts) :
    Exposing s := by
  obtain ⟨⟨-, -, homing, film, back, need⟩, floor, deepest⟩ := h
  have none : s.motion.carriage.homing = .none ∧ s.motion.turret.homing = .none := by
    by_contra hn
    exact hs (homing (not_and_or.1 hn)).1
  exact { controller := hc, startStep := hp, starts := hs, unhomed := ⟨none.1, none.2, film⟩, floor, deepest, phase := ⟨back, need⟩ }

/-- A record is in hand only behind START. -/
theorem exposing (h : s.photoLaw) (hp : s.exposure.phase ≠ .idle) : Exposing s := by
  have hn := fun e => hp (h.1.1 e)
  simp only [not_or, imp_false] at hn
  exact h.exposing_of hn.1 (by simpa using hn.2.1) (by simpa using hn.2.2)

theorem exposing_of_running (h : s.photoLaw) (hr : s.desk.controller = .running) : Exposing s :=
  have ⟨hp, hs⟩ := h.1.2.1 hr
  h.exposing_of (by simp [hr]) hp hs

/-- With START in progress no record is in hand. -/
theorem starting (h : s.photoLaw) (hs : s.desk.starts) : Starting s :=
  ⟨h.1.1 (.inr (.inr hs)), fun hr => (h.1.2.1 hr).2 hs, hs, h.1.2.2.2.1, h.2.1, h.2.2⟩

/-- Homing is START's first step alone. -/
theorem unhomed (h : s.photoLaw) (hs : ¬ (s.desk.starts ∧ s.desk.startStep = some .homing)) : s.motion.Unhomed := by
  have none : s.motion.carriage.homing = .none ∧ s.motion.turret.homing = .none := by
    by_contra hn
    exact hs (h.1.2.2.1 (not_and_or.1 hn))
  exact ⟨none.1, none.2, h.1.2.2.2.1⟩

end State.photoLaw

/-! ### Updates of a part that exposes -/

namespace Transporting

variable {s t : State}

theorem stands (h : Transporting s) (k : TransportStands s t) : Transporting t where
  controller := by
    obtain e | ⟨-, e⟩ := k.controller
    · exact e ▸ h.controller
    · simp [e]
  startStep := k.startStep.trans h.startStep
  starts := fun e => h.starts (k.starts.1 e)
  unhomed := ⟨k.carriage.trans h.unhomed.carriage, k.turret.trans h.unhomed.turret, k.filmChannel.trans h.unhomed.film⟩
  floor := by rw [k.floor, k.position]; exact h.floor
  deepest := by rw [k.position, k.deepest]; exact h.deepest

theorem keeps {c : Bool} (h : Transporting s) (k : Keeps true c s t) : Transporting t := h.stands (k.photoSide rfl).transport

/-- The phase of the Exposure Sequencer is none of what `Transporting` reads. -/
theorem modExposure (h : Transporting s) (f) : Transporting (s.modExposure f) := { h with }

theorem modExposure_exposing (h : Transporting s) (f) (hp : s.film.allows (f s.exposure).phase) : Exposing (s.modExposure f) :=
  { h.modExposure f with phase := hp }

theorem setEs_of (h : Transporting s) (p : EsPhase) (hp : s.film.allows p) : Exposing (s.setEs p) := h.modExposure_exposing _ hp

/-- The phases that wait for no film and move nothing back. -/
theorem setEs (h : Transporting s) (p : EsPhase) (hb : p.backTo? = none) (hn : ∀ g, p ≠ .needWait g) : Exposing (s.setEs p) :=
  h.setEs_of p ⟨by simp [hb], fun g e => absurd e (hn g)⟩

theorem modFilm (h : Transporting s) (f) (hf : (f s.film).floor ≤ (f s.film).position) (hd : (f s.film).position ≤ (f s.film).deepest) :
    Transporting (s.modFilm f) :=
  { h with floor := hf, deepest := hd }

theorem startChannel (h : Transporting s) (k : Channel) (f : Bool) (n : Nat) : Transporting (s.startChannel k f n) :=
  have ⟨hc, ht, hf⟩ := h.unhomed
  { h with
    unhomed := by
      cases k with
      | carriage => exact ⟨rfl, ht, hf⟩
      | film => exact ⟨hc, ht, rfl⟩
      | turret => exact ⟨hc, rfl, hf⟩ }

end Transporting

namespace Exposing

variable {s t : State}

theorem stands (h : Exposing s) (k : TransportStands s t) : Exposing t :=
  { h.toTransporting.stands k with
    phase := by
      have := h.phase
      rwa [Film.allows, k.phase, k.floor, k.deepest, k.galleyOpen] }

theorem keeps {c : Bool} (h : Exposing s) (k : Keeps true c s t) : Exposing t := h.stands (k.photoSide rfl).transport

theorem modExposure (h : Exposing s) (f : Exposure → Exposure) (hf : (f s.exposure).phase = s.exposure.phase) :
    Exposing (s.modExposure f) :=
  h.stands (.modExposure s f hf)

theorem startChannel (h : Exposing s) (k : Channel) (f : Bool) (n : Nat) : Exposing (s.startChannel k f n) :=
  { h.toTransporting.startChannel k f n with phase := h.phase }

end Exposing

/-! ### The film work of a record -/

namespace Transporting

variable {s : State}

theorem waitForFilm (h : Transporting s) (g : FilmGoal) (hg : s.film.galleyOpen = false) : Exposing (s.waitForFilm g) := by
  have hw := h.modFilm (fun f => { f with filmOut := true }) h.floor h.deepest
  exact (hw.setEs_of (.needWait g) ⟨nofun, fun _ _ => hg⟩).keeps ((Keeps.refl true true _).noticeSince .film s)

theorem needPassed (h : Transporting s) (g : FilmGoal) : Exposing (s.needPassed g) := by
  cases g <;> exact h.setEs _ rfl nofun

theorem needCheck (h : Transporting s) (g : FilmGoal) : Exposing (s.needCheck g) := by
  unfold State.needCheck
  split
  · exact h.needPassed g
  · split
    · exact (h.keeps ((Keeps.refl true true _).reportFilm _)).setEs _ rfl nofun
    next hg => exact h.waitForFilm g (by simpa using hg)

theorem openGalley (h : Transporting s) (n : Nat) (l : LeadFor) : Exposing (s.openGalley n l) := by
  unfold State.openGalley
  split
  · exact h.setEs _ rfl nofun
  · exact (h.modFilm (fun f => { f with galleyOpen := true }) h.floor h.deepest).setEs _ rfl nofun

theorem startMovement (h : Transporting s) (m : Movement) (hm : s.film.allows (.startMove m)) : Exposing (s.startMovement m) := by
  have allows : ∀ {p : EsPhase} {f : Film}, p.backTo? = (EsPhase.startMove m).backTo? → (∀ g, p ≠ .needWait g) →
      f.floor = s.film.floor → f.deepest = s.film.deepest → f.allows p := fun hp hn hf hd =>
    ⟨by rw [hp, hf, hd]; exact hm.1, fun g e => absurd e (hn g)⟩
  unfold State.startMovement
  split
  · exact h.setEs_of _ (allows (by cases m <;> rfl) nofun rfl rfl)
  · split
    · exact h.setEs_of _ (allows (by cases m <;> rfl) nofun rfl rfl)
    · refine ((h.modFilm _ ?_ ?_).startChannel _ _ _).setEs_of _ (allows (by cases m <;> rfl) nofun rfl rfl)
      · exact h.floor
      · exact h.deepest

theorem endMovement (h : Transporting s) (m : Movement) (hm : s.film.allows (.moved m)) : Exposing (s.endMovement m) := by
  have hf := h.floor
  have hd := h.deepest
  cases m with
  | leader => exact h.setEs _ rfl nofun
  | lead n new l =>
    have ht : Transporting (s.modFilm fun f => { f with position := f.position + n, deepest := max f.deepest (f.position + n) }) := by
      refine h.modFilm _ ?_ ?_
      · simp only [Film.floor] at hf ⊢
        omega
      · exact Nat.le_max_right ..
    cases l <;> exact (ht.keeps ((Keeps.refl true true _).reportDepth _)).setEs _ rfl nofun
  | back _ target =>
    obtain ⟨lo, hi⟩ := hm.1 target rfl
    exact (h.modFilm (fun f => { f with position := target }) lo hi).setEs _ rfl nofun
  | runOut =>
    exact (h.modFilm (fun f => { f with position := f.deepest }) (Nat.sub_le _ _) (Nat.le_refl _)).setEs _ rfl nofun

end Transporting

/-! ### The steps of a record -/

namespace Transporting

variable {s : State}

theorem reverse (h : Transporting s) (n : Nat) : Exposing (s.reverse n) := by
  have ht : Transporting (if decide (s.film.position < s.film.floor + n) then s.reportFilm Cond.reverseLimited else s) :=
    h.keeps (.of_ite ((Keeps.refl true true s).reportFilm _) (.refl true true s))
  refine ht.setEs_of _ ⟨fun target e => ?_, nofun⟩
  have hd := h.deepest
  have hf := h.floor
  obtain rfl : _ = target := Option.some.inj e
  have film : (if decide (s.film.position < s.film.floor + n) then s.reportFilm Cond.reverseLimited else s).film = s.film := by
    split <;> simp
  rw [film]
  split
  · exact ⟨Nat.le_refl _, Nat.le_trans hf hd⟩
  next hn =>
    simp only [decide_eq_true_eq] at hn
    omega

theorem returnToMark (h : Transporting s) : Exposing s.returnToMark := by
  have report := h.keeps ((Keeps.refl true true s).reportFilm Cond.reverseLimited)
  unfold State.returnToMark
  split
  · exact report.setEs _ rfl nofun
  next m _ =>
    have ht : Transporting (if m < s.film.floor then s.reportFilm Cond.reverseLimited else s) :=
      h.keeps (.of_ite ((Keeps.refl true true s).reportFilm _) (.refl true true s))
    have film : (if m < s.film.floor then s.reportFilm Cond.reverseLimited else s).film = s.film := by
      split <;> simp
    dsimp only
    rw [film]
    split
    · exact ht.setEs _ rfl nofun
    next hn =>
      refine ht.setEs_of _ ⟨fun target e => ?_, nofun⟩
      obtain rfl : _ = target := Option.some.inj e
      have hd := h.deepest
      rw [film]
      exact ⟨Nat.le_max_left .., by omega⟩

theorem leadRecord (h : Transporting s) (l : Lead) : Exposing (s.leadRecord l) := by
  cases l with
  | mark => exact (h.modFilm (fun f => { f with mark := some f.position }) h.floor h.deepest).setEs _ rfl nofun
  | toMark => exact h.returnToMark
  | reverse n => exact h.reverse n
  | advance => exact h.setEs _ rfl nofun

theorem cutRecord (h : Transporting s) : Exposing s.cutRecord := by
  unfold State.cutRecord
  split <;> exact h.setEs _ rfl nofun

theorem assertKnife (h : Transporting s) : Transporting s.assertKnife := h.modFilm _ h.floor h.deepest

theorem releaseKnife (h : Transporting s) : Transporting s.releaseKnife := h.modFilm _ h.floor h.deepest

/-- At KNIFE DONE the galley closes with P and D at 0. -/
theorem closeGalley (h : Transporting s) : Transporting s.closeGalley := by
  unfold State.closeGalley
  exact h.releaseKnife.modFilm _ (by simp [Film.floor]) (Nat.le_refl _)

theorem completeCut (h : Transporting s) (x : CutFor) : Exposing (s.completeCut x) := by
  have closed := h.closeGalley
  cases x with
  | record =>
    refine Transporting.setEs ?_ _ rfl nofun
    split
    · exact closed
    · exact closed.keeps ((Keeps.refl true true _).reportGalley _)
  | split g => exact closed.waitForFilm g rfl

theorem afterMount (h : Transporting s) : Exposing s.afterMount := by
  unfold State.afterMount
  split <;> exact h.setEs _ rfl nofun

theorem mountCheck (h : Transporting s) (next : State → State) (hn : ∀ u, Transporting u → Exposing (next u)) :
    Exposing (s.mountCheck next) := by
  unfold State.mountCheck
  split
  · exact hn _ ((h.modExposure _).keeps (((Keeps.refl true true _).modNotices _).noticeSince _ _))
  · exact h.setEs _ rfl nofun
  · exact ((h.keeps ((Keeps.refl true true _).modNotices _)).setEs .mountWait rfl nofun).keeps ((Keeps.refl true true _).noticeSince _ _)

theorem mountStep (h : Transporting s) : Exposing s.mountStep := by
  unfold State.mountStep
  split
  · exact h.setEs _ rfl nofun
  · exact h.mountCheck _ fun _ hu => hu.afterMount

theorem beginItems (h : Transporting s) : Exposing s.beginItems := by
  unfold State.beginItems
  split <;> exact h.modExposure_exposing _ ⟨nofun, nofun⟩

theorem finishRecord (h : Transporting s) : Exposing s.finishRecord := by
  have ht : ∀ b : Bool, Transporting (if b then s.reportGalley s.film.galleyNumber else s) := fun b =>
    h.keeps (.of_ite ((Keeps.refl true true s).reportGalley _) (.refl true true s))
  exact ((ht _).modExposure_exposing _ (Film.allows_idle _)).keeps (Keeps.refl true true _).passFilm

theorem enterDrumWait (h : Transporting s) : Exposing s.enterDrumWait := h.modExposure_exposing _ ⟨nofun, nofun⟩

theorem enterFlashing (h : Transporting s) : Exposing s.enterFlashing := by
  unfold State.enterFlashing
  split
  · exact h.modExposure_exposing _ ⟨nofun, nofun⟩
  · exact h.enterDrumWait

end Transporting

namespace Exposing

variable {s : State}

theorem moveCarriage (h : Exposing s) (n : Nat) : Exposing (s.moveCarriage n) := by
  unfold State.moveCarriage
  dsimp only
  split
  · exact h
  · exact h.startChannel _ _ _

theorem moveTurret (h : Exposing s) (l : Fin 8) : Exposing (s.moveTurret l) := by
  unfold State.moveTurret
  dsimp only
  split
  · exact h
  · split <;> exact h.startChannel _ _ _

theorem selectTrack (h : Exposing s) (x : Fin 8) : Exposing (s.selectTrack x) := by
  unfold State.selectTrack
  split
  · exact h
  · exact (h.modExposure _ rfl).keeps ((Keeps.refl true true _).modDrum _)

theorem position (h : Exposing s) : Exposing s.position := by
  unfold State.position
  split
  · exact h
  next x _ =>
    have hm := (h.moveCarriage x.tick).moveTurret x.lens
    dsimp only
    split
    · exact hm.enterFlashing
    · exact hm.setEs _ rfl nofun

theorem nextItem (h : Exposing s) : Exposing s.nextItem := by
  unfold State.nextItem
  split
  · exact h.setEs _ rfl nofun
  · dsimp only
    split
    · exact (h.toTransporting.modExposure _).setEs _ rfl nofun
    · exact ((h.modExposure _ rfl).selectTrack _).position

theorem exposurePhase (h : Exposing s) : Exposing s.exposurePhase := by
  have hp := h.phase
  unfold State.exposurePhase
  split
  · exact h.needCheck _
  · exact h.mountStep
  · exact h.openGalley _ _
  next e => exact h.startMovement _ (e ▸ hp)
  next e => exact h.endMovement _ (e ▸ hp)
  · exact h.beginItems
  · exact h.nextItem
  · exact h.assertKnife.setEs _ rfl nofun
  · exact h.finishRecord
  all_goals exact h

theorem exposureLoop (h : Exposing s) (n : Nat) : Exposing (s.exposureLoop n) := by
  induction n generalizing s with
  | zero => exact h
  | succ n ih =>
    unfold State.exposureLoop
    split
    · exact ih h.exposurePhase
    · exact h

theorem exposureRun (h : Exposing s) : Exposing s.exposureRun := h.exposureLoop _

theorem takeFilmRecord (h : Exposing s) : Exposing s.takeFilmRecord := by
  unfold State.takeFilmRecord
  split
  · exact h
  next r hr =>
    split
    · exact h.keeps (Keeps.refl true true _).passFilm
    · refine exposureRun ?_
      have hh := (h.keeps ((Keeps.refl true true s).holdFilm hr)).toTransporting.modExposure fun x =>
        { x with item := 0, tracks := [], begun := false, coverSeen := false, mountNext := .leading }
      split
      · exact hh.setEs _ rfl nofun
      · exact hh.leadRecord _
      · exact hh.cutRecord

theorem endCoverHold (h : Exposing s) : Exposing s.endCoverHold := by
  unfold State.endCoverHold
  split
  · exact h.setEs _ rfl nofun
  · exact h

theorem spoilLine (h : Exposing s) : Exposing s.spoilLine := by
  have h1 : Transporting (if s.exposure.phase = .flashing .pulse then s.endPulse else s) := by
    split
    · exact h.toTransporting.modExposure _
    · exact h.toTransporting
  unfold State.spoilLine
  exact endCoverHold ((h1.keeps (.of_ite ((Keeps.refl true true _).reportFilm _) (.refl true true _))).modExposure_exposing _
    ⟨nofun, nofun⟩)

theorem exposureResumes (h : Exposing s) : Exposing s.exposureResumes := by
  have hp := h.phase
  unfold State.exposureResumes
  split
  · split
    · exact h
    · exact (h.needPassed _).exposureRun
  next m e =>
    refine (h.startMovement m ?_).exposureRun
    rw [e] at hp
    exact ⟨by cases m <;> exact hp.1, nofun⟩
  · exact h.afterMount.exposureRun
  · exact (h.setEs (.knifeStep _) rfl nofun).exposureRun
  · exact h.enterFlashing
  · exact h

theorem filmInserted (h : Exposing s) : Exposing s.filmInserted := by
  unfold State.filmInserted
  split
  · split
    · split
      · exact (h.needPassed _).exposureRun
      · exact h
    · exact h.stands (.modFilm _ _ rfl rfl rfl)
  · exact h

end Exposing

/-! ### The drum, the cover and the cassette -/

namespace State.photoLaw

variable {s : State}

theorem exposureRun (h : s.photoLaw) : s.exposureRun.photoLaw := by
  by_cases hp : s.exposure.phase.atOnce = true
  · exact (h.exposing (fun e => by simp [e, EsPhase.atOnce] at hp)).exposureRun.photoLaw
  · unfold State.exposureRun exposureFuel State.exposureLoop
    rwa [if_neg hp]

theorem enterDrumWait (h : s.photoLaw) (hp : s.exposure.phase ≠ .idle) : s.enterDrumWait.photoLaw :=
  (h.exposing hp).enterDrumWait.photoLaw

theorem drumLeft (h : s.photoLaw) : s.drumLeft.photoLaw := by
  unfold State.drumLeft
  split
  next e => exact h.enterDrumWait (by simp [e])
  next e => exact h.enterDrumWait (by simp [e])
  next => exact h

theorem drumRuns (h : s.photoLaw) : s.drumRuns.photoLaw := by
  have hn := h.keeps (((Keeps.refl true true _).modNotices fun n => { n with drum := false }).noticeSince .photoUnit s)
  unfold State.drumRuns
  dsimp only
  split
  next e => exact (hn.exposing fun x => nomatch e.1.symm.trans x).enterFlashing.photoLaw
  next => exact hn

theorem modDrum (h : s.photoLaw) (f) : (s.modDrum f).photoLaw := h.keeps ((Keeps.refl true true s).modDrum f)

theorem setDrumState (h : s.photoLaw) (d : DrumState) : (s.setDrumState d).photoLaw := by
  unfold State.setDrumState
  dsimp only
  split
  · exact (h.modDrum _).drumLeft
  · split
    · exact (h.modDrum _).drumRuns
    · exact h.modDrum _

theorem endIdScan (h : s.photoLaw) : s.endIdScan.photoLaw := (TransportStands.modExposure _ _ rfl).photoLaw (h.modDrum _)

theorem leaveScan (h : s.photoLaw) (d : DrumState) : (s.leaveScan d).photoLaw := by
  unfold State.leaveScan
  split
  · exact h.endIdScan.setDrumState d
  · exact h.setDrumState d

theorem flashEvent (h : s.photoLaw) (n : Nat) : (s.flashEvent n).photoLaw := by
  unfold State.flashEvent
  split
  next e _ =>
    split
    · refine (Transporting.modExposure_exposing (h.exposing (by simp [e])).toTransporting _ ?_).photoLaw
      exact ⟨nofun, nofun⟩
    · exact h
  next => exact h

theorem fireFlash (h : s.photoLaw) : s.fireFlash.photoLaw := by
  unfold State.fireFlash
  split
  next t e _ _ =>
    split
    · have hf := (h.exposing (by simp [e])).keeps ((Keeps.refl true true s).flashed t)
      refine (Transporting.modExposure_exposing hf.toTransporting _ ?_).photoLaw
      exact ⟨nofun, nofun⟩
    · exact h
  next => exact h

theorem recheckMount (h : s.photoLaw) : s.recheckMount.photoLaw := by
  unfold State.recheckMount
  split
  next e =>
    refine ((h.exposing (by simp [e])).mountCheck _ fun u hu => ?_).photoLaw
    split
    · exact hu.afterMount
    · exact hu.setEs _ rfl nofun
  next => exact h

theorem completeIdScan (h : s.photoLaw) : s.completeIdScan.photoLaw := by
  have hf : ∀ r, ((s.endIdScan.setDrumState .running).modFonts fun c => c.scanned r).photoLaw := fun r =>
    TransportStands.photoLaw ⟨rfl, rfl, rfl, rfl, rfl, rfl, rfl, .inl rfl, rfl, .inl rfl⟩ (h.endIdScan.setDrumState .running)
  exact (hf _).recheckMount.exposureRun

theorem indexInStep (h : s.photoLaw) : s.indexInStep.photoLaw := by
  unfold State.indexInStep
  split
  · exact h.setDrumState _
  · split
    · split
      · exact (h.setDrumState _).modDrum _
      · exact h.setDrumState _
    · exact h
  · split
    · exact (h.setDrumState _).modDrum _
    · exact h
  · split
    · exact h.completeIdScan
    · exact h.modDrum _

theorem drumIndex (h : s.photoLaw) (n m : Nat) : (s.drumIndex n m).photoLaw := by
  have step : ∀ (b : Bool) (u : State), u.photoLaw →
      ((if b then u.indexInStep else u.outOfStep).modDrum fun d => { d with qualifying := true }).photoLaw := by
    intro b u hu
    cases b with
    | true => exact hu.indexInStep.modDrum _
    | false => exact (hu.leaveScan _).modDrum _
  unfold State.drumIndex
  dsimp only
  split
  · exact (step _ _ (h.modDrum _)).flashEvent 0
  · exact step _ _ (h.modDrum _)

theorem drumMark (h : s.photoLaw) (n m : Nat) (l : Bool) : (s.drumMark n m l).photoLaw := by
  have step : ∀ (u : State) (b : Bool) (k : Nat), u.photoLaw →
      (if b then (match u.drum.state with
        | .stopped => (u.setDrumState .syncing).modDrum fun d => { d with qualifying := false }
        | .scanning => u.modDrum fun d => d.readBand k l
        | .syncing => u
        | .running => u)
      else u.outOfStep.modDrum fun d => { d with qualifying := false }).photoLaw := by
    intro u b k hu
    split
    · split
      · exact (hu.setDrumState _).modDrum _
      · exact hu.modDrum _
      · exact hu
      · exact hu
    · exact (hu.leaveScan _).modDrum _
  unfold State.drumMark
  dsimp only
  split
  · exact (step _ _ _ (h.modDrum _)).flashEvent _
  · exact step _ _ _ (h.modDrum _)

theorem coverOpens (h : s.photoLaw) : s.coverOpens.photoLaw := by
  unfold State.coverOpens
  split
  next e => exact (h.exposing (by simp [e])).spoilLine.photoLaw
  next e => exact (h.exposing (by simp [e])).spoilLine.photoLaw
  next e => exact (h.exposing (by simp [e])).spoilLine.photoLaw
  next e => exact ((h.exposing (by simp [e])).setEs .mountWait rfl nofun).photoLaw
  next => exact (TransportStands.modExposure _ _ rfl).photoLaw h

theorem filmInserted (h : s.photoLaw) : s.filmInserted.photoLaw := by
  by_cases hp : s.exposure.phase = .idle
  · simpa [State.filmInserted, hp] using h
  · exact (h.exposing hp).filmInserted.photoLaw

/-! ### Motion and the steps of START -/

theorem moveCompletes (h : s.photoLaw) (k : Channel) : (s.moveCompletes k).photoLaw := by
  have stands : TransportStands s
      ((s.modMotion fun m => m.modChannel k MotionChannel.ended).modExposure fun x => x.moved k (s.motion.channel k)) := by
    cases k <;> exact ⟨rfl, rfl, rfl, rfl, rfl, rfl, rfl, .inl rfl, rfl, .inl rfl⟩
  have hm := stands.photoLaw h
  unfold State.moveCompletes
  dsimp only
  split
  next m e =>
    have hx := hm.exposing fun x => nomatch e.symm.trans x
    have hp := e ▸ hx.phase
    exact (hx.setEs_of (.moved m) ⟨by cases m <;> exact hp.1, nofun⟩).exposureRun.photoLaw
  next => exact hm
  next e => exact (hm.exposing fun x => nomatch e.symm.trans x).position.photoLaw
  next e => exact (hm.exposing fun x => nomatch e.symm.trans x).endCoverHold.photoLaw
  next => exact hm

end State.photoLaw

namespace Starting

variable {s t : State}

theorem keeps {c : Bool} (h : Starting s) (k : Keeps true c s t) : Starting t := by
  have p := k.photoSide rfl
  refine ⟨p.exposure ▸ h.idle, ?_, p.transport.starts.2 h.starts, p.motion ▸ h.film, p.film ▸ h.floor, p.film ▸ h.deepest⟩
  obtain e | ⟨-, e⟩ := p.controller
  · exact e ▸ h.controller
  · simp [e]

/-- With no homing under way START may stand at any step. -/
theorem photoLaw_of_unhomed (h : Starting s) (hm : s.motion.Unhomed) : s.photoLaw :=
  h.photoLaw fun e => by simp [hm.carriage, hm.turret] at e

theorem atStep (h : Starting s) (p : StartStep) : Starting (s.atStep p) := { h with }

/-- A step that fails ends START with the step held. -/
theorem startFails (h : Starting s) (hm : s.motion.Unhomed) (c : HaltCause) : (s.startFails c).photoLaw := by
  have idle : (s.startFails c).exposure = s.exposure := by simp [State.startFails]
  have motion : (s.startFails c).motion = s.motion := by simp [State.startFails]
  have film : (s.startFails c).film = s.film := by simp [State.startFails]
  refine ⟨⟨fun _ => idle ▸ h.idle, fun e => ?_, fun e => ?_, motion ▸ h.film, ?_, ?_⟩, film ▸ h.floor, film ▸ h.deepest⟩
  · simp [State.startFails, Desk.ends] at e
  · simp [motion, hm.carriage, hm.turret] at e
  · simp [idle, h.idle, EsPhase.backTo?]
  · simp [idle, h.idle]

/-- The last step ends START, with the part RUNNING. -/
theorem startEnds (h : Starting s) (hm : s.motion.Unhomed) : s.startEnds.photoLaw := by
  have idle : s.startEnds.exposure = s.exposure := by simp [State.startEnds]
  have film : s.startEnds.film = s.film := by simp [State.startEnds]
  exact Exposing.photoLaw
    { controller := by simp [State.startEnds, Desk.ends]
      startStep := by simp [State.startEnds, Desk.ends]
      starts := by simp [State.startEnds, Desk.ends]
      unhomed := by simpa [State.startEnds] using hm
      floor := film ▸ h.floor
      deepest := film ▸ h.deepest
      phase := idle ▸ h.idle ▸ Film.allows_idle _ }

theorem startNotices (h : Starting s) (hm : s.motion.Unhomed) : s.startNotices.photoLaw :=
  have k := (((Keeps.refl true true (s.atStep .notices)).startNotice .photoUnit).startNotice .film).startNotice .proof
  ((h.atStep .notices).photoLaw_of_unhomed hm).keeps k

theorem startCut (h : Starting s) (hm : s.motion.Unhomed) : s.startCut.photoLaw := by
  unfold State.startCut
  split
  · exact Starting.photoLaw_of_unhomed { h.atStep .clearingCut with } hm
  · exact h.startNotices hm

/-- Both homings have ended, or one goes on. -/
theorem homingEnds (h : Starting s) (hs : s.desk.startStep = some .homing) : s.homingEnds.photoLaw := by
  unfold State.homingEnds
  dsimp only
  split
  · exact h.photoLaw fun _ => hs
  · have he : Starting (s.modMotion fun m =>
        { m with carriage := { m.carriage with homing := .none }, turret := { m.turret with homing := .none } }) := { h with }
    split
    · exact he.startCut ⟨rfl, rfl, h.film⟩
    · exact he.startFails ⟨rfl, rfl, h.film⟩ _

theorem homeChannel (h : Starting s) (k : Channel) (hk : k ≠ .film) (i f : Bool) (n : Nat) : Starting (s.homeChannel k i f n) := by
  unfold State.homeChannel
  cases k with
  | film => exact absurd rfl hk
  | carriage => split <;> exact { h with }
  | turret => split <;> exact { h with }

theorem startHoming (h : Starting s) : s.startHoming.photoLaw := by
  have ht : Starting (((s.atStep .homing).unselectTrack).modExposure fun x =>
      { x with
        carriageAt := if s.pins.home then some 0 else none
        turretAt := if s.pins.turretIndex then some 0 else none }) := { h with idle := h.idle }
  refine ((ht.homeChannel .carriage (by simp) _ _ _).homeChannel .turret (by simp) _ _ _).homingEnds ?_
  simp [State.unselectTrack, State.atStep]

end Starting

/-! ### The commands that move the transport or carry START out -/

/-- At RESUME the Exposure Sequencer alone of the blocks released moves the transport. -/
theorem Keeps.releaseBlocks_of_exposureResumes (s : State) : Keeps true false s.exposureResumes s.releaseBlocks.settle := by
  exact ((Keeps.refl true false s.exposureResumes).proofResumes.retryNotices.setResultWrite _).retryCancelWrite.retryTray.composerRun
    |>.trigger.testPending.settle

namespace State.photoLaw

variable {s : State}

theorem startWrite (h : s.photoLaw) : s.startWrite.photoLaw := by
  unfold State.startWrite
  split
  · exact h.keeps (((Keeps.refl true true s).refuse _).event _)
  next hb =>
    have hb : s.desk.busy = none := by simpa using hb
    split
    next hc =>
      have hm : s.motion.Unhomed := h.unhomed (by simp [hb])
      have taken : Starting (s.modDesk fun d => { d with busy := some .start }) :=
        ⟨h.1.1 (.inl hc), by simp [hc], .inl rfl, hm.film, h.2.1, h.2.2⟩
      have read := (Keeps.refl true true (s.modDesk fun d => { d with busy := some .start })).readDesk
      have refused : ∀ (x : HaltCause) (u : State), Keeps true true (s.modDesk fun d => { d with busy := some .start }) u →
          (u.refuseStart x).photoLaw := by
        intro x u k
        have p := k.photoSide rfl
        have hc' : u.desk.controller = .stopped := by
          obtain e | ⟨e, -⟩ := p.controller
          · exact e.trans hc
          · exact absurd e (by simp [hc])
        have hd : (u.refuseStart x).desk.controller = .stopped := by simpa [State.refuseStart, Desk.ends] using hc'
        have he : (u.refuseStart x).exposure = s.exposure := by simpa [State.refuseStart] using p.exposure
        have hu : (u.refuseStart x).motion = s.motion := by simpa [State.refuseStart] using p.motion
        have hf : (u.refuseStart x).film = s.film := by simpa [State.refuseStart] using p.film
        refine ⟨⟨fun _ => he ▸ taken.idle, fun e => by simp [hd] at e, fun e => ?_, hu ▸ hm.film, ?_, ?_⟩, hf ▸ h.2.1, hf ▸ h.2.2⟩
        · simp [hu, hm.carriage, hm.turret] at e
        · rw [he, hf]
          exact h.1.2.2.2.2.1
        · rw [he, hf]
          exact h.1.2.2.2.2.2
      unfold State.startCommand
      split
      next e => exact refused _ _ (read.of_eq e)
      next e => exact refused _ _ (read.of_eq e)
      next x _ e =>
        have copied := taken.keeps ((read.of_eq e).takeCopies x)
        exact Starting.startHoming { copied with }
    next => exact h.keeps (((Keeps.refl true true s).refuse _).event _)

theorem resumeStart (p : StartStep) (hs : Starting (s.modDesk fun d => { d with busy := some .resume }))
    (hm : s.motion.Unhomed) : (s.resumeStart p).photoLaw := by
  cases p with
  | homing => exact hs.startHoming
  | clearingCut => exact hs.startCut hm
  | notices =>
    have k := (Keeps.refl true true (s.modDesk fun d => { d with busy := some .resume })).retryNotices
    have hr := hs.keeps k
    have hu : Motion.Unhomed _ := (k.photoSide rfl).motion ▸ hm
    unfold State.resumeStart
    dsimp only
    split
    · exact hr.startEnds hu
    · exact hr.photoLaw_of_unhomed hu

theorem resumeWrite (h : s.photoLaw) : s.resumeWrite.photoLaw := by
  unfold State.resumeWrite State.commandWrite
  split
  · exact h.keeps ((Keeps.refl true true s).refuse _)
  next hb =>
    have hb : s.desk.busy = none := by simpa using hb
    split
    next hc =>
      have hc : s.desk.controller = .halted := by simpa using hc
      unfold State.resumeCommand
      split
      next p hp =>
        have hm : s.motion.Unhomed := h.unhomed (by simp [hb])
        exact resumeStart p ⟨h.1.1 (.inr (.inl (by simp [hp]))), by simp [hc], .inr rfl, hm.film, h.2.1, h.2.2⟩ hm
      next hp =>
        have hx := h.exposing_of (by simp [hc]) hp (by simp [hb])
        have running : Exposing (s.modDesk fun d => { d with controller := .running, cause := .none }) :=
          { hx with controller := by simp }
        have released := running.exposureResumes.keeps (Keeps.releaseBlocks_of_exposureResumes _)
        exact (released.keeps ((Keeps.refl true true _).endCommand .accepted fun _ => released.starts)).photoLaw
    next => exact h.keeps ((Keeps.refl true true s).refuse _)

theorem writeNotice (h : s.photoLaw) (o : Owner) : (s.writeNotice o).photoLaw := by
  unfold State.writeNotice
  dsimp only
  split
  next n _ _ =>
    have hw := (Keeps.refl true true s).busWrite (s.noticeAddr o) n.bytes
    have step4 : ∀ {u : State}, Keeps true true s u → (s.busWrite (s.noticeAddr o) n.bytes).2.starting = true →
        (s.busWrite (s.noticeAddr o) n.bytes).2.desk.startStep = some .notices → Starting u ∧ u.motion.Unhomed := by
      intro u k hs hp
      have same := (hw.photoSide rfl).transport
      have starts : s.desk.starts := same.starts.1 (by simpa [State.starting, Desk.starts] using hs)
      have hm := h.unhomed (s := s) (by simp [← same.startStep, hp])
      exact ⟨(h.starting starts).keeps k, (k.photoSide rfl).motion ▸ hm⟩
    split
    · have kn := ((hw.modNotices fun x => x.modWriter o fun w => { w with written := some n, inFlight := none }).event
        Event.notice).renotice o
      split
      next e =>
        simp only [Bool.and_eq_true, beq_iff_eq] at e
        have ⟨hs, hm⟩ := step4 kn e.1.1 e.1.2
        exact hs.startEnds hm
      next => exact h.keeps kn
    · have kn := hw.modNotices fun x => x.modWriter o fun w => { w with held := true }
      split
      next e =>
        simp only [Bool.and_eq_true, beq_iff_eq] at e
        have ⟨hs, hm⟩ := step4 kn e.1 e.2
        exact hs.startFails hm _
      next => exact h.keeps (kn.fault _)
  next => exact h

theorem motionEnds (h : s.photoLaw) (k : Channel) (home : Bool) : (s.motionEnds k home).photoLaw := by
  have hp : ∀ f, (s.modPins f).photoLaw := fun f => (TransportStands.modPins s f).photoLaw h
  unfold State.motionEnds
  split
  · dsimp only
    split
    next e =>
      have hs : s.desk.starts ∧ s.desk.startStep = some .homing := by
        by_contra hn
        have ⟨hc, ht, hf⟩ := h.unhomed hn
        cases k with
        | carriage => exact absurd (hc.symm.trans e) (by simp)
        | turret => exact absurd (ht.symm.trans e) (by simp)
        | film => exact absurd (hf.symm.trans e) (by simp)
      have hst := h.starting hs.1
      cases k with
      | film => exact absurd (hst.film.symm.trans e) (by simp)
      | carriage =>
        refine Starting.homingEnds { hst with idle := ?_ } hs.2
        cases home <;> exact hst.idle
      | turret =>
        refine Starting.homingEnds { hst with idle := ?_ } hs.2
        cases home <;> exact hst.idle
    next => exact (hp _).moveCompletes k
  · exact h

theorem knifeDone (h : s.photoLaw) : s.knifeDone.photoLaw := by
  unfold State.knifeDone
  split
  · split
    next e => exact (((h.exposing (by simp [e])).completeCut _).exposureRun).photoLaw
    next =>
      split
      next e =>
        simp only [State.clearing, Bool.and_eq_true, beq_iff_eq] at e
        have hs := h.starting (by simpa [State.starting, Desk.starts] using e.1)
        have hm : s.motion.Unhomed := h.unhomed (by simp [e.2])
        have closed : Starting (s.closeGalley.modFilm fun f => { f with unknown := false }) :=
          { hs with floor := by simp [State.closeGalley, Film.floor], deepest := by simp [State.closeGalley] }
        exact closed.startNotices hm
      next => exact h
  · exact h

theorem knifeTimesOut (h : s.photoLaw) : s.knifeTimesOut.photoLaw := by
  unfold State.knifeTimesOut
  split
  · split
    next c e =>
      have held := (h.exposing (by simp [e])).toTransporting.releaseKnife.setEs (.knifeHeld c) rfl nofun
      exact (held.keeps ((Keeps.refl true true _).fault _)).photoLaw
    next =>
      split
      next e =>
        simp only [State.clearing, Bool.and_eq_true, beq_iff_eq] at e
        have hs := h.starting (by simpa [State.starting, Desk.starts] using e.1)
        have hm : s.motion.Unhomed := h.unhomed (by simp [e.2])
        have released : Starting s.releaseKnife := { hs with }
        exact released.startFails hm _
      next => exact h
  · exact h

end State.photoLaw

/-! ### The rule -/

/-- What a command itself changes leaves what the laws read, but for the galley that closes. -/
theorem Outside.transport {c : Instr} {s u : State} (h : Outside c s u) (hc : c ≠ .knifeDone) : TransportStands s u := by
  cases h with
  | galley => exact absurd rfl hc
  | _ => exact ⟨rfl, rfl, rfl, rfl, rfl, rfl, rfl, .inl rfl, rfl, .inl rfl⟩

namespace State.photoLaw

variable {s t : State}

theorem stepOf (h : s.photoLaw) (b : BusStep) : (State.stepOf b s).photoLaw := by
  cases hb : b.leavesPhoto with
  | true => exact h.keeps ((Keeps.refl true false s).stepOf_leavesPhoto b hb)
  | false =>
    induction b with
    | start => exact h.startWrite
    | resume => exact h.resumeWrite
    | noticeWrite o => exact h.writeNotice o
    | further _ _ _ ih => exact ih hb
    | _ => cases hb

theorem failStep (h : s.photoLaw) (b : BusStep) (acked : Nat) (landed : Bool) : (s.failStep b acked landed).photoLaw := by
  unfold State.failStep
  dsimp only
  split
  · exact stepOf (s := s.setBus (some ⟨acked, landed, BusStep.later b⟩)) h b
  · exact h

/-- A part that is STOPPED with nothing in hand and the film at its origin. -/
theorem of_stopped (hc : s.desk.controller = .stopped) (hp : s.exposure.phase = .idle) (hm : s.motion.Unhomed)
    (hf : s.film.position = 0) (hd : s.film.deepest = 0) : s.photoLaw := by
  refine ⟨⟨fun _ => hp, fun e => by simp [hc] at e, fun e => ?_, hm.film, ?_, ?_⟩, ?_, ?_⟩
  · simp [hm.carriage, hm.turret] at e
  · simp [hp, EsPhase.backTo?]
  · simp [hp]
  · simp [Film.floor, hf, hd]
  · simp [hf]

theorem reset (s : State) : s.resetCommand.photoLaw := of_stopped rfl rfl ⟨rfl, rfl, rfl⟩ rfl rfl

theorem powerOn (s : State) : s.powerOnReset.photoLaw := of_stopped rfl rfl ⟨rfl, rfl, rfl⟩ rfl rfl

theorem resetWrite (h : s.photoLaw) : s.resetWrite.photoLaw := by
  obtain e | e := s.resetWrite_cases
  · exact e ▸ h.keeps ((Keeps.refl true true s).refuse _)
  · exact e ▸ reset s

/-- An arm that is answered at once where its condition does not hold. -/
theorem of_condition {b : Prop} [Decidable b] {u : State} (h : s.photoLaw) (hu : b → u.photoLaw)
    (e : (if b then Host.Outcome.next u else .next s : Host.Outcome State Fault Refusal) = .next t) : t.photoLaw := by
  split at e
  next hb =>
    cases e
    exact hu hb
  next =>
    cases e
    exact h

theorem noticeSince (h : s.photoLaw) (o : Owner) (b : State) : (s.noticeSince o b).photoLaw :=
  h.keeps ((Keeps.refl true true s).noticeSince o b)

theorem modExposure (h : s.photoLaw) (f : Exposure → Exposure) (hf : (f s.exposure).phase = s.exposure.phase) :
    (s.modExposure f).photoLaw :=
  (TransportStands.modExposure s f hf).photoLaw h

theorem trackSettled (h : s.photoLaw) (e : execTrackSettled s = .next t) : t.photoLaw := by
  have hm := h.modExposure (fun x => { x with settled := true }) rfl
  unfold execTrackSettled at e
  dsimp only at e
  split at e
  · split at e
    next hp =>
      cases e
      exact (hm.exposing fun x => nomatch hp.symm.trans x).position.photoLaw
    next =>
      cases e
      exact hm
  · cases e
    exact h

theorem coverOpen (h : s.photoLaw) (e : execCoverOpen s = .next t) : t.photoLaw := by
  have hc : ((s.modPins fun p => { p with coverOpen := true }).modFonts fun c => { c with confirmed := false }).photoLaw :=
    TransportStands.photoLaw ⟨rfl, rfl, rfl, rfl, rfl, rfl, rfl, .inl rfl, rfl, .inl rfl⟩ h
  unfold execCoverOpen at e
  split at e
  · cases e
    exact h
  · cases e
    refine (coverOpens ?_).noticeSince _ _
    split
    · exact hc.leaveScan _
    · exact hc

theorem cassetteInsertion (h : s.photoLaw) (e : execCassetteInsertion s = .next t) : t.photoLaw := by
  have hp := (TransportStands.modPins s fun p => { p with cassette := true }).photoLaw h
  unfold execCassetteInsertion at e
  dsimp only at e
  split at e
  · cases e
    exact h
  · split at e <;> cases e
    · exact (TransportStands.modFilm _ _ rfl rfl rfl).photoLaw hp
    · exact ((TransportStands.modFilm _ _ rfl rfl rfl).photoLaw hp).filmInserted.noticeSince _ _

theorem takeupPresent (h : s.photoLaw) (e : execTakeupPresent s = .next t) : t.photoLaw := by
  have hn := ((TransportStands.modPins s fun p => { p with takeup := true }).photoLaw h).noticeSince .film s
  unfold execTakeupPresent at e
  dsimp only at e
  split at e
  next m hp =>
    split at e
    · cases e
      have hx := hn.exposing fun x => nomatch hp.symm.trans x
      have hf := hp ▸ hx.phase
      exact (hx.startMovement m ⟨by cases m <;> exact hf.1, nofun⟩).exposureRun.photoLaw
    · cases e
      exact hn
  next =>
    cases e
    exact hn

/-- Every command keeps the laws of the transport and of the film. -/
theorem exec (c : Instr) (h : s.photoLaw) (e : Machine.exec c s = .next t) : t.photoLaw := by
  have away : c.leavesPhoto = true → t.photoLaw := fun hc => by
    obtain ⟨u, hu, k⟩ := Keeps.exec_from c e (by rintro o rfl; cases hc) (by rintro rfl; cases hc)
    rw [hc] at k
    exact TransportStands.photoLaw (hu.transport (by rintro rfl; cases hc)) h |>.keeps k
  cases c with
  | start => cases e; exact h.startWrite
  | resume => cases e; exact h.resumeWrite
  | reset => cases e; exact h.resetWrite
  | powerOn => cases e; exact powerOn s
  | busError b n l => cases e; exact h.failStep b n l
  | noticeWriteDone o => cases e; exact h.writeNotice o
  | exposureTakeRecord => exact h.of_condition (fun hc => (h.exposing_of_running hc.1).takeFilmRecord.photoLaw) e
  | motionComplete k home => cases e; exact h.motionEnds k home
  | trackSettled => exact h.trackSettled e
  | mark n l =>
    change execMark n l s = _ at e
    unfold execMark at e
    split at e <;> cases e
    · exact h.modDrum _
    · exact h.drumMark _ _ _
  | index n =>
    change execIndex n s = _ at e
    unfold execIndex at e
    split at e
    · cases e
      exact h.modDrum _
    · split at e <;> cases e
      · exact h.modDrum _
      · exact h.drumIndex _ _
  | drumWatch =>
    change execDrumWatch s = _ at e
    unfold execDrumWatch at e
    split at e <;> cases e
    · exact h
    · exact (h.leaveScan _).modDrum _
  | flashDelayExpiry => cases e; exact h.fireFlash
  | flashEnd =>
    refine h.of_condition (fun hc => ?_) e
    have hx := (h.exposing (by simp [hc])).toTransporting.modExposure fun x =>
      { x with lampTimer := s.desk.setup.lampRecharge, flashTimer := 0 }
    exact (hx.modExposure_exposing (fun x => { x with item := x.item + 1, phase := .nextItem }) ⟨nofun, nofun⟩).exposureRun.photoLaw
  | lampReady => cases e; exact h.modExposure _ rfl
  | drumWaitTimeout =>
    refine h.of_condition (fun _ => ?_) e
    exact (h.modExposure _ rfl).keeps ((((Keeps.refl true true _).fault _).modNotices _).noticeSince _ _)
  | coverOpen => exact h.coverOpen e
  | cassetteInsertion => exact h.cassetteInsertion e
  | takeupPresent => exact h.takeupPresent e
  | knifeDone => cases e; exact h.knifeDone
  | knifeTimeout => cases e; exact h.knifeTimesOut
  | _ => exact away rfl

end State.photoLaw

/-- Settles O10: the number by what every command keeps, the laws by `State.photoLaw.exec`. -/
theorem galleyNumberChangesAtTheKnife : Obligations.GalleyNumberChangesAtTheKnife := by
  unfold Obligations.GalleyNumberChangesAtTheKnife
  refine ⟨galleyNumber_changes_at_knifeDone, fun s t ht hf h => ?_⟩
  exact step_of_exec (P := State.photoLaw) (fun _ _ h => h) (fun c _ _ h e => h.exec c e) s t ⟨ht, hf⟩ h

end Sys2Proof.Machine
end

section
/-! The step, the reset state, HALT, and what RESET and power-on do with no write in flight (spec 01, section 2.5). -/

namespace Sys2Proof.Machine

/-! ### The step -/

/-- Settles O1: both clauses are the definition, read by the front of the queue. -/
theorem stepRunsTheFrontCommand : Obligations.StepRunsTheFrontCommand := by
  unfold Obligations.StepRunsTheFrontCommand
  exact ⟨fun _ _ _ => rfl, fun _ => rfl⟩

/-! ### The state after reset -/

/-- Settles O4: every block of the reset state is empty or idle, so each law is about literals. -/
theorem resetMeetsTheLaws : Obligations.ResetMeetsTheLaws := by
  unfold Obligations.ResetMeetsTheLaws
  have store : State.reset.storeLaw := ⟨by decide, by decide, by decide⟩
  have composer : State.reset.composerLaw := ⟨fun _ => rfl, nofun, fun _ => rfl, fun _ => rfl, rfl, rfl⟩
  have photo : State.reset.photoLaw := .of_stopped rfl rfl ⟨rfl, rfl, rfl⟩ rfl rfl
  exact ⟨State.reset_mem_wf, store, rfl, photo.2, fun _ => rfl, composer, photo.1, rfl⟩

/-! ### Writes stopped by a reset -/

namespace State

theorem stopNotice_of_noWrite {s : State} {o : Owner} (h : (s.notices.writer o).inFlight = none) : s.stopNotice o = s := by
  simp [stopNotice, h]

theorem stopWrites_of_noWrites {s : State} (h : s.noWrites) : s.stopWrites = s := by
  have result : s.stopResult = s := by simp [stopResult, h.1]
  rw [stopWrites, result, stopNotice_of_noWrite (h.2 _).1, stopNotice_of_noWrite (h.2 _).1, stopNotice_of_noWrite (h.2 _).1]

theorem stopMoves_of_not_busy {s : State} (hc : s.motion.carriage.busy = false) (ht : s.motion.turret.busy = false) :
    s.stopMoves = s := by
  simp [stopMoves, stopMove, Motion.channel, hc, ht]

end State

/-- Settles O3: power-on is the reset value with what it keeps of the state, and R17's values are those of `State.reset`. -/
theorem powerOnGivesInitialValues : Obligations.PowerOnGivesInitialValues := by
  unfold Obligations.PowerOnGivesInitialValues
  refine ⟨fun s h => ⟨s.stopMoves.pins, s.stopMoves.freeCounter, ?exec, s.stopMoves_pins, fun hc ht => ?still⟩, ?values⟩
  case exec =>
    change Host.Outcome.next s.powerOnReset = _
    simp [State.powerOnReset, State.stopWrites_of_noWrites h]
  case still => rw [State.stopMoves_of_not_busy hc ht]; exact ⟨rfl, rfl⟩
  case values =>
    have empty : State.reset.noTickets := by
      unfold State.noTickets
      decide
    have strips : ∀ p : Fin 8, (State.reset.fonts.mount[p]).strip = none := by decide
    exact ⟨rfl, rfl, rfl, rfl, rfl, rfl, rfl, rfl, rfl, rfl, empty, rfl, rfl, rfl, rfl, strips, rfl, rfl, rfl, rfl, rfl, rfl, rfl, rfl⟩

/-! ### HALT and RESET -/

theorem State.commandWrite_taken {taken : Bool} {run : State → State} {s : State} (hb : s.desk.busy = none) (ht : taken = true) :
    s.commandWrite taken run = run s := by
  simp [commandWrite, hb, ht]

/-- Settles O17. -/
theorem haltStopsTheController : Obligations.HaltStopsTheController := by
  unfold Obligations.HaltStopsTheController
  intro s operand hb hc
  change Host.Outcome.next s.haltWrite = _
  rw [State.haltWrite, State.commandWrite_taken hb (by simp [hc])]
  simp [State.haltCommand, State.endCommand, State.event, State.modDesk, hb, Event.halt, Event.command]

/-- Settles O24: the blocks take the values `resetBlocks` gives them, and the Desk Interface those of `resetCommand`. -/
theorem resetCommandReturnsToStopped : Obligations.ResetCommandReturnsToStopped := by
  unfold Obligations.ResetCommandReturnsToStopped
  intro s operand hb
  refine ⟨s.resetCommand, ?_, ?desk, ?_⟩
  · change Host.Outcome.next s.resetWrite = _
    rw [State.resetWrite, State.commandWrite_taken hb rfl]
  case desk =>
    by_cases hr : s.desk.controller = .running <;> simp [State.resetCommand, hb, hr, Event.command, Event.halt]
  have pins : s.resetCommand.pins = s.stopWrites.stopMoves.pins := rfl
  have mem : s.noWrites → s.resetCommand.mem = s.mem := fun h => by
    simp [State.resetCommand, State.resetBlocks, State.stopWrites_of_noWrites h]
  have scan : s.resetCommand.drum.state ≠ .scanning := by
    simp only [State.resetCommand, State.resetBlocks, Drum.reset, State.modDesk_drum, State.stopMoves_drum, State.stopWrites_drum]
    split
    · simp
    · assumption
  have film : s.resetCommand.film = s.film.reset := by simp [State.resetCommand, State.resetBlocks]
  have fonts : s.resetCommand.fonts = { s.fonts with store := Vector.replicate 8 none, compositionCounter := 0 } := by
    simp [State.resetCommand, State.resetBlocks]
  have scanner : s.resetCommand.scanner =
      { Scanner.initial with nextRoutine := s.scanner.nextRoutine, nextFlash := s.scanner.nextFlash } := by
    simp [State.resetCommand, State.resetBlocks]
  have drum : s.resetCommand.drum = s.drum.reset := by simp [State.resetCommand, State.resetBlocks]
  have proof : s.resetCommand.proof = s.proof.reset := by simp [State.resetCommand, State.resetBlocks]
  have pins' : s.pinsThroughReset s.resetCommand.pins := pins ▸ s.stopMoves_pinsThroughReset
  have table : s.resetCommand.noTickets ∧ ∀ i : Fin 8, s.resetCommand.fonts.store[i] = none :=
    ⟨fun i => by simp [State.resetCommand, State.resetBlocks], fun i => by simp [fonts]⟩
  have channels : ∀ k : Channel, (s.resetCommand.motion.channel k).busy = false ∧ (s.resetCommand.motion.channel k).counter = 0 := by
    rintro (_ | _ | _) <;> exact ⟨rfl, rfl⟩
  refine ⟨table.1, rfl, rfl, table.2, ?_⟩
  rw [fonts, scanner, drum, proof]
  exact ⟨rfl, rfl, rfl, rfl, rfl, rfl, rfl, rfl, rfl, rfl, rfl, rfl, rfl, rfl, rfl, rfl, rfl, rfl, rfl, rfl, rfl, channels, drum ▸ scan, rfl, rfl,
    film, rfl, rfl, rfl, rfl, rfl, rfl, rfl, rfl, rfl, rfl, rfl, pins', mem⟩

end Sys2Proof.Machine
end

section
/-! The law of the pool and of the Composer (R22, R38, R84, R101): every step keeps them. Between its waits the Composer carries its items
along (`Composing`), and each of its phases ends with the items drawn those of the line being built. -/

namespace Sys2Proof.Machine

/-! ### The items of codes, elements and set lines -/

/-- The items of an optional hyphen. -/
def hyphenItems (h : Option Glyph) : Nat := if h.isSome then 1 else 0

theorem glyphsOf_append (xs ys : List Element) : glyphsOf (xs ++ ys) = glyphsOf xs ++ glyphsOf ys := List.filterMap_append

theorem elementsOf_append (xs ys : List LineCode) : elementsOf (xs ++ ys) = elementsOf xs ++ elementsOf ys := List.filterMap_append

@[simp] theorem itemsHeld_nil : itemsHeld [] = 0 := rfl

@[simp] theorem itemsHeld_append (xs ys : List LineCode) : itemsHeld (xs ++ ys) = itemsHeld xs + itemsHeld ys := by
  simp [itemsHeld, elementsOf_append, glyphsOf_append]

theorem itemsHeld_singleton (c : LineCode) : itemsHeld [c] = if c.glyph?.isSome then 1 else 0 := by
  unfold itemsHeld LineCode.glyph? elementsOf glyphsOf
  cases h : c.element with
  | none => simp [h]
  | some e => cases e <;> simp [h]

theorem itemsHeld_of_no_glyph {c : LineCode} (h : c.glyph? = none) : itemsHeld [c] = 0 := by simp [itemsHeld_singleton, h]

theorem itemsHeld_of_glyph {c : LineCode} (h : c.glyph? ≠ none) : itemsHeld [c] = 1 := by
  simp [itemsHeld_singleton, Option.isSome_iff_ne_none, h]

/-- A line with no element holds no item. -/
theorem itemsHeld_of_isEmpty {l : Line} (h : l.isEmpty = true) : itemsHeld l.codes = 0 := by
  have h : elementsOf l.codes = [] := by simpa [Line.isEmpty] using h
  simp [itemsHeld, h, glyphsOf]

/-- A break leaves each item on one of its sides. -/
theorem itemsHeld_split (p : LineCode → Bool) (cs : List LineCode) :
    itemsHeld (cs.filter p) + itemsHeld (cs.filter fun c => !p c) = itemsHeld cs := by
  induction cs with
  | nil => rfl
  | cons c rest ih =>
    have cons : ∀ xs, itemsHeld (c :: xs) = itemsHeld [c] + itemsHeld xs := itemsHeld_append [c]
    rw [cons rest, ← ih]
    cases hp : p c with
    | true =>
      rw [List.filter_cons_of_pos hp, List.filter_cons_of_neg (by simp [hp]), cons]
      omega
    | false =>
      rw [List.filter_cons_of_neg (by simp [hp]), List.filter_cons_of_pos (by simp [hp]), cons]
      omega

theorem itemsHeld_splitAtOffset (o : Nat) (cs : List LineCode) :
    itemsHeld (splitAtOffset o cs).1 + itemsHeld (splitAtOffset o cs).2 = itemsHeld cs := by
  have above : (fun c : LineCode => decide (o ≤ c.offset)) = fun c => !decide (c.offset < o) := by
    funext c
    by_cases h : c.offset < o <;> simp [h] <;> omega
  rw [splitAtOffset, above]
  exact itemsHeld_split _ cs

theorem placeTabular_length (es : List Element) (pos : MeasureWord) : (placeTabular es pos).length = (glyphsOf es).length := by
  induction es generalizing pos with
  | nil => rfl
  | cons e rest ih => cases e <;> simp [placeTabular, glyphsOf, ih]

theorem placeSet_length (es : List (Element × Bool)) (spaces gaps : List Int) (pos : MeasureWord) :
    (placeSet es spaces gaps pos).length = (glyphsOf (es.map Prod.fst)).length := by
  fun_induction placeSet es spaces gaps pos with
  | case6 head rest spaces gaps pos glyph _ _ ih =>
    obtain ⟨e, counts⟩ := head
    cases e with
    | glyph g => cases counts <;> simp at glyph
    | _ => simpa [glyphsOf] using ih
  | _ => simp_all [glyphsOf]

theorem markCounting_fst (before : Bool) (es : List Element) : (markCounting before es).map Prod.fst = es := by
  induction es generalizing before with
  | nil => rfl
  | cons e rest ih =>
    unfold markCounting
    split <;> simp [ih]

/-- A set line holds an item for each of its glyphs (R80). -/
theorem setLine_items_length (es : List Element) (st : Settings) (mode : Quad) (n : Nat) :
    (setLine es st mode n).items.length = (glyphsOf es).length := by
  have positions : (finalPositions es st (settingOf es st mode n)).length = (glyphsOf es).length := by
    unfold finalPositions
    split <;> simp [placeTabular_length, placeSet_length, markCounting_fst]
  simp [setLine, itemsOf, positions]

end Sys2Proof.Machine
end

section
/-! The law of the pool and of the Composer, over the phases of the Composer. -/

namespace Sys2Proof.Machine

/-! ### What the laws read -/

/-- The two laws of O6's second half. -/
def State.lineLaw (s : State) : Prop := s.composerLaw ∧ s.poolLaw

/-- A Desk fault holds the take of a routine ticket, or the read of its fields (R25). -/
def Scanner.holdsRoutine (c : Scanner) : Prop :=
  (∃ slot seq, c.held = some (.take slot .routine seq)) ∨ ∃ slot, c.held = some (.body slot .routine)

/-- What the laws read stands. -/
structure LineStands (s t : State) : Prop where
  state : t.scanner.state = s.scanner.state
  held : t.scanner.held = s.scanner.held
  phase : t.composer.phase = s.composer.phase
  ticket : t.composer.ticket = s.composer.ticket
  preempt : t.composer.preempt = s.composer.preempt
  codes : t.composer.line.codes = s.composer.line.codes
  drawn : t.composer.drawn = s.composer.drawn
  items : t.store.items = s.store.items

theorem State.poolLaw_iff (s : State) : s.poolLaw ↔ s.store.items + s.composer.drawn = 1536 := Iff.rfl

theorem Composer.drawnLaw_congr {k l : Composer} (hp : l.phase = k.phase) (hc : l.line.codes = k.line.codes) (hd : l.drawn = k.drawn) :
    l.drawnLaw ↔ k.drawnLaw := by
  unfold Composer.drawnLaw
  rw [hp, hc, hd]

namespace LineStands

variable {s t u : State}

theorem refl (s : State) : LineStands s s := ⟨rfl, rfl, rfl, rfl, rfl, rfl, rfl, rfl⟩

theorem trans (h : LineStands s t) (k : LineStands t u) : LineStands s u :=
  ⟨k.state.trans h.state, k.held.trans h.held, k.phase.trans h.phase, k.ticket.trans h.ticket, k.preempt.trans h.preempt,
    k.codes.trans h.codes, k.drawn.trans h.drawn, k.items.trans h.items⟩

theorem of_keeps {p : Bool} (k : Keeps p true s t) : LineStands s t := by
  have c := k.composerSide rfl
  exact ⟨by rw [c.scanner], by rw [c.scanner], by rw [c.composer], by rw [c.composer], by rw [c.composer], by rw [c.composer],
    by rw [c.composer], c.items⟩

theorem keeps {p : Bool} (h : LineStands s t) (k : Keeps p true t u) : LineStands s u := h.trans (of_keeps k)

theorem of_ite {b : Prop} [Decidable b] (ht : LineStands s t) (hu : LineStands s u) : LineStands s (if b then t else u) := by
  split
  · exact ht
  · exact hu

theorem modScanner (h : LineStands s t) (f) (hs : (f t.scanner).state = t.scanner.state) (hh : (f t.scanner).held = t.scanner.held) :
    LineStands s (t.modScanner f) :=
  { h with state := hs.trans h.state, held := hh.trans h.held }

theorem modComposer (h : LineStands s t) (f) (hp : (f t.composer).phase = t.composer.phase)
    (ht : (f t.composer).ticket = t.composer.ticket) (hq : (f t.composer).preempt = t.composer.preempt)
    (hc : (f t.composer).line.codes = t.composer.line.codes) (hd : (f t.composer).drawn = t.composer.drawn) :
    LineStands s (t.modComposer f) :=
  { h with
    phase := hp.trans h.phase
    ticket := ht.trans h.ticket
    preempt := hq.trans h.preempt
    codes := hc.trans h.codes
    drawn := hd.trans h.drawn }

theorem trigger (h : LineStands s t) : LineStands s t.trigger := by
  unfold State.trigger
  split
  · exact h
  · split <;> exact h.modScanner _ rfl rfl

theorem testPending (h : LineStands s t) : LineStands s t.testPending := by
  unfold State.testPending
  split
  · exact h.modScanner _ rfl rfl
  · exact h

theorem endCommand (h : LineStands s t) (r : CmdResult) : LineStands s (t.endCommand r) :=
  h.keeps ((Keeps.refl false true t).endCommand r nofun)

theorem finishSequence (h : LineStands s t) (r f : Half) : LineStands s (t.finishSequence r f) := by
  have hn := h.modScanner (fun c => { c with nextRoutine := r, nextFlash := f }) rfl rfl
  exact (of_ite hn.trigger hn).endCommand _

theorem sequenceGoesOn (h : LineStands s t) : LineStands s t.sequenceGoesOn := by
  unfold State.sequenceGoesOn
  split
  · exact h.finishSequence _ _
  · exact h

theorem expireHeldTimer (h : LineStands s t) : LineStands s t.expireHeldTimer := of_ite (h.modScanner _ rfl rfl) h

theorem endScan (h : LineStands s t) : LineStands s t.endScan := (h.modScanner _ rfl rfl).expireHeldTimer.testPending.sequenceGoesOn

theorem carry (h : LineStands s t) (cls : Class) : LineStands s (t.carry cls) := by
  cases cls with
  | flash => exact h
  | routine => exact h.modComposer (fun c => { c with carried := some c.current }) rfl rfl rfl rfl rfl

/-- A cancel withdraws records with their items in them. -/
theorem withdraw (h : LineStands s t) (i : Fin 8) : LineStands s (t.withdraw i) := by
  have hw : LineStands s (t.modStore fun l =>
      { l with records := (withdrawFrom i (max t.store.film.reached t.store.proof.reached) t.store.records).1 }) :=
    { h with items := by simpa [LineStore.items, withdrawFrom_itemCount] using h.items }
  exact of_ite (hw.modComposer _ rfl rfl rfl rfl rfl) hw

theorem startBlocks (h : LineStands s t) (x : Holding) : LineStands s (t.startBlocks x) := by
  unfold State.startBlocks
  exact ((((((h.modScanner _ rfl rfl).keeps ((Keeps.refl false true _).modFonts _ (fun _ => rfl) (by simp))).modComposer _ rfl rfl rfl rfl rfl).keeps
    ((Keeps.refl false true _).modFilm _ rfl)).keeps (Keeps.refl false true _).startProof))

theorem startEnds (h : LineStands s t) : LineStands s t.startEnds := by
  unfold State.startEnds
  exact ((h.keeps ((Keeps.refl false true _).modDesk _ rfl rfl rfl (by simp) nofun)).modScanner _ rfl rfl).trigger.testPending.endCommand _

theorem cancelResumed (h : LineStands s t) (i : Fin 8) : LineStands s (t.cancelResumed i) :=
  (h.keeps ((Keeps.refl false true _).modEntry _ _)).modComposer _ rfl rfl rfl rfl rfl

theorem lineLaw (h : LineStands s t) : s.lineLaw → t.lineLaw := by
  rintro ⟨⟨idle, locked, ticket, held, drawn⟩, pool⟩
  refine ⟨⟨?_, ?_, ?_, ?_, (Composer.drawnLaw_congr h.phase h.codes h.drawn).2 drawn⟩, ?_⟩
  · rw [h.state, h.phase]
    exact idle
  · rw [h.preempt, h.state]
    exact locked
  · rw [h.phase, h.ticket]
    exact ticket
  · rw [h.held, h.state]
    exact held
  · rw [State.poolLaw_iff, h.items, h.drawn]
    exact pool

end LineStands

theorem State.lineLaw.keeps {s t : State} {p : Bool} (h : s.lineLaw) (k : Keeps p true s t) : t.lineLaw :=
  (LineStands.of_keeps k).lineLaw h

/-! ### A Composer at work -/

/-- What holds of the pool and of the scanner while the Composer works, whatever its phase. -/
structure Composing (s : State) : Prop where
  busy : s.scanner.state ≠ .idle
  locked : s.composer.preempt ≠ none → s.scanner.state = .locked
  held : ¬ s.scanner.holdsRoutine
  pool : s.store.items + s.composer.drawn = 1536

/-- A phase with a line being built, all of whose items stand in its codes. -/
def Phase.builds : Phase → Bool
  | .reading | .testing _ | .choosing _ _ | .searching _ | .hyphen _ => true
  | _ => false

/-- A phase with no line being built. -/
def Phase.rests : Phase → Bool
  | .idle | .begin | .lead _ _ | .contextWrite | .openCut | .closeCut | .flashScan | .readback | .validWrite _ => true
  | _ => false

theorem Composer.drawnLaw_of_builds {k : Composer} (h : k.phase.builds = true) :
    k.drawnLaw ↔ k.drawn = itemsHeld k.line.codes := by
  unfold drawnLaw
  split <;> simp_all [Phase.builds]

theorem Composer.drawnLaw_of_rests {k : Composer} (h : k.phase.rests = true) :
    k.drawnLaw ↔ k.drawn = 0 ∧ itemsHeld k.line.codes = 0 := by
  unfold drawnLaw
  split <;> simp_all [Phase.rests]

namespace State.lineLaw

variable {s : State}

theorem composing (h : s.lineLaw) (hp : s.composer.phase ≠ .idle) : Composing s := by
  obtain ⟨⟨idle, locked, -, held, -⟩, pool⟩ := h
  have busy : s.scanner.state ≠ .idle := hp ∘ idle
  exact ⟨busy, locked, fun e => busy (held e), pool⟩

theorem drawn (h : s.lineLaw) : s.composer.drawnLaw := h.1.2.2.2.2

theorem built (h : s.lineLaw) (hp : s.composer.phase.builds = true) : s.composer.drawn = itemsHeld s.composer.line.codes :=
  (Composer.drawnLaw_of_builds hp).1 h.drawn

theorem rested (h : s.lineLaw) (hp : s.composer.phase.rests = true) :
    s.composer.drawn = 0 ∧ itemsHeld s.composer.line.codes = 0 :=
  (Composer.drawnLaw_of_rests hp).1 h.drawn

end State.lineLaw

namespace Composing

variable {s t : State}

theorem stands (h : Composing s) (k : LineStands s t) : Composing t := by
  refine ⟨k.state ▸ h.busy, ?_, ?_, ?_⟩
  · rw [k.preempt, k.state]
    exact h.locked
  · unfold Scanner.holdsRoutine
    rw [k.held]
    exact h.held
  · rw [k.items, k.drawn]
    exact h.pool

theorem keeps {p : Bool} (h : Composing s) (k : Keeps p true s t) : Composing t := h.stands (.of_keeps k)

/-- A change of the Composer that draws and returns nothing and asks for no preemption. -/
theorem modComposer (h : Composing s) (f : Composer → Composer) (hp : (f s.composer).preempt = s.composer.preempt)
    (hd : (f s.composer).drawn = s.composer.drawn) : Composing (s.modComposer f) :=
  { h with
    locked := fun e => h.locked (hp ▸ e)
    pool := by
      have := h.pool
      rwa [← hd] at this }

theorem law (h : Composing s) (hi : s.composer.phase = .idle → s.composer.ticket = none) (hd : s.composer.drawnLaw) : s.lineLaw :=
  ⟨⟨fun e => absurd e h.busy, h.locked, hi, fun e => absurd e h.held, hd⟩, h.pool⟩

theorem law_of_builds (h : Composing s) (hp : s.composer.phase.builds = true)
    (hd : s.composer.drawn = itemsHeld s.composer.line.codes) : s.lineLaw :=
  h.law (fun e => by simp [e, Phase.builds] at hp) ((Composer.drawnLaw_of_builds hp).2 hd)

theorem law_of_rests (h : Composing s) (hp : s.composer.phase.rests = true) (hi : s.composer.phase = .idle → s.composer.ticket = none)
    (h0 : s.composer.drawn = 0) (hc : itemsHeld s.composer.line.codes = 0) : s.lineLaw :=
  h.law hi ((Composer.drawnLaw_of_rests hp).2 ⟨h0, hc⟩)

theorem setPhase (h : Composing s) (p : Phase) : Composing (s.setPhase p) := h.modComposer _ rfl rfl

theorem setPhase_builds (h : Composing s) {p : Phase} (hp : p.builds = true)
    (hd : s.composer.drawn = itemsHeld s.composer.line.codes) : (s.setPhase p).lineLaw :=
  (h.setPhase p).law_of_builds hp hd

theorem setPhase_rests (h : Composing s) {p : Phase} (hp : p.rests = true) (hi : p ≠ .idle) (h0 : s.composer.drawn = 0)
    (hc : itemsHeld s.composer.line.codes = 0) : (s.setPhase p).lineLaw :=
  (h.setPhase p).law_of_rests hp (fun e => absurd e hi) h0 hc

end Composing

/-! ### Codes that place no item -/

namespace State.lineLaw

variable {s : State}

/-- Of a line being built the law reads its items alone. -/
theorem pushCode (h : s.lineLaw) (hp : s.composer.phase.builds = true) {c : LineCode} (hc : c.glyph? = none) :
    (s.pushCode c).lineLaw := by
  have hi : s.composer.phase ≠ .idle := fun e => by simp [e, Phase.builds] at hp
  refine Composing.law_of_builds ((h.composing hi).modComposer _ rfl rfl) hp ?_
  simp [State.pushCode, itemsHeld_of_no_glyph hc, h.built hp]

end State.lineLaw

/-! ### The ticket in hand -/

/-- The Composer holds a ticket, with its entry. -/
def State.Ticketed (s : State) : Prop := ∃ i e, s.composer.ticket = some i ∧ s.flight[i] = some e

theorem State.ticketEntry_eq_some {s : State} {i : Fin 8} {e : Entry} :
    s.ticketEntry = some (i, e) ↔ s.composer.ticket = some i ∧ s.flight[i] = some e := by
  unfold State.ticketEntry State.entry
  constructor
  · intro h
    obtain ⟨j, hj, h⟩ := Option.bind_eq_some_iff.1 h
    obtain ⟨x, hx, h⟩ := Option.map_eq_some_iff.1 h
    cases h
    exact ⟨hj, hx⟩
  · rintro ⟨hi, he⟩
    simpa [hi] using he

theorem State.ticketEntry_ne_none {s : State} : s.ticketEntry ≠ none ↔ s.Ticketed := by
  rw [Option.ne_none_iff_exists']
  constructor
  · rintro ⟨⟨i, e⟩, h⟩
    exact ⟨i, e, State.ticketEntry_eq_some.1 h⟩
  · rintro ⟨i, e, h⟩
    exact ⟨(i, e), State.ticketEntry_eq_some.2 h⟩

namespace State.Ticketed

variable {s t : State}

theorem of_eq (h : s.Ticketed) (ht : t.composer.ticket = s.composer.ticket) (hf : t.flight = s.flight) : t.Ticketed := by
  obtain ⟨i, e, hi, he⟩ := h
  exact ⟨i, e, ht.trans hi, by rw [hf]; exact he⟩

/-- A change of an entry leaves it in the table. -/
theorem modEntry (h : s.Ticketed) (j : Fin 8) (f : Entry → Entry) : (s.modEntry j f).Ticketed := by
  obtain ⟨i, e, hi, he⟩ := h
  by_cases hj : j = i
  · subst hj
    exact ⟨j, f e, hi, by simpa [State.modEntry] using ⟨e, he, rfl⟩⟩
  · have : j.val ≠ i.val := fun e => hj (Fin.ext e)
    exact ⟨i, e, hi, by simpa [State.modEntry, this] using he⟩

end State.Ticketed

/-! ### The end of a ticket's composition -/

namespace Composing

variable {s : State}

theorem discardLine (h : Composing s) : Composing s.discardLine :=
  { h with
    pool := by
      have := h.pool
      simp only [State.discardLine, State.modComposer_composer, State.modComposer_store, State.modStore_store, LineStore.items] at this ⊢
      omega }

/-- A ticket leaves with nothing drawn. -/
theorem leaveTicket (h : Composing s) (cls : Class) (h0 : s.composer.drawn = 0) (hc : itemsHeld s.composer.line.codes = 0) :
    (s.leaveTicket cls).lineLaw := by
  cases cls with
  | flash => exact h.setPhase_rests rfl (by simp) h0 hc
  | routine =>
    have left := h.modComposer (fun c => { c with ticket := none, phase := .idle }) rfl rfl
    have law := left.law_of_rests rfl (fun _ => rfl) h0 hc
    unfold State.leaveTicket
    dsimp only
    split
    next hw =>
      have idle : ((s.modComposer fun c => { c with ticket := none, phase := .idle }).modScanner fun c =>
          { c with state := .idle }).lineLaw := by
        refine ⟨⟨fun _ => rfl, fun e => ?_, fun _ => rfl, fun _ => rfl, ⟨h0, hc⟩⟩, h.pool⟩
        have := h.locked e
        simp [State.modComposer_scanner] at hw
        simp [hw] at this
      exact (LineStands.refl _).trigger.lineLaw idle
    next => exact law

/-- The Composer stops a ticket in hand. -/
theorem stopTicket (h : Composing s) (ht : s.Ticketed) (r : Reason) (m : Option Nat) : (s.stopTicket r m).lineLaw := by
  obtain ⟨i, e, ht⟩ := ht
  unfold State.stopTicket
  rw [State.ticketEntry_eq_some.2 ht]
  dsimp only
  have discarded := (h.discardLine.modComposer (fun c => { c with current := c.snapshot }) rfl rfl).keeps
    ((Keeps.refl false true _).modEntry i fun x =>
      { x with held := some r, maskedBit := m, stopOffset := s.composer.lineStart, finished := true })
  have carried := (LineStands.refl _).carry (t := (s.discardLine.modComposer fun c => { c with current := c.snapshot }).modEntry i fun x =>
      { x with held := some r, maskedBit := m, stopOffset := s.composer.lineStart, finished := true }) e.cls
  exact (discarded.stands carried).leaveTicket _ carried.drawn (carried.codes ▸ rfl)

theorem finishTake (h : Composing s) (ht : s.Ticketed) (o : Nat) (h0 : s.composer.drawn = 0)
    (hc : itemsHeld s.composer.line.codes = 0) : (s.finishTake o).lineLaw := by
  obtain ⟨i, e, ht⟩ := ht
  unfold State.finishTake
  rw [State.ticketEntry_eq_some.2 ht]
  have finished : LineStands s ((s.modEntry i fun x => { x with stopOffset := o, finished := true }).carry e.cls) :=
    ((LineStands.refl s).keeps ((Keeps.refl false true _).modEntry i _)).carry e.cls
  exact (h.stands finished).leaveTicket _ (finished.drawn.trans h0) (finished.codes ▸ hc)

/-- What follows an append, or an empty line's end, with the items that are left in the line. -/
theorem goAfter (h : Composing s) (ht : s.Ticketed) (a : After) (hd : s.composer.drawn = itemsHeld s.composer.line.codes)
    (hf : ∀ o, a = .finishTake o → itemsHeld s.composer.line.codes = 0) (hp : ∀ c, a = .place c → c.glyph? ≠ none) :
    (s.goAfter a).lineLaw := by
  cases a with
  | readOn => exact h.setPhase_builds rfl hd
  | retest => exact h.setPhase_builds rfl hd
  | place c => exact (h.setPhase _).law nofun ⟨hd, hp c rfl⟩
  | finishTake o => exact h.finishTake ht o (hd.trans (hf o rfl)) (hf o rfl)

end Composing

/-! ### Appends -/

/-- A group appended adds the items of its records. -/
theorem State.append_items (s : State) (i : Fin 8) (rs : List Record) :
    (s.append i rs).store.items = s.store.items + (rs.map Record.itemCount).sum := by
  simp only [State.append]
  split <;> simp [LineStore.items] <;> omega

end Sys2Proof.Machine
end

section
/-! The law of the pool and of the Composer, over the ends of lines and the rest of the Composer's phases. -/

namespace Sys2Proof.Machine

namespace State.Ticketed

variable {s t : State}

theorem modComposer (h : s.Ticketed) (f : Composer → Composer) (ht : (f s.composer).ticket = s.composer.ticket) :
    (s.modComposer f).Ticketed :=
  h.of_eq ht rfl

theorem report (h : s.Ticketed) (i : Fin 8) (n : Nat) (x : Half) : (s.report i n x).Ticketed := h.modEntry i _

theorem append (h : s.Ticketed) (i : Fin 8) (rs : List Record) : (s.append i rs).Ticketed := by
  simp only [State.append]
  refine State.Ticketed.modEntry ?_ _ _
  split <;> exact h.of_eq rfl rfl

theorem busWrite (h : s.Ticketed) (a : Addr) (bs : List Byte) : (s.busWrite a bs).2.Ticketed := by
  unfold State.busWrite
  split
  · exact h.of_eq (by simp) (by simp)
  · split <;> exact h.of_eq (by simp) (by simp)

theorem writeLog (h : s.Ticketed) (i : Fin 8) (e : Entry) (g : EndedLine) : (s.writeLog i e g).2.Ticketed := by
  unfold State.writeLog
  split
  · dsimp only
    split
    · exact (h.busWrite _ _).modEntry _ _
    · exact h.busWrite _ _
  · exact h

end State.Ticketed

namespace Composing

variable {s t : State}

/-- An item drawn is one free item fewer. -/
theorem drawItem (h : Composing s) (hfree : 0 < s.store.free) : Composing s.drawItem :=
  { h with
    pool := by
      have := h.pool
      simp only [State.drawItem, State.modComposer_store, State.modComposer_composer, State.modStore_store, State.modStore_composer,
        LineStore.items] at this ⊢
      omega }

/-! ### A line that ends (R102) -/

/-- A line that ends waits for its group to be appended, with its items and those of the part carried. -/
theorem endLine (h : Composing s) (hs : ¬ s.Ticketed → s.lineLaw) (le : LineEnd)
    (hd : s.composer.drawn = itemsHeld le.kept + hyphenItems le.hyphen + itemsHeld le.carried)
    (hf : ∀ o, le.after = .finishTake o → itemsHeld le.carried = 0) (hp : ∀ c, le.after = .place c → c.glyph? ≠ none) :
    (s.endLine le).lineLaw := by
  unfold State.endLine
  split
  next e => exact hs fun ht => State.ticketEntry_ne_none.2 ht e
  next i e he =>
    have ht : s.Ticketed := ⟨i, e, State.ticketEntry_eq_some.1 he⟩
    have reported : ∀ x, LineStands s (s.report i e.lineNumber x) := fun x => .of_keeps ((Keeps.refl false true s).report i _ x)
    dsimp only
    split
    · exact (h.stands (reported _)).stopTicket (ht.report ..) _ _
    · refine ((h.stands (reported _)).setPhase _).law nofun ⟨?_, hf, hp⟩
      have kept : (glyphsOf le.elements).length = itemsHeld le.kept + hyphenItems le.hyphen := by
        cases hh : le.hyphen <;> simp [LineEnd.elements, hh, hyphenItems, itemsHeld, glyphsOf]
      refine ((reported _).drawn.trans hd).trans ?_
      simp only [LineEnd.group, setLine_items_length, kept]

end Composing

namespace State.lineLaw

variable {s : State}

theorem not_idle_of_builds (hp : s.composer.phase.builds = true) : s.composer.phase ≠ .idle := fun e => by
  simp [e, Phase.builds] at hp

/-- A line being built ends whole. -/
theorem endWhole (h : s.lineLaw) (hp : s.composer.phase.builds = true) (q : Quad) (n : Nat) (a : After)
    (ha : ∀ c, a = .place c → c.glyph? ≠ none) : (s.endWhole q n a).lineLaw :=
  (h.composing (not_idle_of_builds hp)).endLine (fun _ => h) _ (by simpa [hyphenItems] using h.built hp) (fun _ _ => rfl) ha

theorem endEmpty (h : s.lineLaw) (hp : s.composer.phase.builds = true) (he : s.composer.line.isEmpty = true) (a : After)
    (ha : ∀ c, a = .place c → c.glyph? ≠ none) : (s.endEmpty a).lineLaw := by
  have hc := h.composing (not_idle_of_builds hp)
  have h0 : s.composer.drawn = 0 := (h.built hp).trans (itemsHeld_of_isEmpty he)
  unfold State.endEmpty
  split
  · exact h
  next i e ht =>
    have ht : s.Ticketed := ⟨i, e, State.ticketEntry_eq_some.1 ht⟩
    have reported : ∀ x, LineStands s (s.report i e.lineNumber x) := fun x => .of_keeps ((Keeps.refl false true s).report i _ x)
    dsimp only
    split
    · exact (hc.stands (reported _)).stopTicket (ht.report ..) _ _
    · refine Composing.goAfter ((hc.stands (reported _)).modComposer _ rfl rfl) ((ht.report ..).modComposer _ rfl) a ?_ (fun _ _ => rfl) ha
      exact (reported _).drawn.trans h0

/-- A trigger acts on the line being built. -/
theorem actTrigger (h : s.lineLaw) (hp : s.composer.phase.builds = true) (t : Trigger) : (s.actTrigger t).lineLaw := by
  have hc := h.composing (not_idle_of_builds hp)
  cases t with
  | space o mn op mx =>
    have hpush := h.pushCode hp (c := s.spaceCode o mn op mx) rfl
    exact (hpush.composing (not_idle_of_builds hp)).setPhase_builds rfl (hpush.built hp)
  | endCode => exact h.endWhole hp _ _ _ nofun
  | endParagraph =>
    unfold State.actTrigger
    dsimp only
    split
    next he => exact h.endEmpty hp he _ nofun
    next => exact h.endWhole hp _ _ _ nofun
  | endOfTake =>
    unfold State.actTrigger
    dsimp only
    split
    next he => exact h.endEmpty hp he _ nofun
    next => exact h.endWhole hp _ _ _ nofun

theorem breakAt (h : s.lineLaw) (hp : s.composer.phase.builds = true) (o : Nat) (x : Half) (a : After)
    (ha : ∀ c, a = .place c → c.glyph? ≠ none) (hf : ∀ o, a ≠ .finishTake o) : (s.breakAt o none x a).lineLaw := by
  refine (h.composing (not_idle_of_builds hp)).endLine (fun _ => h) _ ?_ (fun o e => absurd e (hf o)) ha
  rw [h.built hp, ← itemsHeld_splitAtOffset o s.composer.line.codes]
  rfl

theorem forceWhole (h : s.lineLaw) (hp : s.composer.phase.builds = true) (t : Trigger) : (s.forceWhole t).lineLaw := by
  have forced : (s.modComposer fun c => { c with line := { c.line with conditions := c.line.conditions ||| Cond.forced } }).lineLaw :=
    ((LineStands.refl s).modComposer _ rfl rfl rfl rfl rfl).lineLaw h
  cases t with
  | space o mn op mx =>
    refine (h.composing (not_idle_of_builds hp)).endLine (fun _ => h) _ ?_ (fun _ _ => rfl) nofun
    simp [hyphenItems, h.built hp, itemsHeld_of_no_glyph (c := s.spaceCode o mn op mx) rfl]
  | endCode => exact forced.actTrigger hp _
  | endParagraph => exact forced.actTrigger hp _
  | endOfTake => exact forced.actTrigger hp _

theorem breakWithoutPoint (h : s.lineLaw) (hp : s.composer.phase.builds = true) (t : Trigger) : (s.breakWithoutPoint t).lineLaw := by
  unfold State.breakWithoutPoint
  split
  · split
    · exact h.breakAt hp _ _ _ nofun nofun
    · exact h.actTrigger hp t
  · split
    · exact h.breakAt hp _ _ _ nofun nofun
    · exact h.forceWhole hp t

theorem setPhase_builds (h : s.lineLaw) (hp : s.composer.phase.builds = true) {p : Phase} (hq : p.builds = true) :
    (s.setPhase p).lineLaw :=
  (h.composing (not_idle_of_builds hp)).setPhase_builds hq (h.built hp)

theorem testTrigger (h : s.lineLaw) (hp : s.composer.phase.builds = true) (t : Trigger) : (s.testTrigger t).lineLaw := by
  unfold State.testTrigger
  dsimp only
  split
  · exact h.actTrigger hp t
  · split <;> exact h.setPhase_builds hp rfl

theorem choose (h : s.lineLaw) (hp : s.composer.phase.builds = true) (t : Trigger) (cs : List Candidate) : (s.choose t cs).lineLaw := by
  unfold State.choose
  split
  · exact h.setPhase_builds hp rfl
  · exact h.breakWithoutPoint hp t

/-- The hyphen drawn stands in the line that ends with it. -/
theorem hyphenate (h : s.lineLaw) (hp : s.composer.phase.builds = true) (hfree : 0 < s.store.free) (p : HyphenPlan) :
    (s.hyphenate p).lineLaw := by
  unfold State.hyphenate
  split
  · exact h
  next x ht =>
    have hc := h.composing (not_idle_of_builds hp)
    have drawn := hc.drawItem hfree
    have ht : s.Ticketed := State.ticketEntry_ne_none.1 (by simp [ht])
    refine drawn.endLine (fun hn => absurd (ht.of_eq rfl rfl) hn) _ ?_ nofun nofun
    have := h.built hp
    have := itemsHeld_splitAtOffset p.breakOffset s.composer.line.codes
    simp only [State.drawItem, State.modComposer_composer, State.modStore_composer, hyphenItems, Option.isSome_some, if_true, splitAtOffset] at *
    omega

/-! ### Characters -/

theorem limitBreak (h : s.lineLaw) (hp : s.composer.phase ≠ .idle) (hd : s.composer.drawn = itemsHeld s.composer.line.codes)
    (c : LineCode) (hg : c.glyph? ≠ none) : (s.limitBreak c).lineLaw := by
  have broken : ∀ o, (s.breakAt o none Cond.forced (.place c)).lineLaw := fun o => by
    refine (h.composing hp).endLine (fun _ => h) _ ?_ nofun (fun _ e => After.place.inj e ▸ hg)
    rw [hd, ← itemsHeld_splitAtOffset o s.composer.line.codes]
    rfl
  unfold State.limitBreak
  dsimp only
  split
  · exact broken _
  · split <;> exact broken _

theorem placeCharacter (h : s.lineLaw) {c : LineCode} (hp : s.composer.phase = .placing c) (hr : s.canPlace c = true) :
    (s.placeCharacter c).lineLaw := by
  have hn : s.composer.phase ≠ .idle := by simp [hp]
  have hc := h.composing hn
  obtain ⟨hd, hg⟩ : s.composer.drawn = itemsHeld s.composer.line.codes ∧ c.glyph? ≠ none := by
    have := h.drawn
    rwa [Composer.drawnLaw, hp] at this
  unfold State.placeCharacter
  dsimp only
  split
  next hl =>
    split
    · refine Composing.setPhase_builds (hc.modComposer _ rfl rfl) rfl ?_
      simp [hd, itemsHeld_of_no_glyph (c := { c with element := none, conditions := c.conditions ||| Cond.forced }) rfl]
    · exact h.limitBreak hn hd c hg
  next hl =>
    have hfree : 0 < s.store.free := by simpa [State.canPlace, hl] using hr
    have drawn := hc.drawItem hfree
    refine Composing.law_of_builds (drawn.modComposer _ rfl rfl) rfl ?_
    simp [State.drawItem, itemsHeld_of_glyph hg, hd]

/-! ### Appends -/

/-- The group of an ended line goes to the ring with its items; those of the carried part begin the next line. -/
theorem appendGroup (h : s.lineLaw) {g : EndedLine} (hp : s.composer.phase = .group g) : (s.appendGroup g).lineLaw := by
  have hc := h.composing (by simp [hp])
  obtain ⟨hd, hf, hpl⟩ : s.composer.drawn = g.items.length + itemsHeld g.carried
      ∧ (∀ o, g.after = .finishTake o → itemsHeld g.carried = 0) ∧ ∀ c, g.after = .place c → c.glyph? ≠ none := by
    have := h.drawn
    rwa [Composer.drawnLaw, hp] at this
  unfold State.appendGroup
  split
  · exact h
  next i e ht =>
    have ht : s.Ticketed := ⟨i, e, State.ticketEntry_eq_some.1 ht⟩
    have items : (((e.record i g.conditions (.text g.leadTicks g.items g.fonts) :: g.leads.map fun l => e.record i 0 (.lead l)).map
        Record.itemCount)).sum = g.items.length := by
      have leads : ∀ ls : List Lead, ((ls.map fun l => e.record i 0 (.lead l)).map Record.itemCount).sum = 0 := by
        intro ls
        induction ls with
        | nil => rfl
        | cons l rest ih => simpa [Entry.record, Record.itemCount] using ih
      simp only [List.map_cons, List.sum_cons, leads]
      rfl
    have appended : Composing (s.appendLine i e g) :=
      { busy := by simpa [State.appendLine] using hc.busy
        locked := by simpa [State.appendLine] using hc.locked
        held := by simpa [State.appendLine] using hc.held
        pool := by
          have := hc.pool
          simp only [State.appendLine, State.modComposer_store, State.modEntry_store, State.append_items, items,
            State.modComposer_composer, State.modEntry_composer, State.append_composer]
          omega }
    have left : (s.appendLine i e g).composer.drawn = itemsHeld g.carried := by
      simp [State.appendLine, hd]
    have ticketed : (s.appendLine i e g).Ticketed := ((ht.append ..).modEntry ..).modComposer _ rfl
    have logged := LineStands.of_keeps ((Keeps.refl false true (s.appendLine i e g)).writeLog i e g)
    have next : Composing (((s.appendLine i e g).writeLog i e g).2.startNextLine i g) :=
      ((appended.stands logged).keeps ((Keeps.refl false true _).modEntry i _)).modComposer _ rfl rfl
    have ticketed' : (((s.appendLine i e g).writeLog i e g).2.startNextLine i g).Ticketed :=
      ((ticketed.writeLog ..).modEntry ..).modComposer _ rfl
    have drawn : (((s.appendLine i e g).writeLog i e g).2.startNextLine i g).composer.drawn = itemsHeld g.carried := by
      simpa [State.startNextLine] using logged.drawn.trans left
    have codes : (((s.appendLine i e g).writeLog i e g).2.startNextLine i g).composer.line.codes = g.carried := by
      simp only [State.startNextLine, State.modComposer_composer, Line.carriedFrom]
      split
      · rfl
      · simp [Line.fix]
    dsimp only
    split
    · exact next.goAfter ticketed' _ (codes ▸ drawn) (codes ▸ hf) hpl
    · exact next.stopTicket ticketed' _ _

/-- A record with no items leaves the pool as it stands. -/
theorem append_itemless (s : State) (i : Fin 8) (r : Record) (hr : r.itemCount = 0) : LineStands s (s.append i [r]) := by
  have items : (s.append i [r]).store.items = s.store.items := by simp [State.append_items, hr]
  exact ⟨by simp, by simp, by simp, by simp, by simp, by simp, by simp, items⟩

theorem appendCut_stands (s : State) (i : Fin 8) (r : Record) (hr : r.itemCount = 0) : LineStands s (s.appendCut i r) :=
  (append_itemless s i r hr).modComposer _ rfl rfl rfl rfl rfl

theorem appendLead (h : s.lineLaw) (hp : s.composer.phase.rests = true) (hi : s.composer.phase ≠ .idle) (l : Lead) (n : Nat) :
    (s.appendLead l n).lineLaw := by
  unfold State.appendLead
  split
  · exact h
  next i e ht =>
    have appended := append_itemless s i (e.record i 0 (.lead l)) rfl
    exact Composing.law_of_builds (((h.composing hi).stands appended).modComposer _ rfl rfl) rfl (appended.drawn.trans (h.rested hp).1)

theorem bracketCut_stands (s : State) (cls : CutClass) : LineStands s (s.bracketCut cls) := by
  unfold State.bracketCut
  split
  · exact .refl s
  · exact appendCut_stands _ _ _ rfl

/-! ### Flashes -/

theorem rested_setPhase (h : s.lineLaw) {t : State} (k : LineStands s t) (hp : s.composer.phase.rests = true)
    (hi : s.composer.phase ≠ .idle) {p : Phase} (hq : p.rests = true) (hn : p ≠ .idle) : (t.setPhase p).lineLaw :=
  have ⟨h0, hc⟩ := h.rested hp
  ((h.composing hi).stands k).setPhase_rests hq hn (k.drawn.trans h0) (k.codes ▸ hc)

theorem makeOpenCut (h : s.lineLaw) (hp : s.composer.phase = .openCut) : s.makeOpenCut.lineLaw := by
  refine h.rested_setPhase ?_ (by rw [hp]; rfl) (by simp [hp]) rfl (by simp)
  exact .of_ite (bracketCut_stands s _) (.refl s)

theorem makeCloseCut (h : s.lineLaw) (hp : s.composer.phase = .closeCut) : s.makeCloseCut.lineLaw := by
  have ⟨h0, hc⟩ := h.rested (by rw [hp]; rfl)
  have k := bracketCut_stands s .flashClose
  refine Composing.law_of_rests (((h.composing (by simp [hp])).stands k).modComposer _ rfl rfl) rfl nofun (k.drawn.trans h0) ?_
  exact k.codes ▸ hc

theorem writeContext (h : s.lineLaw) (hp : s.composer.phase = .contextWrite) : s.writeContext.lineLaw := by
  have k := (Keeps.refl false true s).busWrite (s.areaAddr s.desk.areas.context 0)
    (contextBytes s.composer.suspended s.composer.savedOffset s.composer.saved)
  unfold State.writeContext
  dsimp only
  split
  · exact h.rested_setPhase (.of_keeps k) (by rw [hp]; rfl) (by simp [hp]) rfl (by simp)
  · exact h.keeps (k.fault _)

/-- A flash preempts: the line is discarded, its items come back, and the flash is in hand. -/
theorem preemptFor (h : s.lineLaw) (i : Fin 8) (hq : s.composer.preempt = some i) : (s.preemptFor i).lineLaw := by
  obtain ⟨⟨-, locked, -, held, -⟩, pool⟩ := h
  have hl := locked (by simp [hq])
  have busy : s.scanner.state ≠ .idle := by simp [hl]
  have hc : Composing s := ⟨busy, locked, fun e => busy (held e), pool⟩
  unfold State.preemptFor
  dsimp only
  split <;>
    exact Composing.law_of_rests { hc.discardLine with locked := fun e => absurd rfl e } rfl nofun rfl rfl

end State.lineLaw

end Sys2Proof.Machine
end

section
/-! The law of the pool and of the Composer, over the scans of the Tray and the run of the Composer. -/

namespace Sys2Proof.Machine

/-! ### Scans of the Tray (spec 02, section 3.2) -/

/-- An operation that a Desk fault holds is one of a routine ticket. -/
def HeldTray.isRoutine (x : HeldTray) : Prop := (∃ slot seq, x = .take slot .routine seq) ∨ ∃ slot, x = .body slot .routine

/-- A scan may take a ticket: nothing of a routine ticket is held, and a routine ticket is taken in IDLE alone (R25). -/
structure Scanning (s : State) (routine : Prop) : Prop where
  law : s.lineLaw
  held : ¬ s.scanner.holdsRoutine
  idle : routine → s.scanner.state = .idle

/-- How a scan of a Tray leaves the laws: the phase stands but for a ticket entered, and with nothing found all they read stands. -/
structure Scanned (s : State) (r : ScanEnd × State) : Prop where
  law : r.2.lineLaw
  phase : r.1 ≠ .entered → r.2.composer.phase = s.composer.phase
  nothing : r.1 = .nothing → LineStands s r.2

namespace LineStands

variable {s t : State}

theorem advance (h : LineStands s t) (cls : Class) : LineStands s (t.modScanner fun c => c.advance cls) := by
  cases cls <;> exact h.modScanner _ rfl rfl

theorem event (h : LineStands s t) (e : BitVec 4) : LineStands s (t.event e) := h.keeps ((Keeps.refl false true t).event e)

end LineStands

namespace Scanning

variable {s t : State} {routine : Prop}

theorem stands (h : Scanning s routine) (k : LineStands s t) : Scanning t routine :=
  ⟨k.lineLaw h.law, by unfold Scanner.holdsRoutine; rw [k.held]; exact h.held, fun e => k.state.trans (h.idle e)⟩

theorem weaken {other : Prop} (h : Scanning s routine) (e : other → routine) : Scanning s other := { h with idle := h.idle ∘ e }

end Scanning

namespace Scanned

variable {s t : State} {r : ScanEnd × State}

theorem of_stands (h : Scanned t r) (k : LineStands s t) : Scanned s r :=
  ⟨h.law, fun e => (h.phase e).trans k.phase, fun e => k.trans (h.nothing e)⟩

theorem of_nothing (hs : s.lineLaw) (k : LineStands s t) : Scanned s (.nothing, t) := ⟨k.lineLaw hs, fun _ => k.phase, fun _ => k⟩

theorem of_refused (hs : s.lineLaw) (k : LineStands s t) : Scanned s (.refused, t) := ⟨k.lineLaw hs, fun _ => k.phase, nofun⟩

end Scanned

namespace State.lineLaw

variable {s : State}

theorem holdTray (h : s.lineLaw) {x : HeldTray} (hx : x.isRoutine → s.scanner.state = .idle) : (s.holdTray x).lineLaw := by
  have held : (s.modScanner fun c => { c with held := some x }).lineLaw := by
    obtain ⟨⟨idle, locked, ticket, -, drawn⟩, pool⟩ := h
    exact ⟨⟨idle, locked, ticket, by simpa [HeldTray.isRoutine] using hx, drawn⟩, pool⟩
  exact held.keeps ((Keeps.refl false true _).fault _)

theorem fault_of_holdTray (h : s.lineLaw) {x : HeldTray} (hx : x.isRoutine → s.scanner.state = .idle) :
    Scanned s (.fault, s.holdTray x) :=
  ⟨h.holdTray hx, fun _ => by simp [State.holdTray], nofun⟩

/-- A refusal that is written changes nothing the laws read; one that is not is held. -/
theorem writeRefusal (h : s.lineLaw) (slot : Nat) (r : Reason) :
    (s.writeRefusal slot r).2.lineLaw ∧ (s.writeRefusal slot r).2.composer.phase = s.composer.phase
      ∧ ((s.writeRefusal slot r).1 = true → LineStands s (s.writeRefusal slot r).2) := by
  have hw := LineStands.of_keeps ((Keeps.refl false true s).writeResults slot (Results.refusal r) refusedByte)
  simp only [State.writeRefusal]
  split
  · exact ⟨(hw.event _).lineLaw h, (hw.event _).phase, fun _ => hw.event _⟩
  · have hf := (hw.lineLaw h).fault_of_holdTray (x := .refusal slot r) (by rintro (⟨_, _, e⟩ | ⟨_, e⟩) <;> cases e)
    exact ⟨hf.law, (hf.phase nofun).trans hw.phase, nofun⟩

theorem refuseStale (h : s.lineLaw) (slot : Nat) (again : Bool) :
    (s.refuseStale slot again).2.lineLaw ∧ (s.refuseStale slot again).2.composer.phase = s.composer.phase
      ∧ ((s.refuseStale slot again).1 = true → LineStands s (s.refuseStale slot again).2) := by
  have hr := LineStands.of_keeps ((Keeps.refl false true s).busRead (s.slotAddr slot 0) 1)
  have held : ∀ {t : State}, LineStands s t → (t.holdTray (.staleLock slot)).lineLaw
      ∧ (t.holdTray (.staleLock slot)).composer.phase = s.composer.phase := by
    intro t k
    have hf := (k.lineLaw h).fault_of_holdTray (x := .staleLock slot) (by rintro (⟨_, _, e⟩ | ⟨_, e⟩) <;> cases e)
    exact ⟨hf.law, (hf.phase nofun).trans k.phase⟩
  simp only [State.refuseStale]
  split
  · exact ⟨(held hr).1, (held hr).2, nofun⟩
  · split
    · have hw := hr.keeps ((Keeps.refl false true _).writeTaken slot)
      split
      · obtain ⟨law, phase, stands⟩ := (hw.lineLaw h).writeRefusal slot .stale
        exact ⟨law, phase.trans hw.phase, fun e => hw.trans (stands e)⟩
      · exact ⟨(held hw).1, (held hw).2, nofun⟩
    · exact ⟨hr.lineLaw h, hr.phase, fun _ => hr⟩

end State.lineLaw

namespace Scanning

variable {s : State} {cls : Class}

/-- A ticket entered: a routine one begins with nothing in the Composer; a flash one locks the scanner. -/
theorem enterTicket (h : Scanning s (cls = .routine)) (slot : Nat) (b : List Byte) : (s.enterTicket slot cls b).lineLaw := by
  obtain ⟨⟨⟨idle, locked, ticket, -, drawn⟩, pool⟩, held, hi⟩ := h
  unfold State.enterTicket
  split
  · exact ⟨⟨idle, locked, ticket, fun e => absurd e held, drawn⟩, pool⟩
  next i _ =>
    cases cls with
    | routine =>
      have hs := hi rfl
      have preempt : s.composer.preempt = none := by
        by_contra hn
        exact absurd (hs.symm.trans (locked hn)) (by simp)
      have rested := (Composer.drawnLaw_of_rests (by rw [idle hs]; rfl)).1 drawn
      exact ⟨⟨nofun, fun e => absurd preempt e, nofun, fun e => absurd e held, rested⟩, pool⟩
    | flash =>
      dsimp only
      by_cases hc : s.composer.phase = .flashScan
      · have rested := (Composer.drawnLaw_of_rests (by rw [hc]; rfl)).1 drawn
        simp only [hc, beq_self_eq_true, if_true]
        exact ⟨⟨nofun, fun _ => rfl, nofun, fun e => absurd e held, rested⟩, pool⟩
      · have hc : (s.composer.phase == .flashScan) = false := by simpa using hc
        simp only [hc, Bool.false_eq_true, if_false]
        exact ⟨⟨nofun, fun _ => rfl, ticket, fun e => absurd e held, drawn⟩, pool⟩

theorem validateTaken (h : Scanning s (cls = .routine)) (slot : Nat) : Scanned s (s.validateTaken slot cls) := by
  have hr := LineStands.of_keeps ((Keeps.refl false true s).busRead (s.slotAddr slot 0) 0x18)
  have read := h.stands hr
  simp only [State.validateTaken]
  split
  · refine Scanned.of_stands (read.law.fault_of_holdTray ?_) hr
    rintro (⟨_, _, e⟩ | ⟨_, e⟩) <;> cases e
    exact read.idle rfl
  · split
    · exact ⟨read.enterTicket slot _, fun e => absurd rfl e, nofun⟩
    · obtain ⟨law, phase, stands⟩ := read.law.writeRefusal slot (by assumption)
      split
      next e => exact .of_refused h.law (hr.trans (stands e)).trigger
      next => exact ⟨law, fun _ => phase.trans hr.phase, nofun⟩

theorem takeTicket (h : Scanning s (cls = .routine)) (slot : Nat) (seq : Half) (again : Bool) :
    Scanned s (s.takeTicket slot cls seq again) := by
  have hr := LineStands.of_keeps ((Keeps.refl false true s).busRead (s.slotAddr slot 0) 6)
  have held : ∀ {t : State}, LineStands s t → Scanned s (.fault, t.holdTray (.take slot cls seq)) := by
    intro t k
    refine Scanned.of_stands ((k.lineLaw h.law).fault_of_holdTray ?_) k
    rintro (⟨_, _, e⟩ | ⟨_, e⟩) <;> cases e
    exact (h.stands k).idle rfl
  simp only [State.takeTicket]
  split
  · exact held hr
  · split
    · have hw := hr.keeps ((Keeps.refl false true _).writeTaken slot)
      split
      · exact ((h.stands (hw.advance cls)).validateTaken slot).of_stands (hw.advance cls)
      · exact held hw
    · exact .of_nothing h.law hr

theorem scanSlots {s : State} (routine : Bool) (slots : List Nat) (m : Option (Nat × Half))
    (h : Scanning s (routine = true ∨ m ≠ none)) : Scanned s (s.scanSlots routine slots m) := by
  induction slots generalizing m s with
  | nil =>
    cases m with
    | none => exact .of_nothing h.law (.refl s)
    | some x =>
      unfold State.scanSlots
      split
      · exact .of_nothing h.law (.refl s)
      · exact (h.weaken fun _ => .inr (by simp)).takeTicket _ _ _
  | cons slot rest ih =>
    have hr := (Keeps.refl false true s).busRead (s.slotAddr slot 0) 6
    unfold State.scanSlots
    split
    · exact ih _ h
    · split
      next e =>
        have k := LineStands.of_keeps (hr.of_eq e)
        exact Scanned.of_stands ((k.lineLaw h.law).fault_of_holdTray (by rintro (⟨_, _, e⟩ | ⟨_, e⟩) <;> cases e)) k
      next u e =>
        have k := LineStands.of_keeps (hr.of_eq e)
        have hu := h.stands k
        have goesOn : ∀ {v : State}, LineStands s v → Scanned s (v.scanSlots routine rest m) := fun kv =>
          (ih _ (h.stands kv)).of_stands kv
        split
        · exact goesOn k
        · dsimp only
          split
          · split
            · split
              · exact goesOn k
              · have taken := (hu.weaken (other := Class.flash = .routine) nofun).takeTicket slot (halfAt (by assumption) 4) false
                split
                next e =>
                  rw [e] at taken
                  exact goesOn (k.trans (taken.nothing rfl))
                next => exact taken.of_stands k
            · refine (ih _ (hu.weaken ?_)).of_stands k
              rintro (hroutine | hm)
              · exact .inl hroutine
              · split at hm
                next hroutine => exact .inl (by simp at hroutine; exact hroutine.1.1)
                next => exact .inr hm
          · split
            · obtain ⟨law, phase, stands⟩ := hu.law.refuseStale slot false
              split
              next e =>
                rw [e] at stands
                exact goesOn (k.trans (stands rfl))
              next e =>
                rw [e] at law phase
                exact ⟨law, fun _ => phase.trans k.phase, nofun⟩
            · exact goesOn k

end Scanning

/-! ### What follows a scan -/

namespace State.lineLaw

variable {s : State}

theorem rests_setPhase (h : s.lineLaw) (hp : s.composer.phase.rests = true) (hi : s.composer.phase ≠ .idle) {p : Phase}
    (hq : p.rests = true) (hn : p ≠ .idle) : (s.setPhase p).lineLaw :=
  h.rested_setPhase (.refl s) hp hi hq hn

theorem afterTake (h : s.lineLaw) (e : ScanEnd) : (s.afterTake e).lineLaw := by
  cases e with
  | fault => exact (LineStands.refl s).sequenceGoesOn.lineLaw h
  | nothing => exact h
  | entered => exact (LineStands.of_ite (LineStands.refl s).endScan (LineStands.refl s).expireHeldTimer).lineLaw h
  | refused =>
    unfold State.afterTake
    dsimp only
    split
    next hp =>
      have k := (LineStands.refl s).expireHeldTimer
      exact h.rested_setPhase k (by rw [hp]; rfl) (by simp [hp]) rfl (by simp)
    next => exact (LineStands.refl s).endScan.lineLaw h

theorem scanTray (h : s.lineLaw) (hh : s.scanner.held = none) (flashOnly : Bool) : Scanned s (s.scanTray flashOnly) := by
  refine Scanning.scanSlots _ _ _ ⟨h, ?_, ?_⟩
  · rintro (⟨_, _, e⟩ | ⟨_, e⟩) <;> simp [hh] at e
  · rintro (e | e)
    · simp at e
      exact e.2
    · exact absurd rfl e

theorem runScan (h : s.lineLaw) : s.runScan.lineLaw := by
  unfold State.runScan
  split
  next hs =>
    have scanned := h.scanTray (by simp at hs; exact hs.2) false
    split
    next e =>
      rw [e] at scanned
      exact (LineStands.refl _).sequenceGoesOn.lineLaw scanned.law
    next e =>
      rw [e] at scanned
      exact (LineStands.refl _).endScan.lineLaw scanned.law
  next => exact h

/-- At RESUME an operation held is made again, with nothing held any more. -/
theorem retryTray (h : s.lineLaw) : s.retryTray.lineLaw := by
  have cleared : (s.modScanner fun c => { c with held := none }).lineLaw := by
    obtain ⟨⟨idle, locked, ticket, -, drawn⟩, pool⟩ := h
    exact ⟨⟨idle, locked, ticket, (by rintro (⟨_, _, e⟩ | ⟨_, e⟩) <;> cases e), drawn⟩, pool⟩
  have scanning : ∀ {cls : Class}, (cls = .routine → s.scanner.state = .idle) →
      Scanning (s.modScanner fun c => { c with held := none }) (cls = .routine) := fun hi =>
    ⟨cleared, (by rintro (⟨_, _, e⟩ | ⟨_, e⟩) <;> cases e), hi⟩
  have held := h.1.2.2.2.1
  unfold State.retryTray
  dsimp only
  split
  · exact h
  · exact cleared
  · exact (cleared.refuseStale _ true).1
  next slot cls seq e =>
    have hi : cls = .routine → s.scanner.state = .idle := by
      rintro rfl
      exact held (.inl ⟨_, _, e⟩)
    exact ((scanning hi).takeTicket slot seq true).law.afterTake _
  next slot cls e =>
    have hi : cls = .routine → s.scanner.state = .idle := by
      rintro rfl
      exact held (.inr ⟨_, e⟩)
    exact ((scanning hi).validateTaken slot).law.afterTake _
  · exact (cleared.writeRefusal _ _).1
  next slot r _ _ =>
    obtain ⟨law, -, stands⟩ := cleared.writeRefusal slot r
    split
    next e =>
      rw [e] at law
      exact ((LineStands.refl _).trigger.lineLaw law).afterTake _
    next e =>
      rw [e] at law
      exact law

/-- The flash-only scan at the end of a flash. -/
theorem makeFlashScan (h : s.lineLaw) (hp : s.composer.phase = .flashScan) (hh : s.scanner.held = none) : s.makeFlashScan.lineLaw := by
  have readback : ∀ {t : State}, t.lineLaw → t.composer.phase = .flashScan → (t.expireHeldTimer.setPhase .readback).lineLaw := by
    intro t ht e
    have k := (LineStands.refl t).expireHeldTimer
    exact ht.rested_setPhase k (by rw [e]; rfl) (by simp [e]) rfl (by simp)
  have scanned := h.scanTray hh true
  unfold State.makeFlashScan
  split
  · exact readback h hp
  · split
    next e =>
      rw [e] at scanned
      exact readback scanned.law ((scanned.phase nofun).trans hp)
    next e =>
      rw [e] at scanned
      exact readback scanned.law ((scanned.phase nofun).trans hp)
    next e =>
      rw [e] at scanned
      exact (LineStands.refl _).expireHeldTimer.lineLaw scanned.law
    next e =>
      rw [e] at scanned
      exact scanned.law

/-! ### Selections -/

end State.lineLaw

/-- A selection that loads is made for the purpose it was begun for. -/
theorem State.selectFont_purpose {s t : State} {f : Nat} {o : Option Nat} {p : Purpose} {sel : Selection}
    (e : s.selectFont f o p = (.loading sel, t)) : sel.purpose = p := by
  have load : ∀ (u : State) (r : Byte) (x : Half) (ptr : Nat) {sel : Selection} {t : State},
      u.beginLoad f r x ptr o p = (.loading sel, t) → sel.purpose = p := by
    intro u r x ptr sel t e
    simp only [State.beginLoad] at e
    split at e <;> cases e
    rfl
  simp only [State.selectFont] at e
  split at e
  · cases e
  · split at e
    · split at e <;> cases e
    · split at e
      · split at e
        · cases e
        · exact load _ _ _ _ e
      · exact load _ _ _ _ e

namespace State.lineLaw

variable {s : State}

/-- The Composer stops its ticket, if it holds one. -/
theorem stopTicket (h : s.lineLaw) (hn : s.composer.phase ≠ .idle) (r : Reason) (m : Option Nat) : (s.stopTicket r m).lineLaw := by
  by_cases ht : s.Ticketed
  · exact (h.composing hn).stopTicket ht _ _
  · unfold State.stopTicket
    split
    · exact h
    next e => exact absurd (State.ticketEntry_ne_none.1 (by simp [e])) ht

/-- A selection ends, with the items drawn those of the line being built, and none of them for a restore. -/
theorem endSelection (h : s.lineLaw) (hn : s.composer.phase ≠ .idle) (hd : s.composer.drawn = itemsHeld s.composer.line.codes)
    {q : Purpose} (h0 : q = .restore → s.composer.drawn = 0) (f : Nat) (r : Option Reason) : (s.endSelection q f r).lineLaw := by
  have hc := h.composing hn
  cases q with
  | code =>
    cases r with
    | none => exact (hc.modComposer (fun c => { c with current := { c.current with font := f } }) rfl rfl).setPhase_builds rfl hd
    | some x => exact h.stopTicket hn _ _
  | takeUp =>
    cases r with
    | none => exact hc.setPhase_builds rfl hd
    | some x => exact h.stopTicket hn _ _
  | restore =>
    have restored : ∀ x, (s.setPhase (.validWrite x)).lineLaw := fun x => hc.setPhase_rests rfl (by simp) (h0 rfl) (hd ▸ h0 rfl)
    cases r <;> exact restored _

theorem select (h : s.lineLaw) (hn : s.composer.phase ≠ .idle) (hd : s.composer.drawn = itemsHeld s.composer.line.codes) {q : Purpose}
    (h0 : q = .restore → s.composer.drawn = 0) (f : Nat) (o : Option Nat) : (s.select f o q).lineLaw := by
  have hk := (Keeps.refl false true s).selectFont f o q
  have ended : ∀ {t : State} (r : Option Reason), LineStands s t → (t.endSelection q f r).lineLaw := fun r k =>
    (k.lineLaw h).endSelection (k.phase ▸ hn) (by rw [k.drawn, k.codes]; exact hd) (fun e => k.drawn.trans (h0 e)) f r
  unfold State.select
  split
  next e => exact ended _ (.of_keeps (hk.of_eq e))
  next sel u e =>
    have k := LineStands.of_keeps (hk.of_eq e)
    refine (((h.composing hn).stands k).setPhase _).law nofun ⟨?_, fun ep => ?_⟩
    · exact k.drawn.trans (hd.trans (by rw [← k.codes]; rfl))
    · exact k.drawn.trans (h0 (by rw [← State.selectFont_purpose e, ep]))
  next e => exact ended _ (.of_keeps (hk.of_eq e))

/-- A state taken up into an empty line, with nothing drawn, and its font selected. -/
theorem select_takenUp (h : s.lineLaw) (hr : s.composer.phase.rests = true) (hn : s.composer.phase ≠ .idle) {f : Composer → Composer}
    (hp : (f s.composer).phase = s.composer.phase) (hq : (f s.composer).preempt = s.composer.preempt)
    (hd : (f s.composer).drawn = s.composer.drawn) (hc : (f s.composer).line.codes = []) (q : Purpose) (x : Nat) (o : Option Nat) :
    ((s.modComposer f).select x o q).lineLaw := by
  have ⟨h0, _⟩ := h.rested hr
  have empty : (s.modComposer f).composer.drawn = 0 := hd.trans h0
  have codes : itemsHeld (s.modComposer f).composer.line.codes = 0 := by simp [hc]
  have hn' : (s.modComposer f).composer.phase ≠ .idle := fun e => hn (hp.symm.trans e)
  have law := ((h.composing hn).modComposer f hq hd).law_of_rests (by rw [State.modComposer_composer, hp]; exact hr)
    (fun e => absurd e hn') empty codes
  exact law.select hn' (empty.trans codes.symm) (fun _ => empty) _ _

/-! ### A ticket begins -/

theorem beginTicket (h : s.lineLaw) (hp : s.composer.phase = .begin) : s.beginTicket.lineLaw := by
  have hc := h.composing (by simp [hp])
  have ⟨h0, hi⟩ := h.rested (by rw [hp]; rfl)
  unfold State.beginTicket
  split
  · exact (hc.modComposer _ rfl rfl).law_of_rests rfl (fun _ => rfl) h0 hi
  next i e _ =>
    split
    · exact hc.leaveTicket _ h0 hi
    · split
      · have cut := (appendCut_stands s i (e.record i 0 (.cut (match e.cls with | .routine => .routine | .flash => .flash))) rfl).keeps
          ((Keeps.refl false true _).modEntry i fun x => { x with finished := true })
        exact (hc.stands cut).leaveTicket _ (cut.drawn.trans h0) (cut.codes ▸ hi)
      · unfold State.beginTake
        exact h.select_takenUp (by rw [hp]; rfl) (by simp [hp]) rfl rfl rfl rfl _ _ _

/-! ### The end of a chain of flashes -/

theorem readContext (h : s.lineLaw) (hp : s.composer.phase = .readback) : s.readContext.lineLaw := by
  have k := (Keeps.refl false true s).busRead (s.areaAddr s.desk.areas.context 0) 64
  have stands := LineStands.of_keeps k
  unfold State.readContext
  dsimp only
  split
  · exact h.keeps (k.fault _)
  · exact (h.keeps k).select_takenUp (by rw [stands.phase, hp]; rfl) (by simp [stands.phase, hp]) rfl rfl rfl rfl _ _ _

theorem endChain (h : s.lineLaw) (hq : s.composer.preempt = none) {r : Option Reason} (hp : s.composer.phase = .validWrite r)
    (failed : Option Reason) : (s.endChain failed).lineLaw := by
  have hc := h.composing (by simp [hp])
  have ⟨h0, hi⟩ := h.rested (by rw [hp]; rfl)
  have watching : Composing (s.modScanner fun c => { c with state := .watch }) :=
    { hc with
      busy := by simp
      locked := fun e => absurd hq e }
  unfold State.endChain
  split
  next i e _ =>
    dsimp only
    split
    · refine (LineStands.refl _).testPending.lineLaw ?_
      have reads := (watching.modComposer (fun c =>
        { c with
          ticket := some i
          suspended := none
          snapshot := c.current
          lineStart := c.resumeOffset
          readPosition := c.resumeOffset
          phase := .reading }) rfl rfl).law_of_builds rfl (h0.trans hi.symm)
      split
      · exact reads.stopTicket (by simp) _ _
      · exact reads
    · refine (LineStands.refl _).testPending.lineLaw ?_
      exact (watching.modComposer _ rfl rfl).law_of_rests rfl nofun h0 rfl
  next =>
    refine (LineStands.refl _).trigger.testPending.lineLaw ?_
    exact ⟨⟨fun _ => rfl, fun e => absurd hq e, fun _ => rfl, fun _ => rfl, ⟨h0, rfl⟩⟩, hc.pool⟩

theorem writeValid (h : s.lineLaw) (hq : s.composer.preempt = none) {r : Option Reason} (hp : s.composer.phase = .validWrite r)
    (failed : Option Reason) : (s.writeValid failed).lineLaw := by
  have k := (Keeps.refl false true s).busWrite (s.areaAddr s.desk.areas.context 0) [0]
  have stands := LineStands.of_keeps k
  unfold State.writeValid
  dsimp only
  split
  · exact (h.keeps k).endChain (stands.preempt.trans hq) (stands.phase.trans hp) _
  · exact h.keeps (k.fault _)

/-! ### The run of the Composer -/

/-- A phase that is ready, with no flash waiting to preempt, keeps the laws. -/
theorem composerPhase (h : s.lineLaw) (hq : s.composer.preempt = none) (hr : s.phaseReady = true) : s.composerPhase.lineLaw := by
  unfold State.phaseReady at hr
  unfold State.composerPhase
  split
  · exact h
  · exact h
  · exact h
  · exact h
  next e => exact h.beginTicket e
  next e => exact h.testTrigger (by rw [e]; rfl) _
  next e => exact h.choose (by rw [e]; rfl) _ _
  next e =>
    rw [e] at hr
    exact h.hyphenate (by rw [e]; rfl) (by simpa using hr) _
  next e =>
    rw [e] at hr
    exact h.placeCharacter e hr
  next e => exact h.appendGroup e
  next e => exact h.appendLead (by rw [e]; rfl) (by simp [e]) _ _
  next e => exact h.writeContext e
  next e => exact h.makeOpenCut e
  next e => exact h.makeCloseCut e
  next e =>
    rw [e] at hr
    exact h.makeFlashScan e (by simpa using hr)
  next e => exact h.readContext e
  next e => exact h.writeValid hq e _

theorem composerLoop (h : s.lineLaw) (n : Nat) : (s.composerLoop n).lineLaw := by
  induction n generalizing s with
  | zero => exact h
  | succ n ih =>
    unfold State.composerLoop
    split
    · exact h
    · split
      next i e => exact ih (h.preemptFor i e)
      next e =>
        split
        next hr => exact ih (h.composerPhase e hr)
        next => exact h

theorem composerRun (h : s.lineLaw) : s.composerRun.lineLaw := (h.composerLoop _).keeps (Keeps.refl false true _).settle

end State.lineLaw

end Sys2Proof.Machine
end

section
/-! The law of the pool and of the Composer, over the commands. -/

namespace Sys2Proof.Machine

namespace State.lineLaw

variable {s : State}

/-! ### Take codes (spec 03) -/

section Codes

variable (h : s.lineLaw) (hp : s.composer.phase = .reading) (o n : Nat) (ops : List Byte)
include h hp

theorem setPhase_of_reading {p : Phase} (hq : p.builds = true) : (s.setPhase p).lineLaw := h.setPhase_builds (by rw [hp]; rfl) hq

theorem pushCode_of_reading {c : LineCode} (hc : c.glyph? = none) : (s.pushCode c).lineLaw := h.pushCode (by rw [hp]; rfl) hc

theorem pushElement_of_reading {e : Element} (he : e.isGlyph = false) (c : Half) : (s.pushElement o e c).lineLaw := by
  refine h.pushCode_of_reading hp ?_
  cases e with
  | glyph => cases he
  | _ => rfl

theorem command_of_reading (c : Half) (f : CompState → CompState) : (s.command o c f).lineLaw := by
  have pushed := h.pushCode_of_reading hp (c := { s.plainCode o with conditions := c }) rfl
  exact ((LineStands.refl _).modComposer _ rfl rfl rfl rfl rfl).lineLaw pushed

theorem filmCode (l : Lead) : (s.filmCode l o).lineLaw := by
  have hd := h.built (by rw [hp]; rfl)
  unfold State.filmCode
  split
  next he =>
    have h0 := itemsHeld_of_isEmpty he
    exact (h.composing (by simp [hp])).setPhase_rests rfl (by simp) (hd.trans h0) h0
  next => split <;> exact h.pushCode_of_reading hp rfl

theorem actCharacter : (actCharacter o n ops s).lineLaw := by
  unfold Machine.actCharacter
  dsimp only
  split
  · exact h.pushElement_of_reading hp _ rfl _
  · exact ((h.composing (by simp [hp])).setPhase _).law nofun ⟨h.built (by rw [hp]; rfl), by simp [LineCode.glyph?, State.characterCode]⟩

theorem actWordSpace : (actWordSpace o n ops s).lineLaw := by
  unfold Machine.actWordSpace
  dsimp only
  split
  · exact h
  · exact h.setPhase_of_reading hp rfl

theorem actReverse : (actReverse o n ops s).lineLaw := by
  unfold Machine.actReverse
  split
  · exact h
  · exact h.filmCode hp o _

theorem actAdvance : (actAdvance o n ops s).lineLaw := by
  unfold Machine.actAdvance
  split
  · exact h
  · exact h.filmCode hp o _

theorem actFont : (actFont o n ops s).lineLaw := by
  unfold Machine.actFont
  dsimp only
  split
  · exact h.command_of_reading hp o _ _
  · have law := h.command_of_reading hp o 0 id
    have reads : (s.command o 0 id).composer.phase = .reading := hp
    exact law.select (q := .code) (fun e => nomatch reads.symm.trans e) (law.built (by rw [reads]; rfl)) (fun e => nomatch e) _ _

theorem actTabStopSet : (actTabStopSet o n ops s).lineLaw := by
  unfold Machine.actTabStopSet
  dsimp only
  split <;> exact h.command_of_reading hp o _ _

theorem actionOf (b : Nat) : (actionOf b o n ops s).lineLaw := by
  unfold Machine.actionOf
  split
  · exact h.actCharacter hp o n ops
  · split
    · exact h.actWordSpace hp o n ops
    · exact h.pushElement_of_reading hp o rfl _
    · exact h.pushElement_of_reading hp o rfl _
    · exact h.pushElement_of_reading hp o rfl _
    · exact h.pushCode_of_reading hp rfl
    · exact h.setPhase_of_reading hp rfl
    · exact h.setPhase_of_reading hp rfl
    · exact h.setPhase_of_reading hp rfl
    · exact h.setPhase_of_reading hp rfl
    · exact h.setPhase_of_reading hp rfl
    · exact h.filmCode hp o _
    · exact h.filmCode hp o _
    · exact h.command_of_reading hp o _ _
    · exact h.command_of_reading hp o _ _
    · exact h
    · exact h.setPhase_of_reading hp rfl
    · exact h.actFont hp o n ops
    · exact h.command_of_reading hp o _ _
    · exact h.command_of_reading hp o _ _
    · exact h.command_of_reading hp o _ _
    · exact h.actReverse hp o n ops
    · exact h.command_of_reading hp o _ _
    · exact h.command_of_reading hp o _ _
    · exact h.command_of_reading hp o _ _
    · exact h.actTabStopSet hp o n ops
    · exact h.pushElement_of_reading hp o rfl _
    · exact h.pushElement_of_reading hp o rfl _
    · exact h.pushElement_of_reading hp o rfl _
    · exact h.command_of_reading hp o _ _
    · exact h.actAdvance hp o n ops
    · exact h.pushCode_of_reading hp rfl

end Codes

/-- A code read whole acts on a Composer that is between codes. -/
theorem readCode (h : s.lineLaw) (hp : s.composer.phase = .reading) (e : Entry) (act : CodeAction)
    (ha : ∀ o n ops u, u.lineLaw → u.composer.phase = .reading → (act o n ops u).lineLaw) : (s.readCode e act).lineLaw := by
  have h1 := (Keeps.refl false true s).busRead (s.readAddr e) 1
  have failed : ∀ {t : State}, LineStands s t → ((t.stopTicket .busError none).composerRun).lineLaw := fun k =>
    ((k.lineLaw h).stopTicket (by simp [k.phase, hp]) _ _).composerRun
  unfold State.readCode
  dsimp only
  split
  next e1 => exact failed (.of_keeps (h1.of_eq e1))
  next e1 =>
    have h2 := (h1.of_eq e1).busRead
    split
    next e2 => exact failed (.of_keeps ((h2 _ _).of_eq e2))
    next e2 =>
      have k := (LineStands.of_keeps ((h2 _ _).of_eq e2)).modComposer
        (fun c => { c with readPosition := s.composer.readPosition + 1 + operandCount (s.nextByte e) }) rfl rfl rfl rfl rfl
      exact (ha _ _ _ _ (k.lineLaw h) (k.phase.trans hp)).composerRun

theorem reading_of_readingTicket {e : Entry} (he : s.readingTicket = some e) : s.composer.phase = .reading := by
  unfold State.readingTicket at he
  split at he
  next hc => exact hc.2.1
  next => cases he

theorem takeCode (h : s.lineLaw) (row : Nat → Bool) (act : CodeAction)
    (ha : ∀ o n ops u, u.lineLaw → u.composer.phase = .reading → (act o n ops u).lineLaw) : (s.takeCode row act).lineLaw := by
  unfold State.takeCode
  split
  · exact h
  next e he =>
    split
    · exact h.readCode (reading_of_readingTicket he) _ _ ha
    · exact h

theorem overrun (h : s.lineLaw) (hp : s.composer.phase = .reading) : s.overrun.lineLaw := (h.stopTicket (by simp [hp]) _ _).composerRun

theorem nextCode (h : s.lineLaw) : s.nextCode.lineLaw := by
  unfold State.nextCode
  split
  · exact h
  next e he =>
    have hp := reading_of_readingTicket he
    split
    · have hr := (Keeps.refl false true s).busRead (s.readAddr e) (e.takeLength - s.composer.readPosition)
      split
      next e1 =>
        have k := LineStands.of_keeps (hr.of_eq e1)
        exact ((k.lineLaw h).stopTicket (by simp [k.phase, hp]) _ _).composerRun
      next e1 =>
        have k := LineStands.of_keeps (hr.of_eq e1)
        exact (k.lineLaw h).overrun (k.phase.trans hp)
    · exact h.readCode hp _ _ fun o n ops u hu hup => hu.actionOf hup o n ops _

/-! ### Loads, lookups and the Composer's waits -/

theorem cancelComposed (h : s.lineLaw) (i : Fin 8) (e : Entry) (hn : s.composer.phase ≠ .idle) : (s.cancelComposed i e).lineLaw := by
  have discarded := (h.composing hn).discardLine.keeps ((Keeps.refl false true _).modEntry i fun x =>
    { x with stopOffset := if s.composer.phase != .begin then s.composer.lineStart else 0, finished := true })
  have carried := LineStands.of_ite (b := ((s.composer.phase != .begin) && e.kind == .take) = true)
    ((LineStands.refl (s.discardLine.modEntry i fun x =>
      { x with stopOffset := if s.composer.phase != .begin then s.composer.lineStart else 0, finished := true })).carry e.cls) (.refl _)
  exact (discarded.stands carried).leaveTicket _ (carried.drawn.trans rfl) (by rw [carried.codes]; rfl)

theorem cancelResumed (h : s.lineLaw) (i : Fin 8) : (s.cancelResumed i).lineLaw := ((LineStands.refl s).cancelResumed i).lineLaw h

theorem endCommand (h : s.lineLaw) (r : CmdResult) : (s.endCommand r).lineLaw := ((LineStands.refl s).endCommand r).lineLaw h

theorem loadCompletes (h : s.lineLaw) : s.loadCompletes.lineLaw := by
  unfold State.loadCompletes
  split
  next sel hp =>
    have k := LineStands.of_keeps ((Keeps.refl false true s).completeLoad sel)
    have hl := k.lineLaw h
    have hpl := k.phase.trans hp
    have ⟨hd, hr⟩ : (s.completeLoad sel).2.composer.drawn = itemsHeld (s.completeLoad sel).2.composer.line.codes
        ∧ (sel.purpose = .restore → (s.completeLoad sel).2.composer.drawn = 0) := by
      have := hl.drawn
      rwa [Composer.drawnLaw, hpl] at this
    have hn : (s.completeLoad sel).2.composer.phase ≠ .idle := by simp [hpl]
    dsimp only
    split
    · refine ((cancelComposed ?_ _ _ ?_).endCommand _).composerRun
      · unfold State.selectionMade
        split
        · exact ((LineStands.refl _).modComposer _ rfl rfl rfl rfl rfl).lineLaw hl
        · exact hl
      · unfold State.selectionMade
        split <;> exact hn
    next i _ _ =>
      have kr := (LineStands.refl (s.completeLoad sel).2).cancelResumed i
      refine (((kr.lineLaw hl).endSelection (by rw [kr.phase]; exact hn) ?_ ?_ _ _).endCommand _).composerRun
      · exact kr.drawn.trans (hd.trans (by rw [kr.codes]))
      · exact fun e => kr.drawn.trans (hr e)
    · split
      · exact ((hl.composing hn).setPhase_builds rfl hd).composerRun
      · exact (hl.endSelection hn hd hr _ _).composerRun
  next => exact h

theorem lookupEnds (h : s.lineLaw) {t : Trigger} (hp : s.composer.phase = .searching t) (x : Trigger) (o : Lookup) :
    (s.lookupEnds x o).lineLaw := by
  cases o with
  | stop r => exact h.stopTicket (by simp [hp]) _ _
  | found => exact h.setPhase_builds (by rw [hp]; rfl) rfl
  | notFound => exact h.setPhase_builds (by rw [hp]; rfl) rfl

theorem lookupCompletes (h : s.lineLaw) : s.lookupCompletes.lineLaw := by
  unfold State.lookupCompletes
  split
  next x hp =>
    have k := LineStands.of_keeps ((Keeps.refl false true s).lookupWord s.hyphenationChars)
    have hl := k.lineLaw h
    have hpl := k.phase.trans hp
    dsimp only
    split
    · exact ((hl.cancelComposed _ _ (by simp [hpl])).endCommand _).composerRun
    · split
      · exact (hl.setPhase_builds (by rw [hpl]; rfl) rfl).composerRun
      · exact (hl.lookupEnds hpl _ _).composerRun
  next => exact h

theorem scanStep (h : s.lineLaw) : s.scanStep.lineLaw := by
  unfold State.scanStep
  split
  · exact h.runScan.composerRun
  · exact h

theorem drawStep (h : s.lineLaw) : s.drawStep.lineLaw := by
  unfold State.drawStep
  split
  · exact h.composerRun
  · exact h

theorem appendStep (h : s.lineLaw) : s.appendStep.lineLaw := by
  unfold State.appendStep
  split
  · exact h.composerRun
  · exact h

theorem writeResult (h : s.lineLaw) : s.writeResult.lineLaw := by
  have ended : ∀ {t : State} (i : Fin 8), LineStands s t → LineStands s (t.endWaitingCancel i) := by
    intro t i k
    unfold State.endWaitingCancel
    exact .of_ite (k.endCommand _) k
  unfold State.writeResult
  split
  next i f _ =>
    split
    · exact h.keeps ((Keeps.refl false true s).setResultWrite _)
    next e _ =>
      have k := (Keeps.refl false true s).writeResults e.slot (e.results f) f.code
      dsimp only
      split
      · have written := LineStands.of_keeps (((k.modFlight fun v => v.set i.val none).setResultWrite none).event Event.ticket)
        exact ((ended i (.of_ite written.trigger.testPending written)).keeps (Keeps.refl false true _).settle).lineLaw h
      · have held := LineStands.of_keeps (k.setResultWrite (some ⟨i, f, true⟩))
        exact ((ended i held).keeps ((Keeps.refl false true _).fault _)).lineLaw h
  next => exact h

theorem rescanExpires (h : s.lineLaw) : s.rescanExpires.lineLaw := by
  unfold State.rescanExpires
  split
  · exact h
  · split
    · exact ((LineStands.refl s).modScanner _ rfl rfl).lineLaw h
    · exact ((LineStands.refl s).modScanner _ rfl rfl).trigger.lineLaw h

theorem writeNudge (h : s.lineLaw) (v : Half) : (s.writeNudge v).lineLaw := by
  unfold State.writeNudge
  split
  · exact h
  · exact (LineStands.refl s).trigger.lineLaw h

/-! ### COMMAND writes -/

theorem commandWrite (h : s.lineLaw) (taken : Bool) (run : State → State) (hr : (run s).lineLaw) : (s.commandWrite taken run).lineLaw := by
  unfold State.commandWrite
  split
  · exact h.keeps ((Keeps.refl false true s).refuse _)
  · split
    · exact hr
    · exact h.keeps ((Keeps.refl false true s).refuse _)

theorem startHoming_keeps (s : State) : Keeps false true s s.startHoming := (Keeps.refl false true s).startHoming

theorem startWrite (h : s.lineLaw) : s.startWrite.lineLaw := by
  have refused := (Keeps.refl false true s).refuse
  unfold State.startWrite
  split
  · exact h.keeps ((refused _).event _)
  · split
    · have hr := ((Keeps.refl false true s).modDesk (fun d => { d with busy := some .start }) rfl rfl rfl id nofun).readDesk
      unfold State.startCommand
      split
      next e => exact h.keeps ((hr.of_eq e).refuseStart _)
      next e => exact h.keeps ((hr.of_eq e).refuseStart _)
      next x _ e =>
        have copied := LineStands.of_keeps ((hr.of_eq e).takeCopies x)
        exact ((copied.startBlocks x).keeps (startHoming_keeps _)).lineLaw h
    · exact h.keeps ((refused _).event _)

theorem resumeStart (h : s.lineLaw) (p : StartStep) : (s.resumeStart p).lineLaw := by
  have hb := (Keeps.refl false true s).modDesk (fun d => { d with busy := some .resume }) rfl rfl rfl id nofun
  cases p with
  | homing => exact h.keeps hb.startHoming
  | clearingCut => exact h.keeps hb.startCut
  | notices =>
    have k := LineStands.of_keeps hb.retryNotices
    exact (LineStands.of_ite k.startEnds k).lineLaw h

theorem releaseBlocks (h : s.lineLaw) : s.releaseBlocks.lineLaw := by
  have k := LineStands.of_keeps (Keeps.refl false true s).exposureResumes.proofResumes.retryNotices
  have retried : ∀ {t : State}, LineStands s t → LineStands s t.retryCancelWrite := by
    intro t k
    have hw := (Keeps.refl false true t).busWrite (t.areaAddr t.desk.areas.context 1) [0xFF]
    unfold State.retryCancelWrite
    split
    · dsimp only
      split
      · exact (k.keeps hw).modComposer _ rfl rfl rfl rfl rfl
      · exact k.keeps (hw.fault _)
    · exact k
  exact (LineStands.refl _).trigger.testPending.lineLaw ((retried (k.keeps ((Keeps.refl false true _).setResultWrite _))).lineLaw h).retryTray.composerRun

theorem resumeWrite (h : s.lineLaw) : s.resumeWrite.lineLaw := by
  refine h.commandWrite _ _ ?_
  unfold State.resumeCommand
  split
  · exact h.resumeStart _
  · have running := h.keeps ((Keeps.refl false true s).modDesk (fun d => { d with controller := .running, cause := .none }) rfl rfl rfl
      (by simp) nofun)
    exact (running.releaseBlocks.keeps (Keeps.refl false true _).settle).endCommand _

theorem reloadWrite (h : s.lineLaw) : s.reloadWrite.lineLaw := by
  refine h.commandWrite _ _ ?_
  have hr := (Keeps.refl false true s).readDesk
  unfold State.reloadCommand
  dsimp only
  split
  next e => exact (h.keeps (hr.of_eq e)).endCommand _
  next e => exact (h.keeps (hr.of_eq e)).endCommand _
  next x _ e =>
    have k := LineStands.of_keeps (((hr.of_eq e).takeCopies x).reloadProof s.proofsOn)
    refine ((k.modScanner _ ?_ ?_).endCommand _).lineLaw h
    · split
      · rfl
      · split <;> rfl
    · split
      · rfl
      · split <;> rfl

theorem sequenceWrite (h : s.lineLaw) : s.sequenceWrite.lineLaw := by
  refine h.commandWrite _ _ ?_
  have hr := (Keeps.refl false true s).busRead (s.deskAddr 0x0C) 4
  unfold State.sequenceCommand
  split
  next e =>
    have k := hr.of_eq e
    split
    · exact h.keeps (k.modDesk _ rfl rfl rfl id nofun)
    · exact ((LineStands.of_keeps k).finishSequence _ _).lineLaw h
  next e =>
    have k := hr.of_eq e
    refine (h.keeps (Keeps.of_ite (k.modDesk _ rfl rfl rfl id nofun) (k.fault _))).endCommand _

theorem cancelComposition (h : s.lineLaw) (i : Fin 8) (e : Entry) : (s.cancelComposition i e).lineLaw := by
  have waits : (s.cancelWaits i).lineLaw := h.keeps ((Keeps.refl false true s).modDesk _ rfl rfl rfl id nofun)
  have unbegun : (s.cancelUnbegun i).lineLaw := (h.keeps ((Keeps.refl false true s).modEntry _ _)).endCommand _
  have suspended : (s.cancelSuspended i).lineLaw := by
    have hw := (Keeps.refl false true (s.cancelResumed i)).busWrite
      ((s.cancelResumed i).areaAddr (s.cancelResumed i).desk.areas.context 1) [0xFF]
    unfold State.cancelSuspended
    dsimp only
    split
    · exact (h.cancelResumed i).endCommand _
    · refine State.lineLaw.endCommand ?_ _
      split
      · exact (h.cancelResumed i).keeps hw
      · have k := (LineStands.of_keeps hw).modComposer (fun c => { c with cancelWriteHeld := true }) rfl rfl rfl rfl rfl
        exact (k.keeps ((Keeps.refl false true _).fault _)).lineLaw (h.cancelResumed i)
  unfold State.cancelComposition
  split
  next ht =>
    split
    · exact h.endCommand _
    · split
      · exact waits
      · split
        · exact unbegun
        · refine ((h.cancelComposed i e fun hi => ?_).composerRun).endCommand _
          have := h.1.2.2.1 hi
          simp [ht] at this
  next =>
    split
    · exact unbegun
    · split
      · split
        · split
          · exact waits
          · exact (h.cancelResumed i).endCommand _
        · exact suspended
      · exact h.endCommand _

theorem cancelWrite (h : s.lineLaw) (operand : Byte) : (s.cancelWrite operand).lineLaw := by
  refine h.commandWrite _ _ ?_
  have refused := h.keeps ((Keeps.refl false true s).refuse .refusedOperand)
  unfold State.cancelCommand
  split
  · exact refused
  next i _ =>
    split
    · exact refused
    next e _ =>
      have marked := ((LineStands.of_keeps ((Keeps.refl false true s).modEntry i fun e => { e with cancelMark := true })).withdraw i).lineLaw h
      have composition := (marked.cancelComposition i e).keeps (Keeps.refl false true _).settle
      dsimp only
      split
      · split
        · split
          · exact marked.endCommand _
          · exact marked.keeps ((Keeps.refl false true _).modDesk _ rfl rfl rfl id nofun)
        · exact composition
      · exact composition

theorem writeNotice (h : s.lineLaw) (o : Owner) : (s.writeNotice o).lineLaw := by
  unfold State.writeNotice
  dsimp only
  split
  next n _ _ =>
    have hw := (Keeps.refl false true s).busWrite (s.noticeAddr o) n.bytes
    split
    · have k := LineStands.of_keeps (((hw.modNotices fun x => x.modWriter o fun w => { w with written := some n, inFlight := none }).event
        Event.notice).renotice o)
      exact (LineStands.of_ite k.startEnds k).lineLaw h
    · have k := hw.modNotices fun x => x.modWriter o fun w => { w with held := true }
      exact h.keeps (.of_ite (k.startFails _) (k.fault _))
  next => exact h

/-! ### The rule -/

theorem stepOf (h : s.lineLaw) (b : BusStep) : (State.stepOf b s).lineLaw := by
  induction b with
  | start => exact h.startWrite
  | reload => exact h.reloadWrite
  | sequence => exact h.sequenceWrite
  | resume => exact h.resumeWrite
  | cancel operand => exact h.cancelWrite operand
  | scan => exact h.scanStep
  | resultWrite => exact h.writeResult
  | takeCode => exact h.nextCode
  | widthTableLoad => exact h.loadCompletes
  | dictionaryLookup => exact h.lookupCompletes
  | itemDraw => exact h.drawStep
  | groupAppend => exact h.appendStep
  | noticeWrite o => exact h.writeNotice o
  | further _ _ _ ih => exact ih

theorem failStep (h : s.lineLaw) (b : BusStep) (acked : Nat) (landed : Bool) : (s.failStep b acked landed).lineLaw := by
  unfold State.failStep
  dsimp only
  split
  · exact stepOf (s := s.setBus (some ⟨acked, landed, BusStep.later b⟩)) h b
  · exact h

/-- A part with nothing in it. -/
theorem of_empty (hs : s.scanner.state = .idle) (hk : s.composer = Composer.initial) (hl : s.store = LineStore.initial) : s.lineLaw := by
  refine ⟨⟨fun _ => by rw [hk]; rfl, fun e => absurd (by rw [hk]; rfl) e, fun _ => by rw [hk]; rfl, fun _ => hs, ?_⟩, ?_⟩
  · rw [hk]
    exact ⟨rfl, rfl⟩
  · rw [State.poolLaw_iff, hk, hl]
    rfl

theorem resetWrite (h : s.lineLaw) : s.resetWrite.lineLaw := by
  obtain e | e := s.resetWrite_cases
  · exact e ▸ h.keeps ((Keeps.refl true true s).refuse _)
  · exact e ▸ of_empty rfl rfl rfl

/-- Every command keeps the laws of the pool and of the Composer. -/
theorem exec {t : State} (c : Instr) (h : s.lineLaw) (e : Machine.exec c s = .next t) : t.lineLaw := by
  have away : c.leavesComposer = true → t.lineLaw := fun hc => by
    obtain ⟨u, hu, k⟩ := Keeps.exec_from c e (by rintro o rfl; cases hc) (by rintro rfl; cases hc)
    rw [hc] at k
    have own : LineStands s u := by cases hu <;> exact ⟨rfl, rfl, rfl, rfl, rfl, rfl, rfl, rfl⟩
    exact (own.lineLaw h).keeps k
  cases c with
  | start => cases e; exact h.startWrite
  | resume => cases e; exact h.resumeWrite
  | reload => cases e; exact h.reloadWrite
  | sequence => cases e; exact h.sequenceWrite
  | cancel o => cases e; exact h.cancelWrite o
  | reset => cases e; exact h.resetWrite
  | powerOn => cases e; exact of_empty rfl rfl rfl
  | nudge v => cases e; exact h.writeNudge v
  | busError b n l => cases e; exact h.failStep b n l
  | noticeWriteDone o => cases e; exact h.writeNotice o
  | rescanTimerExpiry => cases e; exact h.rescanExpires
  | scan => cases e; exact h.scanStep
  | resultWrite => cases e; exact h.writeResult
  | character => cases e; exact h.takeCode _ _ fun o n ops _ hu hp => hu.actCharacter hp o n ops
  | wordSpace => cases e; exact h.takeCode _ _ fun o n ops _ hu hp => hu.actWordSpace hp o n ops
  | fixedSpace => cases e; exact h.takeCode _ _ fun o _ _ _ hu hp => hu.pushElement_of_reading hp o rfl _
  | discretionaryHyphen => cases e; exact h.takeCode _ _ fun _ _ _ _ hu hp => hu.pushCode_of_reading hp rfl
  | endLine => cases e; exact h.takeCode _ _ fun _ _ _ _ hu hp => hu.setPhase_of_reading hp rfl
  | endParagraph => cases e; exact h.takeCode _ _ fun _ _ _ _ hu hp => hu.setPhase_of_reading hp rfl
  | endOfTake => cases e; exact h.takeCode _ _ fun _ _ _ _ hu hp => hu.setPhase_of_reading hp rfl
  | takeOverrun =>
    change execTakeOverrun s = _ at e
    unfold execTakeOverrun at e
    split at e
    · cases e
      exact h
    next ht =>
      split at e <;> cases e
      · exact h.overrun (reading_of_readingTicket ht)
      · exact h
  | markColumnTop => cases e; exact h.takeCode _ _ fun o _ _ _ hu hp => hu.filmCode hp o _
  | returnToMark => cases e; exact h.takeCode _ _ fun o _ _ _ hu hp => hu.filmCode hp o _
  | reverseLead => cases e; exact h.takeCode _ _ fun o n ops _ hu hp => hu.actReverse hp o n ops
  | leadNow => cases e; exact h.takeCode _ _ fun o n ops _ hu hp => hu.actAdvance hp o n ops
  | hyphenationOff | hyphenationOn | pointSize | setSize | leading | measure | indentLeft | indentRight | letterspaceLimit =>
    cases e
    exact h.takeCode _ _ fun o _ _ _ hu hp => hu.command_of_reading hp o _ _
  | fill => cases e; exact h.takeCode _ _ fun _ _ _ _ hu _ => hu
  | font => cases e; exact h.takeCode _ _ fun o n ops _ hu hp => hu.actFont hp o n ops
  | widthTableLoad => cases e; exact h.loadCompletes
  | tabStopSet => cases e; exact h.takeCode _ _ fun o n ops _ hu hp => hu.actTabStopSet hp o n ops
  | tabTo | moveTo | moveBy => cases e; exact h.takeCode _ _ fun o _ _ _ hu hp => hu.pushElement_of_reading hp o rfl _
  | badCode => cases e; exact h.takeCode _ _ fun _ _ _ _ hu hp => hu.pushCode_of_reading hp rfl
  | dictionaryLookup => cases e; exact h.lookupCompletes
  | itemDraw => cases e; exact h.drawStep
  | groupAppend => cases e; exact h.appendStep
  | _ => exact away rfl

end State.lineLaw

/-- Settles O6: the law of the ring by what every command keeps, the laws of the pool and of the Composer by `State.lineLaw.exec`. -/
theorem stepKeepsTheLineStoreLaw : Obligations.StepKeepsTheLineStoreLaw := by
  unfold Obligations.StepKeepsTheLineStoreLaw
  refine ⟨step_keeps_storeLaw, fun s t hc hp h => ?_⟩
  exact step_of_exec (P := State.lineLaw) (fun _ _ h => h) (fun c _ _ h e => h.exec c e) s t ⟨hc, hp⟩ h

end Sys2Proof.Machine
end

section
/-! Registers, scan triggers and the refusals of COMMAND writes (spec 01, sections 2.3 to 2.5; spec 02, section 3.2). -/

namespace Sys2Proof.Machine

/-! ### Scan triggers (R23) -/

/-- What hinders a scan, in the words of R23. -/
theorem State.scanHindered_iff (s : State) : s.scanHindered = true ↔
    s.desk.controller = .halted ∨ s.scanner.state = .locked ∨ s.scanner.inFlight = true ∨ ∀ i : Fin 8, s.flight[i] ≠ none := by
  rw [← s.flightFull_iff]
  simp only [State.scanHindered, Bool.or_eq_true, beq_iff_eq, or_assoc]

theorem State.trigger_stopped {s : State} (h : s.desk.controller = .stopped) : s.trigger = s := if_pos h

theorem State.trigger_remembered {s : State} (h : s.desk.controller ≠ .stopped) (hs : s.scanHindered = true) :
    s.trigger = s.modScanner fun c => { c with pendingFlag := true } := by
  rw [State.trigger, if_neg h, if_pos hs]

theorem State.trigger_scans {s : State} (h : s.desk.controller ≠ .stopped) (hs : s.scanHindered = false) :
    s.trigger = s.modScanner fun c => { c with inFlight := true } := by
  rw [State.trigger, if_neg h, if_neg (by simp [hs])]

/-- No trigger is remembered, so the end of a hindrance starts no scan. -/
theorem State.testPending_none {s : State} (h : s.scanner.pendingFlag = false) : s.testPending = s := by
  simp [State.testPending, h]

theorem State.scanHindered_timer (s : State) (n : Nat) :
    (s.modScanner fun c => { c with timer := n }).scanHindered = s.scanHindered := rfl

/-- An expiry of a running timer, outside a scan, loads it again and asks for a scan. -/
theorem State.rescanExpires_asks {s : State} (h : s.desk.controller ≠ .stopped) (ht : 0 < s.scanner.timer)
    (hf : s.scanner.inFlight = false) (hh : s.scanner.held = none) :
    s.rescanExpires = (s.modScanner fun c => { c with timer := s.desk.setup.rescan }).trigger := by
  simp [State.rescanExpires, Scanner.scanning, h, hf, hh, Nat.ne_of_gt ht]

/-- An expiry within a scan holds the timer at 1. -/
theorem State.rescanExpires_scanning {s : State} (h : s.desk.controller ≠ .stopped) (ht : 0 < s.scanner.timer)
    (hf : s.scanner.inFlight = true ∨ s.scanner.held ≠ none) :
    s.rescanExpires = s.modScanner fun c => { c with timer := 1, timerAtOne := true } := by
  have hs : s.scanner.scanning = true := by
    simpa [Scanner.scanning, Option.isSome_iff_ne_none] using hf
  simp [State.rescanExpires, h, hs, Nat.ne_of_gt ht]

/-- An expiry of a timer at 0, or while STOPPED, is none. -/
theorem State.rescanExpires_idle {s : State} (h : s.desk.controller = .stopped ∨ s.scanner.timer = 0) : s.rescanExpires = s :=
  if_pos h

/-- Settles O15, by the cases of the trigger: ignored, remembered, or a scan begun. -/
theorem nudgeAndRescanTimerAskForAScan : Obligations.NudgeAndRescanTimerAskForAScan := by
  intro s v remembered
  have hr : remembered ↔ s.scanHindered = true := s.scanHindered_iff.symm
  refine ⟨fun h => ⟨?_, ?_⟩, fun h => ?_, fun h hm => ⟨?_, fun ht hf hh => ?_⟩, fun h hm => ⟨?_, fun ht hh => ?_⟩,
    fun h ht hf => ?_⟩
  · exact congrArg Host.Outcome.next (if_pos h)
  · exact congrArg Host.Outcome.next (State.rescanExpires_idle (.inl h))
  · exact congrArg Host.Outcome.next (State.rescanExpires_idle (.inr h))
  · exact congrArg Host.Outcome.next ((if_neg h).trans (State.trigger_remembered h (hr.1 hm)))
  · refine congrArg Host.Outcome.next ((State.rescanExpires_asks h ht hf hh).trans ?_)
    exact State.trigger_remembered h (hr.1 hm)
  · refine congrArg Host.Outcome.next ((if_neg h).trans (State.trigger_scans h ?_))
    simpa using fun e => hm (hr.2 e)
  · have hs : s.scanHindered = false := by simpa using fun e => hm (hr.2 e)
    have hf : s.scanner.inFlight = false := by
      simpa using fun e => hm (.inr (.inr (.inl e)))
    refine congrArg Host.Outcome.next ((State.rescanExpires_asks h ht hf hh).trans ?_)
    exact State.trigger_scans h hs
  · exact congrArg Host.Outcome.next (State.rescanExpires_scanning h ht hf)

end Sys2Proof.Machine
end

section
/-! The refusals of COMMAND writes (R6, R7), the event registers, the interrupt line, and the STATUS pages (TABLE 12-16). -/

namespace Sys2Proof.Machine

/-! ### Refused COMMAND writes (R6) -/

theorem State.commandWrite_busy {taken : Bool} {run : State → State} {s : State} (h : s.desk.busy ≠ none) :
    s.commandWrite taken run = s.modDesk fun d => d.ends .refusedBusy :=
  if_pos (Option.isSome_iff_ne_none.2 h)

theorem State.commandWrite_refused {taken : Bool} {run : State → State} {s : State} (h : s.desk.busy = none) (ht : taken = false) :
    s.commandWrite taken run = s.modDesk fun d => d.ends .refusedState := by
  simp only [State.commandWrite, h, ht, Option.isSome_none, Bool.false_eq_true, if_false]
  rfl

/-- A START refused at its write sets HALT besides (R5). -/
theorem State.refuse_halt (r : CmdResult) (s : State) : (s.refuse r).event Event.halt =
    s.modDesk fun d => { d with result := r, events := d.events ||| 4#4 ||| 8#4 } := by
  simp only [State.refuse, State.event, State.modDesk, Event.halt, Event.command, BitVec.or_assoc, BitVec.or_comm 8#4]

theorem State.startWrite_busy {s : State} (h : s.desk.busy ≠ none) : s.startWrite =
    s.modDesk fun d => { d with result := .refusedBusy, events := d.events ||| 4#4 ||| 8#4 } :=
  (if_pos (Option.isSome_iff_ne_none.2 h)).trans (State.refuse_halt _ s)

theorem State.startWrite_refused {s : State} (h : s.desk.busy = none) (hc : s.desk.controller ≠ .stopped) : s.startWrite =
    s.modDesk fun d => { d with result := .refusedState, events := d.events ||| 4#4 ||| 8#4 } := by
  rw [← State.refuse_halt]
  simp [State.startWrite, h, hc]

theorem State.unknownWrite_busy {s : State} (h : s.desk.busy ≠ none) : s.unknownWrite = s.modDesk fun d => d.ends .refusedBusy :=
  if_pos (Option.isSome_iff_ne_none.2 h)

theorem State.unknownWrite_free {s : State} (h : s.desk.busy = none) : s.unknownWrite = s.modDesk fun d => d.ends .refusedOperand := by
  simp only [State.unknownWrite, h, Option.isSome_none, Bool.false_eq_true, if_false]
  rfl

/-- The entry that a slot names holds that slot. -/
theorem State.entryOfSlot_holds {s : State} {slot : Nat} {i : Fin 8} (h : s.entryOfSlot slot = some i) :
    ∃ e, s.flight[i] = some e ∧ e.slot = slot := by
  have := List.find?_some h
  cases he : s.flight[i] with
  | none => rw [he] at this; simp at this
  | some e => exact ⟨e, rfl, by rw [he] at this; simpa using this⟩

/-- CANCEL of a slot that names no ticket in flight is refused OPERAND (R15). -/
theorem State.cancelCommand_refused {s : State} {slot : Nat}
    (h : 31 < slot ∨ ∀ i : Fin 8, ∀ e, s.flight[i] = some e → e.slot ≠ slot) :
    s.cancelCommand slot = s.modDesk fun d => d.ends .refusedOperand := by
  have hn : (if slot ≤ 31 then s.entryOfSlot slot else none) = none := by
    split
    · next hle =>
      rw [Option.eq_none_iff_forall_not_mem]
      intro i hi
      obtain ⟨e, he, hs⟩ := State.entryOfSlot_holds hi
      rcases h with h | h
      · omega
      · exact h i e he hs
    · rfl
  rw [State.cancelCommand, hn]
  rfl

/-- Settles O16, by the branches of a COMMAND write: BUSY, the condition of TABLE 2-5, and CANCEL's operand. -/
theorem commandsAreRefusedByTheirConditions : Obligations.CommandsAreRefusedByTheirConditions := by
  intro s code operand startRefused
  have next : ∀ {a b : State}, a = b → Host.Outcome.next (φ := Fault) (ρ := Refusal) a = .next b := fun h => congrArg _ h
  refine ⟨fun h => ⟨next (State.startWrite_busy h), ?_⟩, fun h => ⟨fun hc => next (State.startWrite_refused h hc), fun hc => ?_,
    fun hc => ?_, fun hc => ?_, fun hc => ?_, fun hc => ?_, fun hc ho => ?_, next (State.unknownWrite_free h)⟩⟩
  · intro c hc
    simp only [List.mem_cons, List.not_mem_nil, or_false] at hc
    rcases hc with rfl | rfl | rfl | rfl | rfl | rfl | rfl
    iterate 6 exact next (State.commandWrite_busy h)
    exact next (State.unknownWrite_busy h)
  · exact next (State.commandWrite_refused h (by simpa using hc))
  · exact next (State.commandWrite_refused h (by simpa using hc))
  · refine next (State.commandWrite_refused h ?_)
    rw [← State.flightEmpty_iff] at hc
    by_contra hn
    simp only [Bool.not_eq_false, Bool.and_eq_true, beq_iff_eq, List.isEmpty_iff] at hn
    obtain ⟨⟨h1, h2⟩, h3⟩ := hn
    simp [h1, h2, h3] at hc
  · refine next (State.commandWrite_refused h ?_)
    rw [← State.flightEmpty_iff] at hc
    by_contra hn
    simp only [Bool.not_eq_false, Bool.and_eq_true, beq_iff_eq] at hn
    obtain ⟨h1, h2⟩ := hn
    simp [h1, h2] at hc
  · exact next (State.commandWrite_refused h (by simpa using hc))
  · exact next ((State.commandWrite_taken h (by simpa using hc)).trans (State.cancelCommand_refused ho))

/-! ### STATUS (TABLE 12-16) -/

/-- A field put beside one that lies below it adds up. -/
theorem half_or_shift (a b : Half) (n : Nat) (ha : a.toNat < 2 ^ n) (hb : b.toNat * 2 ^ n < 65536) :
    (a ||| b <<< n).toNat = a.toNat + 2 ^ n * b.toNat := by
  rw [BitVec.toNat_or, BitVec.toNat_shiftLeft, Nat.shiftLeft_eq, Nat.mod_eq_of_lt hb, Nat.or_comm, ← Nat.shiftLeft_eq,
    ← Nat.shiftLeft_add_eq_or_of_lt ha, Nat.shiftLeft_eq]
  ring

/-- Page 0 shows its five fields side by side. -/
theorem State.statusPage0_toNat (s : State) : s.statusPage0.toNat =
    s.desk.controller.code.toNat + 4 * s.desk.cause.code.toNat + 32 * s.desk.result.code.toNat
      + (if s.desk.busy = none then 0 else 256) + 512 * s.scanner.state.code.toNat := by
  have h1 : s.desk.controller.code.toNat ≤ 2 := by cases s.desk.controller <;> decide
  have h2 : s.desk.cause.code.toNat ≤ 6 := by cases s.desk.cause <;> decide
  have h3 : s.desk.result.code.toNat ≤ 5 := by cases s.desk.result <;> decide
  have h4 : s.scanner.state.code.toNat ≤ 2 := by cases s.scanner.state <;> decide
  have hb : (if s.desk.busy.isSome then bit 8 else 0) = (if s.desk.busy = none then (0 : Half) else 1) <<< 8 := by
    cases s.desk.busy <;> rfl
  have hbn : (if s.desk.busy = none then (0 : Half) else 1).toNat = if s.desk.busy = none then 0 else 1 := by
    split <;> rfl
  have hb1 : (if s.desk.busy = none then 0 else 1) ≤ 1 := by split <;> decide
  have e1 := half_or_shift s.desk.controller.code s.desk.cause.code 2 (by omega) (by omega)
  have e2 := half_or_shift (s.desk.controller.code ||| s.desk.cause.code <<< 2) s.desk.result.code 5 (by omega) (by omega)
  have e3 := half_or_shift (s.desk.controller.code ||| s.desk.cause.code <<< 2 ||| s.desk.result.code <<< 5)
    (if s.desk.busy = none then 0 else 1) 8 (by omega) (by omega)
  rw [State.statusPage0, hb, half_or_shift _ _ 9 (by omega) (by omega), e3, e2, e1, hbn]
  split <;> omega

end Sys2Proof.Machine
end

section
/-! The event registers, the interrupt line, and the states page 1 of STATUS shows (R4, R5, R84, R129, R161, R176). -/

namespace Sys2Proof.Machine

/-- The interrupt line stands while some flag and its enable are both 1. -/
theorem State.interrupt_iff (s : State) : s.interrupt = true ↔
    ∃ n < 4, s.desk.events.getLsbD n = true ∧ s.desk.mask.getLsbD n = true := by
  rw [State.interrupt, bne_iff_ne, ne_eq, ← not_iff_not, not_not]
  constructor
  · rintro h ⟨n, -, he, hm⟩
    have := congrArg (·.getLsbD n) h
    simp [he, hm] at this
  · intro h
    refine BitVec.eq_of_getLsbD_eq fun n hn => ?_
    simp only [BitVec.getLsbD_and]
    by_contra hc
    exact h ⟨n, hn, by simpa using hc⟩

theorem bit_getLsbD (k n : Nat) : (bit k).getLsbD n = decide (n = k ∧ k < 16) := by
  rw [Bool.eq_iff_iff]
  simp only [bit, BitVec.getLsbD_shiftLeft, BitVec.getLsbD_one, Bool.and_eq_true, Bool.not_eq_eq_eq_not,
    Bool.not_true, decide_eq_true_eq, decide_eq_false_iff_not]
  omega

theorem State.readRegister_eventmask (s : State) (n : Nat) : (s.readRegister .eventmask).getLsbD n = true ↔
    (n < 4 ∧ s.desk.mask.getLsbD n = true) ∨ (n = 15 ∧ s.desk.page = true) := by
  have hm : s.desk.mask.getLsbD n = true ↔ n < 4 ∧ s.desk.mask.getLsbD n = true :=
    ⟨fun h => ⟨by_contra fun hn => by simp [BitVec.getLsbD_of_ge _ _ (Nat.le_of_not_lt hn)] at h, h⟩, And.right⟩
  rw [← hm]
  have hw : n < 16 ∧ s.desk.mask.getLsbD n = true ↔ s.desk.mask.getLsbD n = true :=
    ⟨And.right, fun h => ⟨Nat.lt_trans (hm.1 h).1 (by decide), h⟩⟩
  cases hp : s.desk.page <;>
    simp [State.readRegister, hp, bit_getLsbD, BitVec.getLsbD_or, BitVec.getLsbD_setWidth, hw]

/-! ### Page 1 -/

/-- Page 1 shows its three states side by side. -/
theorem State.statusPage1_toNat (s : State) (hc : s.composerShown.toNat ≤ 5) (he : s.exposureShown.toNat ≤ 9)
    (hp : s.proofShown.toNat ≤ 6) :
    s.statusPage1.toNat = s.composerShown.toNat + 8 * s.exposureShown.toNat + 128 * s.proofShown.toNat := by
  have e1 := half_or_shift s.composerShown s.exposureShown 3 (by omega) (by omega)
  rw [State.statusPage1, half_or_shift _ _ 7 (by omega) (by omega), e1]
  norm_num

/-- A phase that is neither a wait on an access nor IDLE shows PAUSED, BLOCKED or COMPOSING. -/
theorem State.composerShown_working {s : State} (hi : s.composer.phase ≠ .idle) (hl : ∀ sel, s.composer.phase ≠ .loading sel)
    (ht : ∀ t, s.composer.phase ≠ .searching t) :
    s.composerShown = if s.desk.controller = .halted then 5 else if s.composerBlocked then 4 else 1 := by
  cases h : s.composer.phase with
  | idle => exact absurd h hi
  | loading sel => exact absurd h (hl sel)
  | searching t => exact absurd h (ht t)
  | _ => simp only [State.composerShown, h]

theorem State.composerShown_le (s : State) : s.composerShown.toNat ≤ 5 := by
  unfold State.composerShown
  split
  · decide
  · decide
  · split <;> decide
  · split
    · decide
    · split <;> decide

/-- The record of a CUT ticket stands to be appended exactly while its entry is not finished. -/
theorem State.cutNext_iff (s : State) : s.cutNext = true ↔
    ∃ i x, s.composer.ticket = some i ∧ s.flight[i] = some x ∧ x.kind = .cut ∧ x.finished = false := by
  rw [State.cutNext]
  cases h : s.ticketEntry with
  | none =>
    simp only [Option.map_none, Option.getD_none, Bool.false_eq_true, false_iff]
    rintro ⟨i, x, hi, hx, -⟩
    rw [State.ticketEntry_eq_some.2 ⟨hi, hx⟩] at h
    cases h
  | some p =>
    obtain ⟨i, e⟩ := p
    obtain ⟨hi, he⟩ := State.ticketEntry_eq_some.1 h
    simp only [Option.map_some, Option.getD_some, Bool.and_eq_true, beq_iff_eq, Bool.not_eq_eq_eq_not, Bool.not_true]
    constructor
    · rintro ⟨hk, hf⟩
      exact ⟨i, e, hi, he, hk, hf⟩
    · rintro ⟨j, x, hj, hx, hk, hf⟩
      obtain rfl : i = j := Option.some.inj (hi.symm.trans hj)
      obtain rfl : e = x := Option.some.inj (he.symm.trans hx)
      exact ⟨hk, hf⟩

theorem State.exposureShown_le (s : State) : s.exposureShown.toNat ≤ 9 := by
  unfold State.exposureShown
  split
  · decide
  · unfold State.exposureState
    cases s.exposure.phase with
    | moving m => cases m <;> simp
    | startMove m => cases m <;> simp
    | moved m => cases m <;> simp
    | mountWait => dsimp only; split <;> decide
    | mountReady => dsimp only; split <;> decide
    | mount => dsimp only; split <;> decide
    | _ => simp

/-- A halted Exposure Sequencer at a wait shows PAUSED. -/
theorem State.exposureShown_paused {s : State} (h : s.desk.controller = .halted) (hp : s.exposure.phase.pauses = true) :
    s.exposureShown = 9 := if_pos ⟨h, hp⟩

theorem State.exposureShown_running {s : State} (h : s.desk.controller ≠ .halted) : s.exposureShown = s.exposureState :=
  if_neg fun e => h e.1

theorem State.exposureShown_moving {s : State} (h : s.exposure.phase.pauses = false) : s.exposureShown = s.exposureState :=
  if_neg fun e => by simp [h] at e

/-- The record in hand has exposable items exactly when it is a TEXT record with one. -/
theorem State.hasExposable_iff (s : State) : s.hasExposable = true ↔
    ∃ r leading items fonts, s.nextForFilm r ∧ r.work = .text leading items fonts ∧ ∃ it ∈ items, it.exposable = true := by
  unfold State.hasExposable State.filmItems State.filmRecord State.nextForFilm
  cases hr : s.store.records[s.store.film.passed]? with
  | none => simp
  | some r => cases hw : r.work <;> simp [hw]

theorem State.proofShown_le (s : State) : s.proofShown.toNat ≤ 6 := by
  unfold State.proofShown
  repeat' split
  all_goals decide

/-- The Composer is BLOCKED at a draw or an append, until it has taken what it waits for. -/
theorem State.composerShown_blocked {s : State} (h : (∃ x, s.composer.phase = .placing x) ∨ (∃ x, s.composer.phase = .hyphen x)
      ∨ (∃ g, s.composer.phase = .group g) ∨ (∃ l n, s.composer.phase = .lead l n) ∨ s.composer.phase = .closeCut
      ∨ (s.composer.phase = .openCut ∧ s.composer.galleyContent = true)
      ∨ (s.composer.phase = .begin ∧ ∃ i x, s.composer.ticket = some i ∧ s.flight[i] = some x ∧ x.kind = .cut ∧ x.finished = false)) :
    s.composerShown.toNat = if s.desk.controller = .halted then 5 else 4 := by
  rw [← s.cutNext_iff] at h
  have hb : s.composerBlocked = true := by
    unfold State.composerBlocked
    rcases h with ⟨x, h⟩ | ⟨x, h⟩ | ⟨g, h⟩ | ⟨l, n, h⟩ | h | ⟨h, hg⟩ | ⟨h, hg⟩ <;> simp only [h] <;> exact hg
  have hw : s.composerShown = if s.desk.controller = .halted then 5 else 4 := by
    rcases h with ⟨x, h⟩ | ⟨x, h⟩ | ⟨g, h⟩ | ⟨l, n, h⟩ | h | ⟨h, -⟩ | ⟨h, -⟩ <;> simp only [State.composerShown, h, hb, if_true]
  rw [hw]
  split <;> rfl

/-- A halted Composer at a safe point with something still to do is PAUSED. -/
theorem State.composerShown_paused {s : State} (hh : s.desk.controller = .halted)
    (h : (∃ t cs, s.composer.phase = .choosing t cs) ∨ s.composer.phase = .begin ∨ s.composer.phase = .contextWrite
      ∨ s.composer.phase = .readback ∨ (s.composer.phase = .idle ∧ s.composer.preempt ≠ none)) : s.composerShown = 5 := by
  rcases h with ⟨t, cs, h⟩ | h | h | h | ⟨h, hp⟩
  case inr.inr.inr.inr => simp [State.composerShown, h, hh, Option.isSome_iff_ne_none, hp]
  all_goals simp only [State.composerShown, h, hh, if_true]

/-- Settles O14, a clause by each of the lemmas on the registers and on the states shown. -/
theorem eventRegisterWrites : Obligations.EventRegisterWrites := by
  refine ⟨?events, ?mask, fun _ _ => rfl, State.interrupt_iff, fun _ => ⟨rfl, rfl⟩, ?reads, ?page0, ?page1⟩
  case events =>
    intro s v
    refine ⟨_, rfl, fun n hn => ?_⟩
    simp [hn]
  case mask =>
    intro s v
    refine ⟨_, rfl, fun n hn => ?_⟩
    simp [hn]
  case reads =>
    intro s n
    refine ⟨?_, s.readRegister_eventmask n⟩
    simp only [State.readRegister, BitVec.getLsbD_setWidth, Bool.and_eq_true, decide_eq_true_eq]
    have : s.desk.events.getLsbD n = true → n < 4 := fun h =>
      by_contra fun hn => by simp [BitVec.getLsbD_of_ge _ _ (Nat.le_of_not_lt hn)] at h
    exact ⟨fun h => ⟨this h.2, h.2⟩, fun h => ⟨Nat.lt_trans h.1 (by decide), h.2⟩⟩
  case page0 =>
    intro s hp
    simp only [State.readRegister, hp, Bool.false_eq_true, if_false, s.statusPage0_toNat]
    cases s.desk.controller <;> cases s.desk.cause <;> cases s.desk.result <;> cases s.scanner.state <;> rfl
  case page1 =>
    intro s hp
    refine ⟨s.composerShown.toNat, s.exposureShown.toNat, s.proofShown.toNat, ?_, s.composerShown_le, s.exposureShown_le,
      s.proofShown_le, ?_⟩
    · simp only [State.readRegister, hp, if_true]
      exact s.statusPage1_toNat s.composerShown_le s.exposureShown_le s.proofShown_le
    intro halted exposes
    have hx : s.hasExposable = true ↔ exposes := s.hasExposable_iff
    refine ⟨fun h hn => ?_, fun sel h => ?_, fun t h => ?_, fun h => ?_, State.composerShown_blocked,
      fun hh h => congrArg BitVec.toNat (State.composerShown_paused hh h), fun m h => ?_, fun h => ?_, fun stage h => ?_, fun k h => ?_,
      fun hh h => ?_, fun hh => ⟨fun h => ?_, fun h => ⟨fun hc => ?_, fun hc he => ?_⟩, fun h => ?_, fun h => ?_⟩, fun h => ?_,
      fun hon => ⟨fun h => ?_, fun hd => ⟨fun hh hs => ?_, fun hs hb => ?_, fun hs hb hf => ?_, fun hh hs => ?_⟩⟩⟩
    · simp [State.composerShown, h, hn]
    · simp [State.composerShown, h]
    · simp [State.composerShown, h]
    · rw [State.composerShown_working (by simp [h]) (by simp [h]) (by simp [h])]
      simp only [State.composerBlocked, h, Bool.false_eq_true, if_false, halted]
      split <;> rfl
    · rw [State.exposureShown_moving (by rw [h]; rfl), State.exposureState, h]
      cases m <;> rfl
    · rcases h with h | h <;> rw [State.exposureShown_moving (by rw [h]; rfl), State.exposureState, h] <;> rfl
    · rw [State.exposureShown_moving (by rw [h]; rfl), State.exposureState, h]
      rfl
    · rw [State.exposureShown_moving (by rw [h]; rfl), State.exposureState, h]
      rfl
    · rw [State.exposureShown_paused hh]
      · rfl
      · rcases h with h | h | h | ⟨g, h⟩ | ⟨m, h⟩ | h | ⟨k, h⟩ <;> rw [h] <;> rfl
    · rw [State.exposureShown_running hh, State.exposureState, h]
      rfl
    · rw [State.exposureShown_running hh, State.exposureState, h]
      rw [← hx] at hc
      have : (s.pins.coverOpen && s.hasExposable) = false := by
        rcases hc with hc | hc <;> simp [hc]
      simp [this]
    · rw [State.exposureShown_running hh, State.exposureState, h]
      simp [hc, hx.2 he]
    · rcases h with ⟨g, h⟩ | ⟨m, h⟩ <;> rw [State.exposureShown_running hh, State.exposureState, h] <;> rfl
    · rw [State.exposureShown_running hh, State.exposureState, h]
      rfl
    · simp [State.proofShown, h]
    · simp [State.proofShown, hon, h]
    · have hh : s.desk.controller = .halted := hh
      simp [State.proofShown, hon, hd, hh, hs]
    · have hw : s.printerWait = true := by
        simp [State.printerWait, State.printerHolds, Option.isSome_iff_ne_none, hs, hb]
      simp [State.proofShown, hon, hd, hs, hw]
    · have hw : s.printerWait = false := by
        simp [State.printerWait, State.printerHolds, hb, hf]
      cases hr : s.proof.drawing <;> simp [State.proofShown, hon, hd, hs, hw, hr, Option.isSome_iff_ne_none]
    · have hh : s.desk.controller ≠ .halted := hh
      have hw : s.printerWait = false := by simp [State.printerWait, hs]
      cases hr : s.proof.drawing <;> simp [State.proofShown, hon, hd, hs, hw, hr, hh]

end Sys2Proof.Machine
end

section
/-! RESUME of a part at rest, and the loads of the Desk by START, RELOAD and SEQUENCE (spec 01, section 2.5). -/

namespace Sys2Proof.Machine

/-- A command that ends at its write, with none in progress before it, changes the result field and EVENTS alone. -/
theorem State.endCommand_free {s : State} (h : s.desk.busy = none) (r : CmdResult) : s.endCommand r = s.modDesk fun d => d.ends r := by
  simp only [State.endCommand, State.event, State.modDesk, Desk.ends, h]

/-! ### Blocks with nothing to take up (R12) -/

/-- A Composer at rest takes nothing up in a run. -/
theorem State.composerRun_atRest {s : State} (h : s.composerAtRest) : s.composerRun = s.settle := by
  obtain ⟨hn, hp⟩ := h
  refine s.composerRun_wait (.inr (.inr ⟨hn, ?_⟩))
  rcases hp with hp | hp <;> simp only [State.phaseReady, hp]

theorem State.exposureResumes_idle {s : State} (h : s.exposure.phase = .idle) : s.exposureResumes = s := by
  simp only [State.exposureResumes, h]

/-- With both buffers FREE no band is sent. -/
theorem State.sendNext_free {s : State} (ha : s.proof.bandA.state = .free) (hb : s.proof.bandB.state = .free) : s.sendNext = s := by
  have hn : s.proof.nextReady = none := by simp [ProofRenderer.nextReady, ProofRenderer.readyBands, ha, hb]
  unfold State.sendNext
  rw [hn]
  split <;> rfl

theorem State.retryNotice_none {s : State} {o : Owner} (h : (s.notices.writer o).held = false) : s.retryNotice o = s := by
  rw [State.retryNotice, h]
  rfl

theorem State.setResultWrite_same {s : State} {x : Option ResultWrite} (h : s.resultWrite = x) : s.setResultWrite x = s := by
  rw [← h]
  rfl

theorem State.retryResult_none {s : State} (h : s.resultWrite = none) : s.retryResult = s := by
  rw [State.retryResult, h]
  exact State.setResultWrite_same h

theorem State.retryCancelWrite_none {s : State} (h : s.composer.cancelWriteHeld = false) : s.retryCancelWrite = s := by
  rw [State.retryCancelWrite, h]
  rfl

theorem State.retryTray_none {s : State} (h : s.scanner.held = none) : s.retryTray = s := by
  simp only [State.retryTray, h]

/-- With no record in hand and both buffers FREE the proof takes up its new timeout alone. -/
theorem State.proofResumes_free {s : State} (hd : s.proof.drawing = none) (ha : s.proof.bandA.state = .free)
    (hb : s.proof.bandB.state = .free) : s.proofResumes = s.modProof (ProofRenderer.useTimeout s.desk.setup.proofTimeout) := by
  have h := State.sendNext_free (s := s.modProof (ProofRenderer.useTimeout s.desk.setup.proofTimeout)) ha hb
  unfold State.proofResumes
  dsimp only [State.modProof_proof, ProofRenderer.useTimeout] at h ⊢
  rw [hd]
  exact h

/-- Nothing held is nothing to retry. -/
theorem State.retries_none {s : State} (hw : s.noWrites) (hc : s.composer.cancelWriteHeld = false) (hh : s.scanner.held = none) :
    (((s.retryNotice .photoUnit).retryNotice .film).retryNotice .proof).retryResult.retryCancelWrite.retryTray = s := by
  have hn : ∀ o, (s.notices.writer o).held = false := fun o => (hw.2 o).2
  rw [State.retryNotice_none (hn .photoUnit), State.retryNotice_none (hn .film), State.retryNotice_none (hn .proof),
    State.retryResult_none hw.1, State.retryCancelWrite_none hc, State.retryTray_none hh]

/-- The trigger of a part at rest starts a scan. -/
theorem State.trigger_atRest {s : State} (hc : s.desk.controller = .running) (ht : s.noTickets) (hst : s.scanner.state = .idle)
    (hf : s.scanner.inFlight = false) : s.trigger = s.modScanner fun c => { c with inFlight := true } := by
  have hfull : s.flightFull = false := by
    by_contra h
    exact (s.flightFull_iff.1 (by simpa using h)) 0 (ht 0)
  exact State.trigger_scans (by simp [hc]) (by simp [State.scanHindered, hc, hst, hf, hfull])

/-- Settles O18: each held operation and each block in turn has nothing to take up. -/
theorem resumeOfAPartAtRest : Obligations.ResumeOfAPartAtRest := by
  intro s operand hb hc hs ht hw hr hcw hh hst hf hp hx hd ha hbb
  refine congrArg Host.Outcome.next ((State.commandWrite_taken hb (by simp [hc])).trans ?_)
  let r := s.modDesk fun d => { d with controller := .running, cause := .none }
  let p := r.modProof (ProofRenderer.useTimeout s.desk.setup.proofTimeout)
  let q := p.modScanner fun c => { c with inFlight := true }
  have resumed : r.exposureResumes.proofResumes = p := by
    rw [State.exposureResumes_idle (s := r) hx]
    exact State.proofResumes_free (s := r) hd ha hbb
  have retried := State.retries_none (s := p) hw hcw hh
  have scanned : p.composerRun.trigger.testPending = q := by
    rw [State.composerRun_atRest (s := p) hr, State.settle_empty p ht, State.trigger_atRest (s := p) rfl ht hst hf]
    exact State.testPending_none (s := q) hp
  have released : r.releaseBlocks = q := by
    unfold State.releaseBlocks
    dsimp only
    rw [resumed, retried, scanned]
  have ends : s.resumeCommand = r.releaseBlocks.settle.endCommand .accepted := by
    rw [State.resumeCommand, hs]
  rw [ends, released, State.settle_empty q ht, State.endCommand_free (s := q) hb]
  rfl

end Sys2Proof.Machine
end

section
/-! What START and RELOAD read of the Desk where every access is acknowledged (R2, R8), and what follows from each outcome. -/

namespace Sys2Proof.Machine

/-- With the bus acknowledging, a table is read as it stands. -/
theorem State.readTable_none {s : State} (h : s.bus = none) (ptr size : Nat) :
    s.readTable ptr size = (some (s.deskTable ptr size), s) := by
  unfold State.readTable State.deskTable
  split
  · rfl
  · exact s.busRead_none _ _ h

theorem State.readTablesAt_none {s : State} (h : s.bus = none) (b : List Byte) (g : List Grant) (l r y : Nat) :
    s.readTablesAt b g l r y = (.loaded ⟨b, g, s.deskTable l 224, s.deskTable r 256, s.deskTable y 1344⟩, s) := by
  simp only [State.readTablesAt, State.readTable_none h]

theorem State.readTables_none {s : State} (h : s.bus = none) (b : List Byte) (g : List Grant) :
    s.readTables b g = (.loaded ⟨b, g, s.deskTable (longAt b 0x14) 224, s.deskTable (longAt b 0x18) 256,
      s.deskTable (longAt b 0x1C) 1344⟩, s) :=
  (State.readTables_eq b g s).trans (State.readTablesAt_none h b g _ _ _)

/-- The access checks of the header's tables, each nonzero pointer with its size (R2). -/
theorem headerTables_all {b : List Byte} {p : Nat × Nat → Bool} :
    (headerTables b).all p = true ↔ ∀ x ∈ [(longAt b 0x14, 224), (longAt b 0x18, 256), (longAt b 0x1C, 1344)],
      x.1 ≠ 0 → p x = true := by
  unfold headerTables
  generalize longAt b 0x14 = l
  generalize longAt b 0x18 = r
  generalize longAt b 0x1C = y
  simp only [List.all_eq_true, List.mem_filter, bne_iff_ne, and_imp]

/-- A header that fails its layout check ends the reads. -/
theorem State.readDesk_failed {s : State} (h : s.bus = none) (hl : headerLayoutOk (s.bytes (s.deskAddr 0) 256) = false) :
    s.readDesk = (.failedCheck, s) := by
  have hr : s.busRead (s.deskAddr 0) headerSize = (some (s.bytes (s.deskAddr 0) 256), s) := s.busRead_none _ _ h
  unfold State.readDesk
  rw [hr]
  dsimp only
  rw [hl]
  rfl

/-- A Desk that passes its checks is read whole. -/
theorem State.readDesk_loaded {s : State} (h : s.bus = none) {b : List Byte} {g : List Grant}
    (hb : b = s.bytes (s.deskAddr 0) 256) (hg : g = grantTable (s.bytes (s.deskAddr (headerAreas b).grantTable) 64))
    (hl : headerLayoutOk b = true)
    (ht : ∀ x ∈ [(longAt b 0x14, 224), (longAt b 0x18, 256), (longAt b 0x1C, 1344)],
      x.1 ≠ 0 → rangeAllowed s.desk.base g false x.1 x.2 = true) :
    s.readDesk = (.loaded ⟨b, g, s.deskTable (longAt b 0x14) 224, s.deskTable (longAt b 0x18) 256,
      s.deskTable (longAt b 0x1C) 1344⟩, s) := by
  have hr : s.busRead (s.deskAddr 0) headerSize = (some b, s) := by rw [s.busRead_none _ _ h, hb]; rfl
  have hx : s.busRead (s.deskAddr (headerAreas b).grantTable) 64 =
    (some (s.bytes (s.deskAddr (headerAreas b).grantTable) 64), s) := s.busRead_none _ _ h
  unfold State.readDesk
  rw [hr]
  dsimp only
  rw [hl, hx]
  dsimp only
  rw [← hg, if_neg (by simp), if_pos (headerTables_all.2 ht), State.readTables_none h]

/-- START of a Desk with a bad layout, taken. -/
theorem State.startWrite_failed {s : State} (hb : s.desk.busy = none) (hc : s.desk.controller = .stopped) (h : s.bus = none)
    (hl : headerLayoutOk (s.bytes (s.deskAddr 0) 256) = false) :
    s.startWrite = (s.modDesk fun d => { d with busy := some .start }).refuseStart .setup := by
  have hr := State.readDesk_failed (s := s.modDesk fun d => { d with busy := some .start }) h hl
  rw [State.startWrite, hb, if_neg (by simp), if_pos hc, State.startCommand, hr]

/-- Settles O19. -/
theorem startRefusedForItsLayoutChangesNothing : Obligations.StartRefusedForItsLayoutChangesNothing := by
  intro s operand hb hc h hl
  refine congrArg Host.Outcome.next ((State.startWrite_failed hb hc h hl).trans ?_)
  simp only [State.refuseStart, State.endCommand, State.event, State.modDesk, hb]
  rfl

end Sys2Proof.Machine
end

section
/-! What START and RELOAD make of the Desk they have read (R8, R9, R13, R24, R133, R169). -/

namespace Sys2Proof.Machine

/-- A long pointer as an address is the 3-byte field. -/
theorem ofNat_longAt (b : List Byte) (i : Nat) : BitVec.ofNat 24 (longAt b i) = addrAt b i := by
  have key : ∀ (a : Addr) (n : Nat), BitVec.ofNat 24 (a.toNat + n * 16777216) = a := fun a n => by
    refine BitVec.eq_of_toNat_eq ?_
    rw [BitVec.toNat_ofNat]
    have := a.isLt
    omega
  exact key _ _

/-- Step 1 of START with neither home input asserted: both homing moves start together, and the step waits for them. -/
theorem State.startHoming_moves {s : State} (hh : s.pins.home = false) (ht : s.pins.turretIndex = false) :
    s.startHoming = (((s.atStep .homing).modExposure fun x =>
        { x with track := none, settled := false, carriageAt := none, turretAt := none }).modMotion fun m =>
      { m with
        carriage := { m.carriage.start s.desk.setup.carriage false 20000 with homing := .moving }
        turret := { m.turret.start s.desk.setup.turret true 3200 with homing := .moving } }) := by
  simp [State.startHoming, State.homeChannel, State.homingEnds, State.unselectTrack, State.atStep, State.startChannel, hh, ht,
    Motion.modChannel, Setup.motion, State.modMotion, State.modExposure, State.modDesk]

/-- START of a Desk that passes its checks takes its copies and goes on to homing. -/
theorem State.startWrite_loaded {s t : State} {k : Holding} (hb : s.desk.busy = none) (hc : s.desk.controller = .stopped)
    (hr : (s.modDesk fun d => { d with busy := some .start }).readDesk = (.loaded k, t)) :
    s.startWrite = ((t.takeCopies k).startBlocks k).startHoming := by
  rw [State.startWrite, hb, if_neg (by simp), if_pos hc, State.startCommand, hr]

/-- The state in which START goes on to homing: the copies taken and the starting values set. -/
theorem State.startBlocks_takeCopies (k : Holding) (s : State) : (s.takeCopies k).startBlocks k =
    { s with
      desk := { s.desk with
        areas := headerAreas k.header, grants := k.grants, setupInUse := true, setup := headerSetup k.header
        glyphsGiven := longAt k.header 0x1C != 0 }
      hyphenation := ⟨k.letters, k.pairs, addrAt k.header 0x10⟩
      drum := { s.drum with nominal := some (headerSetup k.header).markInterval }
      scanner := { s.scanner with nextRoutine := halfAt k.header 0x0C, nextFlash := halfAt k.header 0x0E }
      fonts := { s.fonts with store := Vector.replicate 8 none, compositionCounter := 0, confirmed := false }
      composer := { s.composer with carried := some (defaultState (headerSetup k.header)), galleyContent := false }
      film := { s.film with
        supply := if s.film.inserted then (headerSetup k.header).cassetteLength else s.film.supply, inserted := false }
      proof := { ProofRenderer.initial with
        glyphs := k.glyphs, port := s.proof.port
        printer := (State.startBlocks k (s.takeCopies k)).proof.printer } } := by
  rw [← ofNat_longAt]
  rfl

/-- Settles O20. -/
theorem startTakesTheDeskAndHomes : Obligations.StartTakesTheDeskAndHomes := by
  intro s operand hb hc h hh ht b g hl hx
  have hr := State.readDesk_loaded (s := s.modDesk fun d => { d with busy := some .start }) (b := b) (g := g) h rfl rfl hl hx
  have hw := State.startWrite_loaded hb hc hr
  rw [State.startHoming_moves (by exact hh) (by exact ht), State.startBlocks_takeCopies] at hw
  clear hr hx hl
  clear_value b g
  refine ⟨_, congrArg Host.Outcome.next hw, rfl, rfl, rfl, rfl, rfl, fun i => Vector.getElem_replicate _, rfl, rfl, rfl, rfl,
    rfl, rfl, rfl, rfl, rfl, rfl, rfl, rfl, rfl, rfl, rfl, rfl, rfl, rfl, rfl, rfl, rfl⟩

end Sys2Proof.Machine
end

section
/-! RELOAD (R13, R24, R169). -/

namespace Sys2Proof.Machine

/-! ### Notices of the proof -/

/-- An event's end changes the notice records alone. -/
theorem State.noticeSince_eq (o : Owner) (s b : State) : s.noticeSince o b = { s with notices := (s.noticeSince o b).notices } := by
  rcases s.noticeSince_cases o b with h | ⟨-, -, h⟩
  · rw [h]
  · rw [h]; rfl

/-- What an event's end makes of the notice records rests on the owner's set before and after, the records and the controller alone. -/
theorem State.noticeSince_notices_congr {o : Owner} {s t a b : State} (hs : s.conditions o = t.conditions o)
    (hb : a.conditions o = b.conditions o) (hn : s.notices = t.notices) (hc : s.desk.controller = t.desk.controller) :
    (s.noticeSince o a).notices = (t.noticeSince o b).notices := by
  unfold State.noticeSince State.notice State.beginNotice State.noticeShown
  rw [hs, hb, hn, hc]
  split
  · exact hn
  · split
    · rw [State.modNotices_notices, State.modNotices_notices, hn]
    · exact hn

/-! ### The proof at RELOAD (R169) -/

theorem State.reloadProof_same {s : State} {before : Bool} (h : before = s.proofsOn) : s.reloadProof before = s := by
  subst h
  cases hp : s.proofsOn <;> simp [State.reloadProof, hp]

theorem State.reloadProof_disabled {s : State} {before : Bool} (hb : before = true) (hp : s.proofsOn = false) :
    s.reloadProof before = (s.modProof fun p =>
      { p.abandon with printer := false, dropping := false, separatorDue := false, drawing := none }).noticeSince .proof s := by
  simp [State.reloadProof, hb, hp]

theorem State.reloadProof_enabled {s : State} {before : Bool} (hb : before = false) (hp : s.proofsOn = true) :
    s.reloadProof before = (s.modProof fun p => { p with printer := s.printerNotReady }).noticeSince .proof s := by
  simp [State.reloadProof, hb, hp]

/-- The proof and the notice records that a RELOAD leaves. -/
theorem State.reloadProof_cases (s : State) (before : Bool) : ∃ p n, s.reloadProof before = { s with proof := p, notices := n }
    ∧ p.baseline = s.proof.baseline
    ∧ (before = s.proofsOn → p = s.proof ∧ n = s.notices)
    ∧ (before = true → s.proofsOn = false →
      p = { s.proof.abandon with printer := false, dropping := false, separatorDue := false, drawing := none }
      ∧ n = (State.noticeSince .proof { s with proof := p } s).notices)
    ∧ (before = false → s.proofsOn = true → p = { s.proof with printer := s.printerNotReady }
      ∧ n = (State.noticeSince .proof { s with proof := p } s).notices) := by
  cases hb : before <;> cases hp : s.proofsOn
  · exact ⟨_, _, State.reloadProof_same hp.symm, rfl, fun _ => ⟨rfl, rfl⟩, nofun, nofun⟩
  · refine ⟨_, _, (State.reloadProof_enabled rfl hp).trans (State.noticeSince_eq _ _ _), rfl, nofun, nofun, fun _ _ => ⟨rfl, rfl⟩⟩
  · refine ⟨_, _, (State.reloadProof_disabled rfl hp).trans (State.noticeSince_eq _ _ _), rfl, nofun, fun _ _ => ⟨rfl, rfl⟩, nofun⟩
  · exact ⟨_, _, State.reloadProof_same hp.symm, rfl, fun _ => ⟨rfl, rfl⟩, nofun, nofun⟩

/-- RELOAD's condition holds of a part HALTED with nothing in flight and nothing stored. -/
theorem State.reloadWrite_taken {s : State} (hb : s.desk.busy = none) (hc : s.desk.controller = .halted) (ht : s.noTickets)
    (hr : s.store.records = []) : s.reloadWrite = s.reloadCommand := by
  refine State.commandWrite_taken hb ?_
  simp [hc, hr, s.flightEmpty_iff.2 ht]

/-- The rescan timer after a RELOAD (R24). -/
theorem Scanner.reloadTimer (c : Scanner) (rescan : Nat) (started : Bool) :
    (if rescan = 0 then { c with timer := 0, timerAtOne := false }
      else if c.timer = 0 ∧ started = true then { c with timer := rescan } else c) =
    { c with
      timer := if rescan = 0 then 0 else if c.timer = 0 ∧ started = true then rescan else c.timer
      timerAtOne := if rescan = 0 then false else c.timerAtOne } := by
  split
  · rfl
  · split <;> rfl

/-- The state in which RELOAD leaves a part, with the proof and the notice records it leaves. -/
def State.reloaded (s : State) (k : Holding) (p : ProofRenderer) (n : Notices) : State :=
  { s with
    desk := { s.desk with
      areas := headerAreas k.header, grants := k.grants, setupInUse := true, setup := headerSetup k.header
      glyphsGiven := longAt k.header 0x1C != 0, result := .accepted, events := s.desk.events ||| 8#4 }
    hyphenation := ⟨k.letters, k.pairs, addrAt k.header 0x10⟩
    scanner := { s.scanner with
      timer := if (headerSetup k.header).rescan = 0 then 0
        else if s.scanner.timer = 0 ∧ s.desk.started = true then (headerSetup k.header).rescan else s.scanner.timer
      timerAtOne := if (headerSetup k.header).rescan = 0 then false else s.scanner.timerAtOne }
    drum := { s.drum with nominal := some (headerSetup k.header).markInterval }
    proof := p
    notices := n }

theorem State.reloaded_proofsOn (s : State) (k : Holding) (p : ProofRenderer) (n : Notices) :
    (s.reloaded k p n).proofsOn = (s.takeCopies k).proofsOn := by
  simp only [State.proofsOn, State.reloaded, State.takeCopies, State.modDesk, State.modHyphenation, State.modProof, State.modDrum]

/-- RELOAD of a Desk that passes its checks. -/
theorem State.reloadCommand_loaded {s : State} {k : Holding} {p : ProofRenderer} {n : Notices} (hb : s.desk.busy = none)
    (hr : s.readDesk = (.loaded k, s)) (hp : (s.takeCopies k).reloadProof s.proofsOn = { s.takeCopies k with proof := p, notices := n }) :
    s.reloadCommand = s.reloaded k p n := by
  unfold State.reloadCommand State.reloaded
  rw [hr]
  dsimp only
  rw [hp, ← Scanner.reloadTimer, ← ofNat_longAt]
  exact State.endCommand_free (by exact hb) _

/-- A RELOAD taken and carried out: the copies replaced, and by cases what becomes of the proof. -/
theorem State.reloadWrite_loaded {s : State} {k : Holding} (hb : s.desk.busy = none) (hc : s.desk.controller = .halted)
    (ht : s.noTickets) (hs : s.store.records = []) (hr : s.readDesk = (.loaded k, s)) :
    ∃ p n, s.reloadWrite = s.reloaded k p n ∧ p.baseline = s.proof.baseline
      ∧ (s.proofsOn = (s.reloaded k p n).proofsOn → p = { s.proof with glyphs := k.glyphs } ∧ n = s.notices)
      ∧ (s.proofsOn = true → (s.reloaded k p n).proofsOn = false →
        p = { s.proof with
          glyphs := k.glyphs, bandA := Band.initial, bandB := Band.initial, sending := none, drawing := none, timer := 0
          printer := false, dropping := false, separatorDue := false
          printerRow := (s.proof.sending.map fun x => 16 * x.band + 16).getD s.proof.printerRow }
        ∧ n = (State.noticeSince .proof { s.reloaded k p n with notices := s.notices } s).notices)
      ∧ (s.proofsOn = false → (s.reloaded k p n).proofsOn = true →
        p = { s.proof with glyphs := k.glyphs, printer := s.pins.pfault || s.pins.busyLong }
        ∧ n = (State.noticeSince .proof { s.reloaded k p n with notices := s.notices } s).notices) := by
  obtain ⟨p, n, hp, baseline, same, disabled, enabled⟩ := State.reloadProof_cases (s.takeCopies k) s.proofsOn
  refine ⟨p, n, (State.reloadWrite_taken hb hc ht hs).trans (State.reloadCommand_loaded hb hr hp), baseline, ?_⟩
  rw [State.reloaded_proofsOn]
  refine ⟨same, fun hon hoff => ?_, fun hoff hon => ?_⟩
  · obtain ⟨rfl, rfl⟩ := disabled hon hoff
    refine ⟨?_, State.noticeSince_notices_congr rfl rfl rfl rfl⟩
    cases hse : s.proof.sending <;> simp [ProofRenderer.abandon, State.takeCopies, hse]
  · obtain ⟨rfl, rfl⟩ := enabled hoff hon
    exact ⟨rfl, State.noticeSince_notices_congr rfl rfl rfl rfl⟩

/-- Settles O21, by the two outcomes of the reads. -/
theorem reloadReplacesTheCopies : Obligations.ReloadReplacesTheCopies := by
  intro s operand hb hc ht hs h b g glyphs setup
  refine ⟨fun hl => congrArg Host.Outcome.next ((State.reloadWrite_taken hb hc ht hs).trans ?_), fun hl hx => ?_⟩
  · rw [State.reloadCommand, State.readDesk_failed h hl]
    exact State.endCommand_free hb _
  have hr := State.readDesk_loaded (b := b) (g := g) h rfl rfl hl hx
  obtain ⟨p, n, hw, baseline, same, disabled, enabled⟩ := State.reloadWrite_loaded hb hc ht hs hr
  exact ⟨_, congrArg Host.Outcome.next hw, rfl, rfl, rfl, rfl, same, disabled, enabled, rfl, rfl, rfl, rfl, rfl,
    rfl, rfl, rfl, baseline, rfl, rfl, h, rfl, rfl⟩

end Sys2Proof.Machine
end

section
/-! The scan of the Tray: what it passes, and how it ends (R14, R23 to R26). -/

namespace Sys2Proof.Machine

/-! ### Slots a scan passes (R25) -/

/-- A scan has nothing to do at a slot: it belongs to a ticket in flight, is not FILED, or holds a sequence ahead of its class's
next one. -/
def State.scanPasses (s : State) (slot : Nat) : Prop :=
  s.slotInFlight slot = true ∨ byteAt (s.bytes (s.slotAddr slot 0) 6) 0 ≠ 1
    ∨ 32768 ≤ ((if byteAt (s.bytes (s.slotAddr slot 0) 6) 2 = 1 then s.scanner.nextFlash else s.scanner.nextRoutine)
      - halfAt (s.bytes (s.slotAddr slot 0) 6) 4).toNat

theorem State.slotInFlight_iff (s : State) (slot : Nat) : s.slotInFlight slot = true ↔
    ∃ (i : Fin 8) (e : Entry), s.flight[i] = some e ∧ e.slot = slot := by
  simp only [State.slotInFlight, List.any_eq_true]
  constructor
  · rintro ⟨x, hx, h⟩
    obtain ⟨i, hi, rfl⟩ := List.getElem_of_mem hx
    cases he : s.flight.toList[i] with
    | none => rw [he] at h; cases h
    | some e => exact ⟨⟨i, by simpa using hi⟩, e, by simpa using he, by rw [he] at h; simpa using h⟩
  · rintro ⟨i, e, he, hs⟩
    exact ⟨some e, Vector.mem_toList_iff.2 (Vector.mem_iff_getElem.2 ⟨i, i.isLt, he⟩), by simpa using hs⟩

/-- The class's next sequence, by the byte that gives the class. -/
theorem Scanner.next_classOf (c : Scanner) (b : Byte) : c.next (classOf b) = if b = 1 then c.nextFlash else c.nextRoutine := by
  unfold classOf
  split <;> rfl

/-- A slot passed leaves the scan as it was. -/
theorem State.scanSlots_pass {s : State} {slot : Nat} (h : s.bus = none) (hp : s.scanPasses slot) (routine : Bool) (rest : List Nat)
    (rem : Option (Nat × Half)) : State.scanSlots routine (slot :: rest) rem s = State.scanSlots routine rest rem s := by
  rw [State.scanSlots]
  split
  · rfl
  next hf =>
  rw [s.busRead_none _ _ h]
  dsimp only
  split
  · rfl
  next hb =>
  have ahead : 32768 ≤ (s.scanner.next (classOf (byteAt (s.bytes (s.slotAddr slot 0) 6) 2))
      - halfAt (s.bytes (s.slotAddr slot 0) 6) 4).toNat := by
    rw [Scanner.next_classOf]
    rcases hp with hp | hp | hp
    · exact absurd hp hf
    · exact absurd hp hb
    · exact hp
  rw [if_neg (by omega), if_neg (by omega)]

/-- Slots passed one after another. -/
theorem State.scanSlots_passes {s : State} (h : s.bus = none) (routine : Bool) (rest : List Nat) (rem : Option (Nat × Half))
    {slots : List Nat} (hp : ∀ k ∈ slots, s.scanPasses k) :
    State.scanSlots routine (slots ++ rest) rem s = State.scanSlots routine rest rem s := by
  induction slots with
  | nil => rfl
  | cons k slots ih =>
    rw [List.cons_append, State.scanSlots_pass h (hp k (List.mem_cons_self ..)), ih fun j hj => hp j (List.mem_cons_of_mem _ hj)]

/-- A scan that passes every slot ends with no ticket taken. -/
theorem State.scanTray_nothing {s : State} (h : s.bus = none) (hp : ∀ k < 32, s.scanPasses k) (flashOnly : Bool) :
    s.scanTray flashOnly = (.nothing, s) := by
  have := State.scanSlots_passes h (!flashOnly && s.scanner.state == .idle) [] none (slots := List.range 32)
    fun k hk => hp k (List.mem_range.1 hk)
  rw [List.append_nil] at this
  exact this

/-! ### The end of a scan (R14, R23, R24) -/

theorem State.expireHeldTimer_none {s : State} (h : s.scanner.timerAtOne = false) : s.expireHeldTimer = s := by
  rw [State.expireHeldTimer, h]
  rfl

theorem State.sequenceGoesOn_none {s : State} (h : ∀ r f, s.desk.busy ≠ some (.sequence r f)) : s.sequenceGoesOn = s := by
  unfold State.sequenceGoesOn
  split
  next r f e => exact absurd e (h r f)
  · rfl

theorem State.sequenceGoesOn_waiting {s : State} {r f : Half} (h : s.desk.busy = some (.sequence r f)) :
    s.sequenceGoesOn = s.finishSequence r f := by
  simp only [State.sequenceGoesOn, h]

/-- With no timer held at 1 and no trigger remembered, a scan's end lets a waiting SEQUENCE go on and does no more. -/
theorem State.endScan_quiet {s : State} (hp : s.scanner.pendingFlag = false) (ht : s.scanner.timerAtOne = false) :
    s.endScan = (s.modScanner fun c => { c with inFlight := false }).sequenceGoesOn := by
  rw [State.endScan, State.expireHeldTimer_none (by exact ht), State.testPending_none (by exact hp)]

/-- A scan in flight that no Desk fault holds is made. -/
theorem State.scanStep_made {s : State} (hf : s.scanner.inFlight = true) (hh : s.scanner.held = none) :
    s.scanStep = s.runScan.composerRun := by
  simp [State.scanStep, hf, hh]

theorem State.runScan_ends {s t : State} {e : ScanEnd} (hf : s.scanner.inFlight = true) (hh : s.scanner.held = none)
    (ht : s.scanTray false = (e, t)) (he : e ≠ .fault) : s.runScan = t.endScan := by
  unfold State.runScan
  rw [hf, hh, ht]
  cases e with
  | fault => exact absurd rfl he
  | _ => rfl

theorem State.runScan_fault {s t : State} (hf : s.scanner.inFlight = true) (hh : s.scanner.held = none)
    (ht : s.scanTray false = (.fault, t)) : s.runScan = t.sequenceGoesOn := by
  unfold State.runScan
  rw [hf, hh, ht]
  rfl

/-- Settles O29. -/
theorem scanWithNothingToActOnEnds : Obligations.ScanWithNothingToActOnEnds := by
  intro s h hf hh hp ht hb hr hs
  have passes : ∀ k < 32, s.scanPasses k := fun k hk => by
    have := hs k hk
    rw [← State.slotInFlight_iff] at this
    exact this
  refine congrArg Host.Outcome.next ((State.scanStep_made hf hh).trans ?_)
  rw [State.runScan_ends hf hh (State.scanTray_nothing h passes false) nofun, State.endScan_quiet hp ht,
    State.sequenceGoesOn_none (by exact hb), State.composerRun_atRest (by exact hr)]

end Sys2Proof.Machine
end

section
/-! SEQUENCE (R14). -/

namespace Sys2Proof.Machine

/-- SEQUENCE's condition holds of an idle scanner with nothing in flight; the presets are read. -/
theorem State.sequenceWrite_reads {s : State} (hb : s.desk.busy = none) (hst : s.scanner.state = .idle) (ht : s.noTickets)
    (h : s.bus = none) : s.sequenceWrite =
      if s.scanner.inFlight && s.scanner.held.isNone then
        s.modDesk fun d => { d with
          busy := some (.sequence (halfAt (s.bytes (s.deskAddr 0x0C) 4) 0) (halfAt (s.bytes (s.deskAddr 0x0C) 4) 2)) }
      else s.finishSequence (halfAt (s.bytes (s.deskAddr 0x0C) 4) 0) (halfAt (s.bytes (s.deskAddr 0x0C) 4) 2) := by
  refine (State.commandWrite_taken hb (by simp [hst, s.flightEmpty_iff.2 ht])).trans ?_
  rw [State.sequenceCommand, s.busRead_none _ _ h]

/-- The presets loaded with no scan in flight: a scan starts if the controller is RUNNING. -/
theorem State.finishSequence_scans {s : State} (hst : s.scanner.state = .idle) (ht : s.noTickets) (hf : s.scanner.inFlight = false)
    (r f : Half) : s.finishSequence r f = (s.modScanner fun c => { c with
      nextRoutine := r, nextFlash := f, inFlight := s.desk.controller == .running }).endCommand .accepted := by
  unfold State.finishSequence
  dsimp only
  by_cases hc : s.desk.controller = .running
  · rw [if_pos (by exact hc), State.trigger_atRest (s := s.modScanner _) (by exact hc) (by exact ht) (by exact hst) (by exact hf), hc]
    rfl
  · rw [if_neg (by exact hc)]
    have : (s.desk.controller == .running) = s.scanner.inFlight := by simpa [hf] using hc
    rw [this]
    rfl

/-- The presets loaded while a scan that a Desk fault holds is in flight: a trigger is remembered if the controller is RUNNING. -/
theorem State.finishSequence_remembers {s : State} (hf : s.scanner.inFlight = true) (r f : Half) :
    s.finishSequence r f = (s.modScanner fun c => { c with
      nextRoutine := r, nextFlash := f, pendingFlag := c.pendingFlag || s.desk.controller == .running }).endCommand .accepted := by
  unfold State.finishSequence
  dsimp only
  by_cases hc : s.desk.controller = .running
  · rw [if_pos (by exact hc), State.trigger_remembered (by simp [hc]) (by simp [State.scanHindered, hf]), hc]
    simp [State.modScanner]
  · rw [if_neg (by exact hc)]
    have : (s.desk.controller == .running) = false := by simpa using hc
    rw [this]
    simp [State.modScanner]

/-- Settles O22: SEQUENCE at once, waiting for a scan, over a held scan, and at the end of the scan it waited for. -/
theorem sequenceLoadsThePresets : Obligations.SequenceLoadsThePresets := by
  constructor
  · intro s operand hb hst ht h presets
    refine ⟨fun hf => ?_, fun hf hh => ?_, fun hf hh => ?_⟩
    · refine congrArg Host.Outcome.next ((State.sequenceWrite_reads hb hst ht h).trans ?_)
      rw [hf, if_neg (by simp), State.finishSequence_scans hst ht hf]
      exact State.endCommand_free (by exact hb) _
    · refine congrArg Host.Outcome.next ((State.sequenceWrite_reads hb hst ht h).trans ?_)
      rw [if_pos (by simp [hf, hh])]
    · refine congrArg Host.Outcome.next ((State.sequenceWrite_reads hb hst ht h).trans ?_)
      rw [if_neg (by simpa [hf] using hh), State.finishSequence_remembers hf]
      exact State.endCommand_free (by exact hb) _
  · intro s routine flash h hb hst ht hf hh hp htm hr hs
    have passes : ∀ k < 32, s.scanPasses k := fun k hk => .inr (hs k hk)
    refine congrArg Host.Outcome.next ((State.scanStep_made hf hh).trans ?_)
    rw [State.runScan_ends hf hh (State.scanTray_nothing h passes false) nofun, State.endScan_quiet hp htm,
      State.sequenceGoesOn_waiting (by exact hb), State.finishSequence_scans (s := s.modScanner _) (by exact hst) (by exact ht) rfl,
      State.composerRun_atRest (by exact hr)]
    exact State.settle_empty _ ht

end Sys2Proof.Machine
end

section
/-! The settling of the Flight Table, and the writes of results and notice records (R19, R20, R26, R34). -/

namespace Sys2Proof.Machine

/-! ### Settling (R34) -/

/-- An entry after the complete ones have fallen due. -/
def State.dueEntry (s : State) (i : Fin 8) (e : Entry) : Entry :=
  { e with
    due := e.due || (decide (s.desk.controller = .running) && e.finished && (e.outstanding == 0)
      && (s.composer.ticket != some i) && (s.composer.preempt != some i)) }

theorem State.markDue_flight (s : State) (i : Fin 8) : s.markDue.flight[i] = (s.flight[i]).map (s.dueEntry i) := by
  unfold State.markDue
  split
  next hr =>
    simp only [State.modFlight_flight, Fin.getElem_fin, Vector.getElem_ofFn]
    congr 1
    funext e
    simp only [State.dueEntry, Entry.complete, State.stillAppending, hr, decide_true, Bool.true_and, Bool.not_or, Bool.and_assoc]
    rfl
  next hr =>
    have : s.dueEntry i = id := by
      funext e
      simp [State.dueEntry, hr]
    rw [this, Option.map_id_fun, id]

@[simp] theorem State.beginResult_flight (s : State) : s.beginResult.flight = s.flight := by
  unfold State.beginResult
  repeat' split
  all_goals rfl

theorem State.settle_flight (s : State) (i : Fin 8) : s.settle.flight[i] = (s.flight[i]).map (s.dueEntry i) := by
  rw [← State.markDue_flight, State.settle, State.beginResult_flight]

theorem State.mem_dueEntries {s : State} {i : Fin 8} : i ∈ s.dueEntries ↔ ∃ e, s.flight[i] = some e ∧ e.due = true := by
  have : i ∈ s.dueEntries ↔ ((s.flight[i]).map fun e => e.due).getD false = true := by simp [State.dueEntries]
  rw [this]
  cases s.flight[i] <;> simp

/-- A due entry is chosen whenever there is one, and only such an entry. -/
theorem State.chosenDue_cases (s : State) :
    (s.dueEntries = [] ∧ s.chosenDue = none) ∨ ∃ i ∈ s.dueEntries, s.chosenDue = some i := by
  unfold State.chosenDue
  split
  next h => exact .inl ⟨h, rfl⟩
  next i h => exact .inr ⟨i, by simp [h], rfl⟩
  next h _ =>
    have hl : Config.resultOrder s.freeCounter % s.dueEntries.length < s.dueEntries.length :=
      Nat.mod_lt _ (List.length_pos_iff.2 h)
    exact .inr ⟨_, List.getElem_mem hl, List.getElem?_eq_getElem hl⟩

/-- A write in flight stays the one in flight. -/
theorem State.beginResult_busy {s : State} {w : ResultWrite} (h : s.resultWrite = some w) : s.beginResult = s := by
  simp only [State.beginResult, h]

theorem State.beginResult_cases {s : State} (h : s.resultWrite = none) :
    (s.dueEntries = [] ∧ s.beginResult.resultWrite = none)
      ∨ ∃ i e, s.flight[i] = some e ∧ e.due = true ∧ s.beginResult.resultWrite = some ⟨i, e.final, false⟩ := by
  rcases s.chosenDue_cases with ⟨hd, hc⟩ | ⟨i, hi, hc⟩
  · exact .inl ⟨hd, by simp only [State.beginResult, h, hc]⟩
  · obtain ⟨e, he, hdue⟩ := State.mem_dueEntries.1 hi
    refine .inr ⟨i, e, he, hdue, ?_⟩
    simp only [State.beginResult, h, hc, he]
    rfl

@[simp] theorem State.markDue_resultWrite (s : State) : s.markDue.resultWrite = s.resultWrite := by
  unfold State.markDue
  split <;> rfl

/-- Settles O28. -/
theorem settleBeginsTheResultWriteOfADueEntry : Obligations.SettleBeginsTheResultWriteOfADueEntry := by
  intro s
  have same : ∀ i : Fin 8, s.settle.flight[i] = s.markDue.flight[i] := fun i => by rw [State.settle, State.beginResult_flight]
  refine ⟨fun i e he => ?_, fun i h => ?_, fun w h => ?_, fun h => ?_, fun h hn => ?_, ?_⟩
  · rw [State.settle_flight, he]
    rfl
  · rw [State.settle_flight, h]
    rfl
  · rw [State.settle, State.beginResult_busy (by rw [State.markDue_resultWrite, h]), State.markDue_resultWrite, h]
  · rintro ⟨i, e, he, hdue⟩
    rcases State.beginResult_cases (s := s.markDue) (by rw [State.markDue_resultWrite, h]) with ⟨hd, -⟩ | ⟨j, f, hf, hfd, hw⟩
    · rw [same] at he
      have := State.mem_dueEntries.2 ⟨e, he, hdue⟩
      rw [hd] at this
      cases this
    · exact ⟨j, f, by rw [same]; exact hf, hfd, hw⟩
  · rcases State.beginResult_cases (s := s.markDue) (by rw [State.markDue_resultWrite, h]) with ⟨-, hw⟩ | ⟨j, f, hf, hfd, -⟩
    · exact hw
    · rw [hn j f (by rw [same]; exact hf)] at hfd
      cases hfd
  · unfold State.settle State.beginResult State.markDue
    repeat' split
    all_goals rfl

end Sys2Proof.Machine
end

section
/-! The writes of results and of notice records, and their bus errors (R19, R20, R34). -/

namespace Sys2Proof.Machine

/-! ### A slot's addresses -/

theorem State.slotAddr_toNat (s : State) (slot n : Nat) : (s.slotAddr slot n).toNat =
    s.desk.base.toNat * 65536 + (s.desk.areas.tray.toNat + (64 * slot + n)) % 65536 := by
  rw [State.slotAddr, State.areaAddr, State.deskAddr_toNat, BitVec.toNat_add, BitVec.toNat_ofNat, Nat.add_mod_mod]

/-- Every slot's state byte lies outside the result bytes of each slot. -/
theorem State.slotAddr_outside_of (s : State) (k slot : Nat) : outsideRun (s.slotAddr k 0) (s.slotAddr slot 0x18) 24 := by
  intro i hi h
  have := congrArg BitVec.toNat h
  rw [Addr.plus, BitVec.toNat_add, s.slotAddr_toNat, s.slotAddr_toNat, BitVec.toNat_ofNat] at this
  have := s.desk.base.isLt
  omega

theorem State.slotAddr_outside (s : State) (slot : Nat) : outsideRun (s.slotAddr slot 0) (s.slotAddr slot 0x18) 24 :=
  s.slotAddr_outside_of slot slot

/-- The slots of the Tray have state bytes of their own. -/
theorem State.slotAddr_ne (s : State) {k slot : Nat} (h : k ≠ slot) (hk : k < 32) (hs : slot < 32) :
    s.slotAddr k 0 ≠ s.slotAddr slot 0 := by
  intro e
  have := congrArg BitVec.toNat e
  rw [s.slotAddr_toNat, s.slotAddr_toNat] at this
  omega

/-! ### Results written (R34, R173) -/

theorem Results.bytes_length (r : Results) : r.bytes.length = 24 := rfl

/-- The result bytes of a slot and then its state byte. -/
def State.writeSlot (s : State) (slot : Nat) (results : List Byte) (v : Byte) : State :=
  (s.storeBytes (s.slotAddr slot 0x18) results).storeBytes (s.slotAddr slot 0) [v]

theorem State.writeSlot_state {s : State} (h : s.memoryLaw) (slot : Nat) (results : List Byte) (v : Byte) :
    (s.writeSlot slot results v).byte (s.slotAddr slot 0) = v := by
  have := State.storeBytes_self (s.slotAddr slot 0) [v] (s.storeBytes (s.slotAddr slot 0x18) results)
    (State.storeBytes_wf _ _ _ h) (by simp) 0 (by simp)
  simpa [Addr.plus, State.writeSlot] using this

theorem State.writeSlot_results {s : State} (h : s.memoryLaw) (slot : Nat) {results : List Byte} (hl : results.length = 24) (v : Byte)
    {n : Nat} (hn : n < 24) : some ((s.writeSlot slot results v).byte (Addr.plus (s.slotAddr slot 0x18) n)) = results[n]? := by
  rw [State.writeSlot, State.storeBytes_other, State.storeBytes_self _ _ _ h (by omega) n (by omega), List.getElem?_eq_getElem (by omega)]
  intro i hi e
  obtain rfl : i = 0 := by simpa using hi
  exact s.slotAddr_outside slot n hn (by simpa [Addr.plus] using e.symm)

theorem State.writeSlot_other (s : State) (slot : Nat) {results : List Byte} (hl : results.length = 24) (v : Byte) {a : Addr}
    (ha : outsideRun a (s.slotAddr slot 0x18) 24) (h0 : a ≠ s.slotAddr slot 0) : (s.writeSlot slot results v).byte a = s.byte a := by
  rw [State.writeSlot, State.storeBytes_other, State.storeBytes_other]
  · exact fun i hi => ha i (by omega)
  · intro i hi
    obtain rfl : i = 0 := by simpa using hi
    simpa [Addr.plus] using h0

/-- With every access acknowledged, the results and then the state byte are written. -/
theorem State.writeResults_none {s : State} (h : s.bus = none) (slot : Nat) (r : Results) (v : Byte) :
    s.writeResults slot r v = (true, s.writeSlot slot r.bytes v) := by
  rw [State.writeResults, s.busWrite_none _ _ h]
  dsimp only
  rw [if_pos rfl, State.busWrite_none _ _ _ (by rw [State.storeBytes_bus, h])]
  rfl

theorem State.endWaitingCancel_none {s : State} {i : Fin 8} (h : s.desk.busy ≠ some (.cancel i)) : s.endWaitingCancel i = s := by
  unfold State.endWaitingCancel State.cancelWaiting
  split
  next j hj => exact if_neg fun e => h (by rw [hj, Option.some.inj e])
  · exact if_neg nofun

/-- A table with an entry free is not full. -/
theorem State.flightFull_of_free {s : State} {j : Fin 8} (h : s.flight[j] = none) : s.flightFull = false := by
  by_contra hf
  exact s.flightFull_iff.1 (by simpa using hf) j h

/-- Settles O25. -/
theorem resultWriteCompletes : Obligations.ResultWriteCompletes := by
  rintro s i e f h hw he ⟨j, hj⟩ hc
  let t := ((((s.writeSlot e.slot (e.results f).bytes f.code).modFlight fun v => v.set i.val none).setResultWrite none).modDesk
    fun d => { d with events := d.events ||| 1#4 })
  have ht : s.writeResult = t.settle := by
    unfold State.writeResult
    rw [hw]
    dsimp only
    rw [he]
    dsimp only
    rw [State.writeResults_none h, State.flightFull_of_free hj]
    dsimp only
    rw [if_pos rfl, if_neg (by simp), State.endWaitingCancel_none (by simpa [State.writeSlot] using hc)]
    rfl
  have hm : ∀ a, t.settle.byte a = (s.writeSlot e.slot (e.results f).bytes f.code).byte a := fun a => by
    rw [State.byte, State.settle_mem]
    rfl
  refine ⟨_, congrArg Host.Outcome.next ht, rfl, fun hl => ?_, fun hl n hn => ?_, fun a ha h0 => ?_⟩
  · rw [hm, State.writeSlot_state hl]
  · rw [hm, State.writeSlot_results hl _ (Results.bytes_length _) _ hn]
  · rw [hm, State.writeSlot_other _ _ (Results.bytes_length _) _ ha h0]

end Sys2Proof.Machine
end

section
/-! Notice writes (R9, R19, R20). -/

namespace Sys2Proof.Machine

/-! ### The writers of the notice records -/

theorem Notices.modWriter_writer (x : Notices) (o p : Owner) (f : NoticeWriter → NoticeWriter) :
    (x.modWriter o f).writer p = if p = o then f (x.writer o) else x.writer p := by
  cases o <;> cases p <;> rfl

/-- A change of one writer leaves what the records should show. -/
theorem State.noticeShown_modWriter (s : State) (o p : Owner) (f : NoticeWriter → NoticeWriter) :
    (s.modNotices fun x => x.modWriter o f).noticeShown p = s.noticeShown p := by
  cases o <;> cases p <;> rfl

theorem Notices.modWriter_modWriter (x : Notices) (o : Owner) (f g : NoticeWriter → NoticeWriter) :
    (x.modWriter o f).modWriter o g = x.modWriter o fun w => g (f w) := by
  cases o <;> rfl

theorem Notices.modWriter_congr {x : Notices} {o : Owner} {f g : NoticeWriter → NoticeWriter} (h : f (x.writer o) = g (x.writer o)) :
    x.modWriter o f = x.modWriter o g := by
  cases o <;> simp only [Notices.modWriter, Notices.writer] at h ⊢ <;> rw [h]

theorem State.noticesDone_iff (s : State) : s.noticesDone = true ↔ ∀ o, (s.notices.writer o).inFlight = none := by
  have key : s.noticesDone = true ↔ s.notices.photoUnit.inFlight = none ∧ s.notices.film.inFlight = none
      ∧ s.notices.proof.inFlight = none := by
    simp [State.noticesDone, NoticeWriter.busy, and_assoc]
  rw [key]
  exact ⟨fun ⟨hp, hf, hr⟩ o => by cases o <;> assumption, fun h => ⟨h .photoUnit, h .film, h .proof⟩⟩

/-- The state a notice write leaves: the record written, NOTICE set, and the record written once more if it should show something
else. -/
def State.noticeWritten (s : State) (o : Owner) (n : Notice) : State :=
  ((s.storeBytes (s.noticeAddr o) n.bytes).modDesk fun d => { d with events := d.events ||| 2#4 }).modNotices
    fun x => x.modWriter o fun _ => ⟨some n, if s.noticeShown o = n then none else some (s.noticeShown o), false⟩

theorem State.noticeShown_storeBytes (s : State) (a : Addr) (bs : List Byte) (o : Owner) :
    (s.storeBytes a bs).noticeShown o = s.noticeShown o := by
  cases o <;> simp [State.noticeShown, State.conditions]

theorem State.modNotices_congr {s : State} {f g : Notices → Notices} (h : f s.notices = g s.notices) :
    s.modNotices f = s.modNotices g :=
  congrArg (fun x => { s with notices := x }) h

theorem State.modNotices_modNotices (s : State) (f g : Notices → Notices) :
    (s.modNotices f).modNotices g = s.modNotices fun x => g (f x) := rfl

/-- The write once more, where the record should show something else by its end. -/
theorem State.renotice_written {s : State} {o : Owner} {n : Notice} (hh : (s.notices.writer o).held = false) :
    (s.modNotices fun x => x.modWriter o fun w => { w with written := some n, inFlight := none }).renotice o =
      s.modNotices fun x => x.modWriter o fun _ => ⟨some n, if s.noticeShown o = n then none else some (s.noticeShown o), false⟩ := by
  rw [State.renotice, State.beginNotice, State.noticeShown_modWriter]
  simp only [State.modNotices_notices, Notices.modWriter_writer, if_true, bne_iff_ne, ne_eq, Option.some.injEq]
  by_cases e : s.noticeShown o = n
  · rw [if_neg (by simp [e])]
    exact State.modNotices_congr (Notices.modWriter_congr (by rw [if_pos e, hh]))
  · rw [if_pos (fun h => e h.symm)]
    rw [if_neg e, State.modNotices_modNotices]
    exact State.modNotices_congr (Notices.modWriter_modWriter ..)

/-- A notice write that is acknowledged, up to step 5 of START. -/
theorem State.writeNotice_none {s : State} {o : Owner} {n : Notice} (h : s.bus = none) (hn : (s.notices.writer o).inFlight = some n)
    (hh : (s.notices.writer o).held = false) :
    s.writeNotice o =
      if s.starting && s.desk.startStep == some .notices && (s.noticeWritten o n).noticesDone then (s.noticeWritten o n).startEnds
      else s.noticeWritten o n := by
  let w := (s.storeBytes (s.noticeAddr o) n.bytes).modDesk fun d => { d with events := d.events ||| 2#4 }
  have again : (w.modNotices fun x => x.modWriter o fun w => { w with written := some n, inFlight := none }).renotice o =
      s.noticeWritten o n := by
    have shown : w.noticeShown o = s.noticeShown o := s.noticeShown_storeBytes (s.noticeAddr o) n.bytes o
    rw [State.renotice_written (by simpa [w] using hh), shown]
    rfl
  have starts : (s.storeBytes (s.noticeAddr o) n.bytes).starting = s.starting := by
    simp only [State.starting, State.storeBytes_desk]
  unfold State.writeNotice
  dsimp only
  rw [hn, hh]
  dsimp only
  rw [s.busWrite_none _ _ h]
  dsimp only
  rw [if_pos rfl, starts, State.storeBytes_desk, ← again]
  rfl

/-- Step 5 of START, with nothing to hinder its scan. -/
theorem State.startEnds_scans {s : State} (hst : s.scanner.state ≠ .locked) (hf : s.scanner.inFlight = false)
    (hp : s.scanner.pendingFlag = false) {j : Fin 8} (hj : s.flight[j] = none) :
    s.startEnds = { s with
      desk := { s.desk with
        controller := .running, cause := .none, startStep := none, started := true, busy := none, result := .accepted
        events := s.desk.events ||| 8#4 }
      scanner := { s.scanner with timer := s.desk.setup.rescan, timerAtOne := false, inFlight := true } } := by
  let t := (s.modDesk fun d => { d with controller := .running, cause := .none, startStep := none, started := true }).modScanner
    fun c => { c with timer := s.desk.setup.rescan, timerAtOne := false }
  have hs : t.scanHindered = false := by
    have full : t.flightFull = false := State.flightFull_of_free hj
    simp [State.scanHindered, full, t, hst, hf]
  have ht : t.trigger.testPending = t.modScanner fun c => { c with inFlight := true } := by
    rw [State.trigger_scans (s := t) Controller.noConfusion hs, State.testPending_none (by exact hp)]
  change t.trigger.testPending.endCommand .accepted = _
  rw [ht]
  rfl

/-- The writes of the records once one of them is done, but for the one begun again. -/
theorem State.noticeWritten_done (s : State) (o : Owner) (n : Notice) : (s.noticeWritten o n).noticesDone = true ↔
    s.noticeShown o = n ∧ ∀ p : Owner, p ≠ o → (s.notices.writer p).inFlight = none := by
  simp only [State.noticesDone_iff, State.noticeWritten, State.modNotices_notices, State.modDesk_notices, State.storeBytes_notices,
    Notices.modWriter_writer]
  constructor
  · refine fun h => ⟨?_, fun p hp => ?_⟩
    · have := h o
      rw [if_pos rfl] at this
      by_contra hne
      rw [if_neg hne] at this
      cases this
    · have := h p
      rwa [if_neg hp] at this
  · rintro ⟨hs, hq⟩ p
    split
    · rfl
    next hp => exact hq p hp

/-- Settles O26, by whether the write is the last of START's step 4. -/
theorem noticeWriteCompletes : Obligations.NoticeWriteCompletes := by
  intro s o n h hn hh written last
  have hw := State.writeNotice_none h hn hh
  have hb : n.bytes.length = 8 := by cases n <;> rfl
  refine ⟨fun hl => ⟨_, congrArg Host.Outcome.next (hw.trans (if_neg ?_)), rfl, fun hm k hk => ?_, fun a ha => ?_⟩,
    fun hs hstart hl hst hf hp hj => congrArg Host.Outcome.next ?_⟩
  · rw [Bool.and_eq_true, State.noticeWritten_done, Bool.and_eq_true, beq_iff_eq]
    rintro ⟨⟨-, hs⟩, hd⟩
    exact hl.elim (fun h => h hs) (fun h => h hd)
  · have := State.storeBytes_self (s.noticeAddr o) n.bytes s hm (by omega) k (by omega)
    rw [List.getElem?_eq_getElem (by omega), ← this]
    rfl
  · exact State.storeBytes_other (s.noticeAddr o) n.bytes s a fun i hi => ha i (by omega)
  · obtain ⟨j, hj⟩ := hj
    have starting : s.starting = true := by
      rcases hstart with hb | hb <;> simp [State.starting, hb]
    have done : (s.noticeWritten o n).noticesDone = true := (State.noticeWritten_done s o n).2 hl
    rw [hw, if_pos (by simp [starting, hs, done]), State.startEnds_scans (j := j)]
    · simp [State.noticeWritten, written]
    · simpa [State.noticeWritten] using hst
    · simpa [State.noticeWritten] using hf
    · simpa [State.noticeWritten] using hp
    · simpa [State.noticeWritten] using hj

end Sys2Proof.Machine
end

section
/-! Bus errors in a result write, and at the locked write of TAKEN (R19, R26, R34). -/

namespace Sys2Proof.Machine

/-! ### The armed bus -/

theorem State.storeBytes_nil (a : Addr) (s : State) : s.storeBytes a [] = s := rfl

/-- A store changes memory alone. -/
theorem State.storeBytes_eq (a : Addr) (bs : List Byte) (s : State) : s.storeBytes a bs = { s with mem := (s.storeBytes a bs).mem } := by
  induction bs generalizing a s with
  | nil => rfl
  | cons v rest ih => exact ih (Addr.plus a 1) (s.modMem fun m => Memory.write m a.toNat v)

/-- A store does not ask whether the bus is armed. -/
theorem State.storeBytes_setBus (a : Addr) (bs : List Byte) (s : State) (x : Option BusFault) :
    (s.setBus x).storeBytes a bs = (s.storeBytes a bs).setBus x := by
  induction bs generalizing a s with
  | nil => rfl
  | cons v rest ih => exact ih _ (s.modMem fun m => Memory.write m a.toNat v)

theorem State.setBus_same {s : State} {x : Option BusFault} (h : s.bus = x) : s.setBus x = s := by
  rw [← h]
  rfl

theorem State.setBus_setBus (s : State) (x y : Option BusFault) : (s.setBus x).setBus y = s.setBus y := rfl

/-- A read within the bytes still to be acknowledged. -/
theorem State.busRead_acked (s : State) (a : Addr) {n k : Nat} {l : Bool} {m : List (Nat × Bool)} (h : n ≤ k) :
    (s.setBus (some ⟨k, l, m⟩)).busRead a n = (some (s.bytes a n), s.setBus (some ⟨k - n, l, m⟩)) := by
  simp only [State.busRead, State.setBus_bus, if_pos h]
  rfl

/-- A write within the bytes still to be acknowledged. -/
theorem State.busWrite_acked (s : State) (a : Addr) {bs : List Byte} {k : Nat} {l : Bool} {m : List (Nat × Bool)} (h : bs.length ≤ k) :
    (s.setBus (some ⟨k, l, m⟩)).busWrite a bs = (true, (s.storeBytes a bs).setBus (some ⟨k - bs.length, l, m⟩)) := by
  simp only [State.busWrite, State.setBus_bus, if_pos h, State.storeBytes_setBus, State.setBus_setBus]

/-- The write that meets the one failing access stores the bytes acknowledged before it. -/
theorem State.busWrite_failing {s : State} (hb : s.bus = none) (a : Addr) {bs : List Byte} {k : Nat} {l : Bool} (h : k < bs.length) :
    (s.setBus (some ⟨k, l, []⟩)).busWrite a bs = (false, s.storeBytes a (bs.take k)) := by
  rw [State.busWrite_fails _ a bs ⟨k, l, []⟩ rfl h, State.storeBytes_setBus, State.setBus_setBus]
  exact congrArg (Prod.mk false) (State.setBus_same (by rw [State.storeBytes_bus, hb]; rfl))

/-- A step that meets its one failing access ends as it does with the bus armed for it. -/
theorem State.failStep_met {s t : State} {during : BusStep} {k : Nat} {l : Bool} (hd : BusStep.later during = [])
    (h : State.stepOf during (s.setBus (some ⟨k, l, []⟩)) = t) (ht : t.bus = none) : s.failStep during k l = t := by
  unfold State.failStep
  rw [hd, h]
  exact if_pos ht

/-- A Desk fault of a RUNNING controller. -/
theorem State.fault_running {s : State} (h : s.desk.controller = .running) (c : HaltCause) :
    s.fault c = s.modDesk fun d => { d with controller := .halted, cause := c, events := d.events ||| 4#4 } := by
  simp only [State.fault, h]
  rfl

/-! ### A result write (R34) -/

theorem State.writeResults_of_first {s t : State} {slot : Nat} {r : Results} {v : Byte}
    (h : s.busWrite (s.slotAddr slot 0x18) r.bytes = (false, t)) : s.writeResults slot r v = (false, t) := by
  unfold State.writeResults
  rw [h]
  rfl

theorem State.writeResults_of_second {s t : State} {slot : Nat} {r : Results} {v : Byte}
    (h : s.busWrite (s.slotAddr slot 0x18) r.bytes = (true, t)) :
    s.writeResults slot r v = t.busWrite (t.slotAddr slot 0) [v] := by
  unfold State.writeResults
  rw [h]
  rfl

/-- A result write cut short has stored the result bytes acknowledged, and no state byte. -/
theorem State.writeResults_fails {s : State} (hb : s.bus = none) (slot : Nat) (r : Results) (v : Byte) {k : Nat} {l : Bool} (h : k ≤ 24) :
    (s.setBus (some ⟨k, l, []⟩)).writeResults slot r v = (false, s.storeBytes (s.slotAddr slot 0x18) (r.bytes.take k)) := by
  rcases Nat.lt_or_ge k 24 with hk | hk
  · exact State.writeResults_of_first (State.busWrite_failing hb _ (by rwa [Results.bytes_length]))
  · obtain rfl : k = 24 := Nat.le_antisymm h hk
    have first := State.busWrite_acked s (s.slotAddr slot 0x18) (bs := r.bytes) (l := l) (m := []) (Results.bytes_length r).le
    rw [State.writeResults_of_second first, Results.bytes_length, Nat.sub_self,
      State.busWrite_failing (by rw [State.storeBytes_bus, hb]) _ (by simp), List.take_of_length_le (Results.bytes_length r).le,
      List.take_zero, State.storeBytes_nil]

/-- A result write that meets a bus error with the controller RUNNING. -/
theorem State.writeResult_fails {s : State} {i : Fin 8} {e : Entry} {f : Final} {k : Nat} {l : Bool}
    (hw : s.resultWrite = some ⟨i, f, false⟩) (he : s.flight[i] = some e) (hr : s.desk.controller = .running) (hb : s.desk.busy = none)
    (h : s.bus = none) (hk : k ≤ 24) : (s.setBus (some ⟨k, l, []⟩)).writeResult =
      ((s.storeBytes (s.slotAddr e.slot 0x18) ((e.results f).bytes.take k)).modDesk
        fun d => { d with controller := .halted, cause := .deskFault, events := d.events ||| 4#4 }).setResultWrite
        (some ⟨i, f, true⟩) := by
  unfold State.writeResult
  rw [State.setBus_resultWrite, hw]
  dsimp only
  rw [State.setBus_flight, he]
  dsimp only
  rw [State.writeResults_fails h _ _ _ hk]
  dsimp only
  rw [if_neg (by simp), State.endWaitingCancel_none (by simp [hb]), State.fault_running (by simp [hr])]
  rfl

/-! ### The locked write of TAKEN (R26) -/

/-- The slots from 0 on, cut at one of them. -/
theorem range_split {m n : Nat} (h : m < n) : ∃ rest, List.range n = List.range m ++ m :: rest ∧ ∀ k ∈ rest, m < k ∧ k < n := by
  refine ⟨(List.range (n - m - 1)).map (m + 1 + ·), ?_, fun k hk => ?_⟩
  · have : n = m + (n - m - 1 + 1) := by omega
    conv_lhs => rw [this, List.range_add, List.range_succ_eq_map]
    simp [Function.comp_def, Nat.add_assoc, Nat.add_comm 1]
  · simp only [List.mem_map, List.mem_range] at hk
    omega

/-- With no ticket in flight no slot belongs to one. -/
theorem State.slotInFlight_free (s : State) (ht : s.noTickets) (slot : Nat) : s.slotInFlight slot = false := by
  by_contra h
  obtain ⟨i, e, he, -⟩ := (s.slotInFlight_iff slot).1 (by simpa using h)
  rw [ht i] at he
  cases he

/-- Slots that are not FILED, each read with bytes still to be acknowledged. -/
theorem State.scanSlots_unfiled {s : State} (ht : s.noTickets) (routine : Bool) (rest : List Nat) (rem : Option (Nat × Half)) {k : Nat}
    {l : Bool} {slots : List Nat} (hp : ∀ j ∈ slots, byteAt (s.bytes (s.slotAddr j 0) 6) 0 ≠ 1) :
    State.scanSlots routine (slots ++ rest) rem (s.setBus (some ⟨6 * slots.length + k, l, []⟩)) =
      State.scanSlots routine rest rem (s.setBus (some ⟨k, l, []⟩)) := by
  induction slots with
  | nil => simp
  | cons j slots ih =>
    have free : (s.setBus (some ⟨6 * (slots.length + 1) + k, l, []⟩)).slotInFlight j = false := s.slotInFlight_free ht j
    rw [List.length_cons, List.cons_append, State.scanSlots, if_neg (by simp [free]), State.busRead_acked _ _ (by omega)]
    dsimp only
    rw [if_pos (by exact hp j (List.mem_cons_self ..)), show 6 * (slots.length + 1) + k - 6 = 6 * slots.length + k by omega]
    exact ih fun j hj => hp j (List.mem_cons_of_mem _ hj)

/-- The locked sequence finds the state byte FILED, and writes TAKEN or fails to. -/
theorem State.refuseStale_filed {s t u : State} {slot : Nat} {b : List Byte} {ok : Bool} (again : Bool)
    (hr : s.busRead (s.slotAddr slot 0) 1 = (some b, t)) (hf : byteAt b 0 = filedByte) (hw : t.writeTaken slot = (ok, u)) :
    s.refuseStale slot again = if ok then u.writeRefusal slot .stale else (false, u.holdTray (.staleLock slot)) := by
  simp only [State.refuseStale, hr, hf, hw, true_or, if_true]

/-- The locked sequence of a stale refusal whose write of TAKEN meets a bus error. -/
theorem State.refuseStale_fails {s : State} (hb : s.bus = none) {slot : Nat} {l : Bool} (hf : byteAt (s.bytes (s.slotAddr slot 0) 1) 0 = filedByte) :
    (s.setBus (some ⟨1, l, []⟩)).refuseStale slot false =
      (false, (if l then s.storeBytes (s.slotAddr slot 0) [takenByte] else s).holdTray (.staleLock slot)) := by
  have hr := State.busRead_acked s (s.slotAddr slot 0) (l := l) (m := []) (Nat.le_refl 1)
  have hw := State.writeTaken_fails (s.setBus (some ⟨0, l, []⟩)) slot ⟨0, l, []⟩ rfl rfl
  rw [State.refuseStale_filed false hr hf hw, if_neg (by simp), State.setBus_setBus]
  have hn : s.setBus (BusFault.next ⟨0, l, []⟩) = s := State.setBus_same hb
  rw [hn]
  rfl

/-- The scan refuses the first FILED slot it meets, where its sequence is stale. -/
theorem State.scanSlots_stale {s t u : State} {routine : Bool} {slot : Nat} {rest : List Nat} {rem : Option (Nat × Half)} {b : List Byte}
    {done : Bool} (hi : s.slotInFlight slot = false) (hr : s.busRead (s.slotAddr slot 0) 6 = (some b, t)) (hf : byteAt b 0 = filedByte)
    (hlo : 1 ≤ (t.scanner.next (classOf (byteAt b 2)) - halfAt b 4).toNat)
    (hhi : (t.scanner.next (classOf (byteAt b 2)) - halfAt b 4).toNat ≤ 32767) (hu : t.refuseStale slot false = (done, u)) :
    State.scanSlots routine (slot :: rest) rem s = if done then State.scanSlots routine rest rem u else (.fault, u) := by
  rw [State.scanSlots, hi, if_neg (by simp), hr]
  dsimp only
  rw [if_neg (by simp [hf]), if_neg (by omega), if_pos hhi, hu]
  cases done <;> rfl

theorem byteAt_bytes_succ (s : State) (a : Addr) (n : Nat) : byteAt (s.bytes a (n + 1)) 0 = s.byte a := by
  rw [State.bytes_succ]
  rfl

/-- Settles O27: the result write, and the scan that refuses a stale ticket. -/
theorem busErrorHoldsTheResultWrite : Obligations.BusErrorHoldsTheResultWrite := by
  constructor
  · intro s i e f k l hw he hr hb h hk
    refine ⟨_, congrArg Host.Outcome.next (State.failStep_met rfl (State.writeResult_fails hw he hr hb h hk) ?_), rfl, ?_,
      fun a ha => ?_⟩
    · simpa using h
    · refine State.storeBytes_other _ _ s _ fun n hn => s.slotAddr_outside e.slot n ?_
      rw [List.length_take, Results.bytes_length] at hn
      omega
    · refine State.storeBytes_other _ _ s _ fun n hn => ha n ?_
      rw [List.length_take] at hn
      omega
  · intro s slot l h hr hb ⟨hf, hh, hp, htm, hq⟩ ht hs hk b behind h1 hlo hhi
    obtain ⟨rest, hrange, -⟩ := range_split hs
    let u := if l then s.storeBytes (s.slotAddr slot 0) [takenByte] else s
    let w := u.holdTray (.staleLock slot)
    let v := (u.modScanner fun c => { c with held := some (.staleLock slot) }).modDesk
      fun d => { d with controller := .halted, cause := .deskFault, events := d.events ||| 4#4 }
    have hw : w = v := State.fault_running (s := u.modScanner _) (by cases l <;> simp [u, hr]) .deskFault
    have tray : (s.setBus (some ⟨6 * slot + 7, l, []⟩)).scanTray false = (.fault, w) := by
      have passed := State.scanSlots_unfiled ht (!false && s.scanner.state == .idle) (slot :: rest) none (k := 7) (l := l)
        (slots := List.range slot) (fun j hj => hk j (List.mem_range.1 hj))
      have read := State.busRead_acked s (s.slotAddr slot 0) (n := 6) (k := 7) (l := l) (m := []) (by decide)
      have refused : (s.setBus (some ⟨7 - 6, l, []⟩)).refuseStale slot false = (false, w) := State.refuseStale_fails h (by
        rw [byteAt_bytes_succ, ← byteAt_bytes_succ s _ 5]; exact h1)
      have stale := State.scanSlots_stale (routine := !false && s.scanner.state == .idle) (rest := rest) (rem := none)
        (State.slotInFlight_free (s.setBus (some ⟨7, l, []⟩)) ht slot) read h1 (by rwa [Scanner.next_classOf]) (by rwa [Scanner.next_classOf]) refused
      rw [List.length_range] at passed
      rw [State.scanTray, hrange]
      exact passed.trans stale
    have made : State.scanStep (s.setBus (some ⟨6 * slot + 7, l, []⟩)) = v := by
      have hv : v.noTickets := fun i => by rw [← ht i]; cases l <;> simp [v, u]
      rw [State.scanStep_made (by exact hf) (by exact hh), State.runScan_fault (by exact hf) (by exact hh) tray, hw,
        State.sequenceGoesOn_none (by cases l <;> simp [v, u, hb]), State.composerRun_wait _ (.inl (by cases l <;> simp [v])),
        State.settle_empty _ hv]
    refine congrArg Host.Outcome.next ((State.failStep_met (during := .scan) rfl made (by cases l <;> simp [v, u, h])).trans ?_)
    cases l
    · rfl
    · simp only [v, u, if_true]
      rw [s.storeBytes_eq (s.slotAddr slot 0) [takenByte]]
      rfl

end Sys2Proof.Machine
end

section
/-! The stale refusal (R26). -/

namespace Sys2Proof.Machine

/-- The state of a slot refused: TAKEN written, then the results, then REFUSED, and TICKET set. -/
def State.slotRefused (s : State) (slot : Nat) (results : List Byte) : State :=
  ((s.storeBytes (s.slotAddr slot 0) [2]).writeSlot slot results 5).modDesk fun d => { d with events := d.events ||| 1#4 }

theorem State.storeBytes_slotAddr (s : State) (a : Addr) (bs : List Byte) (slot n : Nat) :
    (s.storeBytes a bs).slotAddr slot n = s.slotAddr slot n := by
  simp only [State.slotAddr, State.areaAddr, State.deskAddr, State.storeBytes_desk]

theorem State.modDesk_byte (s : State) (f : Desk → Desk) (a : Addr) : (s.modDesk f).byte a = s.byte a := rfl

theorem State.writeRefusal_none {s : State} (h : s.bus = none) (slot : Nat) (r : Reason) :
    s.writeRefusal slot r = (true, (s.writeSlot slot (Results.refusal r).bytes 5).modDesk fun d => { d with events := d.events ||| 1#4 }) := by
  rw [State.writeRefusal, State.writeResults_none h]
  rfl

theorem State.refuseStale_none {s : State} (h : s.bus = none) {slot : Nat} (hf : s.byte (s.slotAddr slot 0) = 1) :
    s.refuseStale slot false = (true, s.slotRefused slot (Results.refusal .stale).bytes) := by
  have hr := s.busRead_none (s.slotAddr slot 0) 1 h
  rw [State.refuseStale_filed false hr (by rw [byteAt_bytes_succ]; exact hf) (s.writeTaken_none slot h), if_pos rfl,
    State.writeRefusal_none (by rw [State.storeBytes_bus, h])]
  rfl

theorem State.refuseStale_unfiled {s : State} (h : s.bus = none) {slot : Nat} (hf : s.byte (s.slotAddr slot 0) ≠ 1) :
    s.refuseStale slot false = (true, s) := by
  have hb : byteAt (s.bytes (s.slotAddr slot 0) 1) 0 ≠ filedByte := by rwa [byteAt_bytes_succ]
  simp [State.refuseStale, s.busRead_none _ _ h, hb]

section
variable {s : State} {slot : Nat} {results : List Byte}

/-! ### What a refusal leaves -/

theorem State.slotRefused_state (h : s.memoryLaw) : (s.slotRefused slot results).byte (s.slotAddr slot 0) = 5 := by
  have := State.writeSlot_state (s := s.storeBytes (s.slotAddr slot 0) [2]) (State.storeBytes_wf _ _ _ h) slot results 5
  rwa [State.storeBytes_slotAddr] at this

theorem State.slotRefused_results (h : s.memoryLaw) (hl : results.length = 24) {n : Nat} (hn : n < 24) :
    some ((s.slotRefused slot results).byte (Addr.plus (s.slotAddr slot 0x18) n)) = results[n]? := by
  have := State.writeSlot_results (s := s.storeBytes (s.slotAddr slot 0) [2]) (State.storeBytes_wf _ _ _ h) slot hl 5 hn
  rwa [State.storeBytes_slotAddr] at this

theorem State.slotRefused_other (hl : results.length = 24) {a : Addr} (ha : outsideRun a (s.slotAddr slot 0x18) 24)
    (h0 : a ≠ s.slotAddr slot 0) : (s.slotRefused slot results).byte a = s.byte a := by
  have first := State.writeSlot_other (s.storeBytes (s.slotAddr slot 0) [2]) slot hl 5 (a := a)
    (by rwa [State.storeBytes_slotAddr]) (by rwa [State.storeBytes_slotAddr])
  refine Eq.trans first (State.storeBytes_other _ _ s a fun i hi => ?_)
  obtain rfl : i = 0 := by simpa using hi
  simpa [Addr.plus] using h0

theorem State.slotRefused_eq : s.slotRefused slot results =
    { s with mem := (s.slotRefused slot results).mem, desk := { s.desk with events := s.desk.events ||| 1#4 } } := by
  unfold State.slotRefused State.writeSlot
  rw [State.storeBytes_eq _ [5], State.storeBytes_eq _ results, State.storeBytes_eq _ [2] s]
  rfl

/-- A scan whose one FILED slot, of no ticket in flight, is stale refuses it. -/
theorem State.scanTray_stale (h : s.bus = none) (hs : slot < 32) (hfree : s.slotInFlight slot = false)
    (hk : ∀ k < 32, k ≠ slot → byteAt (s.bytes (s.slotAddr k 0) 6) 0 ≠ 1) (h1 : byteAt (s.bytes (s.slotAddr slot 0) 6) 0 = 1)
    (hlo : 1 ≤ (s.scanner.next (classOf (byteAt (s.bytes (s.slotAddr slot 0) 6) 2)) - halfAt (s.bytes (s.slotAddr slot 0) 6) 4).toNat)
    (hhi : (s.scanner.next (classOf (byteAt (s.bytes (s.slotAddr slot 0) 6) 2)) - halfAt (s.bytes (s.slotAddr slot 0) 6) 4).toNat ≤ 32767)
    (hres : (Results.refusal .stale).bytes = results) (hl : results.length = 24) (flashOnly : Bool) :
    s.scanTray flashOnly = (.nothing, s.slotRefused slot results) := by
  obtain ⟨rest, hrange, hrest⟩ := range_split hs
  have hbyte : s.byte (s.slotAddr slot 0) = 1 := by rwa [← byteAt_bytes_succ s _ 5]
  have refused := State.refuseStale_none h hbyte
  rw [hres] at refused
  have others : ∀ k ∈ rest, (s.slotRefused slot results).scanPasses k := fun k hkr => by
    obtain ⟨hlt, hk32⟩ := hrest k hkr
    have hne : k ≠ slot := by omega
    have haddr : (s.slotRefused slot results).slotAddr k 0 = s.slotAddr k 0 := by
      rw [State.slotRefused_eq]
      rfl
    refine .inr (.inl ?_)
    rw [byteAt_bytes_succ, haddr, State.slotRefused_other hl (s.slotAddr_outside_of k slot) (s.slotAddr_ne hne hk32 hs),
      ← byteAt_bytes_succ s _ 5]
    exact hk k hk32 hne
  rw [State.scanTray, hrange, State.scanSlots_passes h _ _ _ fun k hkr => .inr (.inl (hk k
      (Nat.lt_trans (List.mem_range.1 hkr) hs) (Nat.ne_of_lt (List.mem_range.1 hkr)))),
    State.scanSlots_stale hfree (s.busRead_none _ _ h) h1 hlo hhi refused, if_pos rfl]
  have := State.scanSlots_passes (s := s.slotRefused slot results) (by rw [State.slotRefused_eq]; exact h)
    (!flashOnly && s.scanner.state == .idle) [] none others
  rw [List.append_nil] at this
  exact this

end

/-- Settles O31: the scan, and the locked sequence alone. -/
theorem staleTicketIsRefused : Obligations.StaleTicketIsRefused := by
  intro s slot h hm results
  have hres : (Results.refusal .stale).bytes = results := rfl
  have hl : results.length = 24 := rfl
  clear_value results
  refine ⟨?scan, fun hf => ⟨_, (State.refuseStale_none h hf).trans (by rw [hres]), State.slotRefused_eq, State.slotRefused_state hm,
    fun n hn => State.slotRefused_results hm hl hn, fun a ha h0 => State.slotRefused_other hl ha h0⟩,
    fun hf => State.refuseStale_unfiled h hf⟩
  rintro ⟨hf, hh, hp, htm, hq⟩ hr hs hfree hk b behind h1 hlo hhi
  have hfree : s.slotInFlight slot = false := by
    by_contra hc
    obtain ⟨i, e, he, hes⟩ := (s.slotInFlight_iff slot).1 (by simpa using hc)
    exact hfree i e he hes
  have tray := State.scanTray_stale h hs hfree hk h1 (by rwa [Scanner.next_classOf]) (by rwa [Scanner.next_classOf]) hres hl false
  let u := (s.slotRefused slot results).modScanner fun c => { c with inFlight := false }
  have quiet : (s.slotRefused slot results).endScan = u := by
    rw [State.endScan_quiet (by rw [State.slotRefused_eq]; exact hp) (by rw [State.slotRefused_eq]; exact htm),
      State.sequenceGoesOn_none (by rw [State.slotRefused_eq]; exact hq)]
  have hu : u = (((((s.storeBytes (s.slotAddr slot 0) [2]).storeBytes (s.slotAddr slot 0x18) results).storeBytes
      (s.slotAddr slot 0) [5]).modDesk fun d => { d with events := d.events ||| 1#4 }).modScanner fun c => { c with inFlight := false }) := by
    simp only [u, State.slotRefused, State.writeSlot, State.storeBytes_slotAddr]
  refine ⟨u, congrArg Host.Outcome.next ((State.scanStep_made hf hh).trans ?_), hu, State.slotRefused_state hm,
    fun n hn => State.slotRefused_results hm hl hn, fun a ha h0 => State.slotRefused_other hl ha h0⟩
  rw [State.runScan_ends hf hh tray nofun, quiet, State.composerRun_atRest (by simp only [u]; rw [State.slotRefused_eq]; exact hr)]

end Sys2Proof.Machine
end

section
/-! The take of a ticket by a scan (R22, R25, R27 to R29), and how its composition is begun or a flash preempts for it (R38, R39, R49). -/

namespace Sys2Proof.Machine

/-! ### Bytes of a run read -/

theorem byteAt_bytes (s : State) (a : Addr) {n i : Nat} (h : i < n) : byteAt (s.bytes a n) i = s.byte (Addr.plus a i) := by
  simp [byteAt, State.bytes, List.getD_eq_getElem?_getD, h]

/-- Two reads of a run agree on a byte within both. -/
theorem byteAt_bytes_eq (s : State) (a : Addr) {n m i : Nat} (hn : i < n) (hm : i < m) :
    byteAt (s.bytes a n) i = byteAt (s.bytes a m) i := by
  rw [byteAt_bytes s a hn, byteAt_bytes s a hm]

/-- TAKEN written over the state byte leaves the rest of the ticket. -/
theorem byteAt_taken (s : State) (a : Addr) {n i : Nat} (v : Byte) (h0 : 0 < i) (hi : i < 16777216) (hn : i < n) :
    byteAt ((s.storeBytes a [v]).bytes a n) i = byteAt (s.bytes a n) i := by
  rw [byteAt_bytes _ a hn, byteAt_bytes _ a hn, State.storeBytes_other]
  intro j hj e
  obtain rfl : j = 0 := by simpa using hj
  have := congrArg BitVec.toNat e
  simp only [Addr.plus, BitVec.toNat_add, BitVec.toNat_ofNat] at this
  have := a.isLt
  omega

section
variable {t u : List Byte}

theorem halfAt_congr (h : ∀ i, 0 < i → i < 24 → byteAt u i = byteAt t i) {i : Nat} (h0 : 0 < i) (hi : i + 1 < 24) :
    halfAt u i = halfAt t i := by
  rw [halfAt, halfAt, h i h0 (by omega), h (i + 1) (by omega) hi]

theorem addrAt_congr (h : ∀ i, 0 < i → i < 24 → byteAt u i = byteAt t i) {i : Nat} (h0 : 0 < i) (hi : i + 2 < 24) :
    addrAt u i = addrAt t i := by
  rw [addrAt, addrAt, h i h0 (by omega), h (i + 1) (by omega) (by omega), h (i + 2) (by omega) hi]

theorem longAt_congr (h : ∀ i, 0 < i → i < 24 → byteAt u i = byteAt t i) {i : Nat} (h0 : 0 < i) (hi : i + 3 < 24) :
    longAt u i = longAt t i := by
  have hn : natAt u (i + 3) = natAt t (i + 3) := congrArg _ (h (i + 3) (by omega) hi)
  unfold longAt
  rw [addrAt_congr h h0 (by omega), hn]

/-- The entry of a ticket, and its validation, rest on the fields after its state byte. -/
theorem entryOf_congr (h : ∀ i, 0 < i → i < 24 → byteAt u i = byteAt t i) (slot : Nat) (cls : Class) :
    entryOf slot cls u = entryOf slot cls t := by
  unfold entryOf
  rw [h 1 (by decide) (by decide), h 3 (by decide) (by decide), h 8 (by decide) (by decide), halfAt_congr h (i := 6) (by decide) (by decide),
    halfAt_congr h (i := 0x0A) (by decide) (by decide), halfAt_congr h (i := 0x14) (by decide) (by decide),
    addrAt_congr h (i := 0x0C) (by decide) (by decide), addrAt_congr h (i := 0x10) (by decide) (by decide),
    longAt_congr h (i := 0x10) (by decide) (by decide)]

theorem State.validate_congr (h : ∀ i, 0 < i → i < 24 → byteAt u i = byteAt t i) (s : State) : s.validate u = s.validate t := by
  unfold State.validate
  rw [h 1 (by decide) (by decide), h 3 (by decide) (by decide), halfAt_congr h (i := 0x0A) (by decide) (by decide),
    halfAt_congr h (i := 0x14) (by decide) (by decide), longAt_congr h (i := 0x0C) (by decide) (by decide),
    longAt_congr h (i := 0x10) (by decide) (by decide)]

theorem State.validate_desk {s w : State} (h : s.desk = w.desk) (b : List Byte) : s.validate b = w.validate b := by
  have ha : ∀ f p n, s.allowed f p n = w.allowed f p n := fun f p n => by rw [State.allowed, State.allowed, h]
  unfold State.validate
  simp only [ha]

/-- A TAKE ticket with a destination and a granted take, and with no log, is in order. -/
theorem State.validate_take {s : State} (hk : byteAt t 1 = 1) (hd : byteAt t 3 &&& 3 ≠ 0) (hl : halfAt t 10 ≠ 0)
    (ha : s.allowed false (longAt t 12) (halfAt t 10).toNat = true) (hg : longAt t 16 = 0) : s.validate t = none := by
  have hl' : ((halfAt t 0x0A).toNat == 0) = false := by
    simpa [beq_eq_false_iff_ne] using fun e => hl (BitVec.eq_of_toNat_eq e)
  have hd' : ¬byteAt t 3 &&& 3#8 = 0#8 := hd
  unfold State.validate
  rw [hg]
  simp [hk, hd', ha, hl']

end

/-! ### The take (R27 to R29) -/

/-- A take whose slot stands as the scan matched it. -/
theorem State.takeTicket_none {s : State} (h : s.bus = none) {slot : Nat} {cls : Class} {seq : Half}
    (hf : byteAt (s.bytes (s.slotAddr slot 0) 6) 0 = 1) (hc : classOf (byteAt (s.bytes (s.slotAddr slot 0) 6) 2) = cls)
    (hs : halfAt (s.bytes (s.slotAddr slot 0) 6) 4 = seq) (again : Bool) : s.takeTicket slot cls seq again =
      ((s.storeBytes (s.slotAddr slot 0) [2]).modScanner fun c => c.advance cls).validateTaken slot cls := by
  simp only [State.takeTicket, s.busRead_none _ _ h, s.writeTaken_none slot h]
  rw [if_pos ⟨.inl hf, hc, hs⟩, if_pos trivial]
  rfl

/-- A taken ticket in order is entered. -/
theorem State.validateTaken_entered {s : State} (h : s.bus = none) {slot : Nat} {cls : Class}
    (hv : s.validate (s.bytes (s.slotAddr slot 0) 24) = none) :
    s.validateTaken slot cls = (.entered, s.enterTicket slot cls (s.bytes (s.slotAddr slot 0) 24)) := by
  simp only [State.validateTaken, s.busRead_none _ _ h, hv]

/-- The lowest entry is free. -/
theorem State.freeEntry_zero {s : State} (h : s.flight[(0 : Fin 8)] = none) : s.freeEntry = some 0 := by
  rw [State.freeEntry, List.finRange_succ, List.find?_cons_of_pos]
  simpa using h

/-- The state after a scan has taken a ticket in order and entered it in entry 0. -/
def State.ticketTaken (s : State) (slot : Nat) (cls : Class) : State :=
  ((s.storeBytes (s.slotAddr slot 0) [2]).modScanner fun c => c.advance cls).modFlight fun v =>
    v.set 0 (some (entryOf slot cls (s.bytes (s.slotAddr slot 0) 24)))

section
variable {s : State} {slot : Nat} {cls : Class}

/-- A ticket in its class's turn is taken, and its validated bytes are those the scan read. -/
theorem State.takeTicket_enters (h : s.bus = none) (hf : byteAt (s.bytes (s.slotAddr slot 0) 24) 0 = 1)
    (hc : classOf (byteAt (s.bytes (s.slotAddr slot 0) 24) 2) = cls) (hv : s.validate (s.bytes (s.slotAddr slot 0) 24) = none) :
    s.takeTicket slot cls (halfAt (s.bytes (s.slotAddr slot 0) 24) 4) false = (.entered,
      ((s.storeBytes (s.slotAddr slot 0) [2]).modScanner fun c => c.advance cls).enterTicket slot cls
        (s.bytes (s.slotAddr slot 0) 24)) := by
  let w := (s.storeBytes (s.slotAddr slot 0) [2]).modScanner fun c => c.advance cls
  have wbytes : ∀ i, 0 < i → i < 24 → byteAt (w.bytes (w.slotAddr slot 0) 24) i = byteAt (s.bytes (s.slotAddr slot 0) 24) i :=
    fun i h0 hi => by
      have : w.slotAddr slot 0 = s.slotAddr slot 0 := s.storeBytes_slotAddr _ _ _ _
      rw [this]
      exact byteAt_taken s _ 2 h0 (by omega) hi
  have wvalid : w.validate (w.bytes (w.slotAddr slot 0) 24) = none := by
    rw [State.validate_congr wbytes, ← hv]
    exact State.validate_desk (by rw [State.modScanner_desk, State.storeBytes_desk]) _
  have same : ∀ i < 6, byteAt (s.bytes (s.slotAddr slot 0) 6) i = byteAt (s.bytes (s.slotAddr slot 0) 24) i :=
    fun i hi => byteAt_bytes_eq s _ hi (by omega)
  rw [State.takeTicket_none h (by rw [same 0 (by decide), hf]) (by rw [same 2 (by decide), hc])
      (by rw [halfAt, halfAt, same 4 (by decide), same 5 (by decide)]), State.validateTaken_entered
      (by rw [State.modScanner_bus, State.storeBytes_bus, h]) wvalid]
  refine congrArg (Prod.mk _) ?_
  unfold State.enterTicket
  rw [entryOf_congr wbytes]

/-- A ticket in its class's turn, with entry 0 free, is taken and entered. -/
theorem State.takeTicket_entered (h : s.bus = none) (hf : byteAt (s.bytes (s.slotAddr slot 0) 24) 0 = 1)
    (hc : classOf (byteAt (s.bytes (s.slotAddr slot 0) 24) 2) = cls) (hv : s.validate (s.bytes (s.slotAddr slot 0) 24) = none)
    (h0 : s.flight[(0 : Fin 8)] = none) (hp : s.composer.phase ≠ .flashScan) :
    s.takeTicket slot cls (halfAt (s.bytes (s.slotAddr slot 0) 24) 4) false = (.entered,
      match cls with
      | .routine => ((s.ticketTaken slot .routine).modScanner fun c => { c with state := .watch }).modComposer
          fun c => { c with ticket := some 0, phase := .begin }
      | .flash => ((s.ticketTaken slot .flash).modScanner fun c => { c with state := .locked }).modComposer
          fun c => { c with preempt := some 0 }) := by
  let w := (s.storeBytes (s.slotAddr slot 0) [2]).modScanner fun c => c.advance cls
  rw [State.takeTicket_enters h hf hc hv]
  refine congrArg (Prod.mk _) ?_
  have free : w.freeEntry = some 0 := State.freeEntry_zero (by simpa [w] using h0)
  have chain : (w.composer.phase == .flashScan) = false := by simpa [w] using hp
  unfold State.enterTicket
  change (match w.freeEntry with | none => w | some i => _) = _
  rw [free]
  cases cls with
  | routine => rfl
  | flash =>
    dsimp only
    rw [chain]
    rfl

end

end Sys2Proof.Machine
end

section
/-! A scan that takes a ticket (R22, R25, R27 to R29, R38, R39, R49). -/

namespace Sys2Proof.Machine

section
variable {s u : State} {slot : Nat}

/-! ### The scan (R25) -/

/-- The scan comes to the one FILED slot with nothing done. -/
theorem State.scanSlots_at (h : s.bus = none) (hs : slot < 32) (hk : ∀ k < 32, k ≠ slot → byteAt (s.bytes (s.slotAddr k 0) 6) 0 ≠ 1)
    (routine : Bool) : ∃ rest, (∀ k ∈ rest, s.scanPasses k)
      ∧ State.scanSlots routine (List.range 32) none s = State.scanSlots routine (slot :: rest) none s := by
  obtain ⟨rest, hrange, hrest⟩ := range_split hs
  refine ⟨rest, fun k hkr => .inr (.inl (hk k (hrest k hkr).2 (Nat.ne_of_gt (hrest k hkr).1))), ?_⟩
  rw [hrange]
  exact State.scanSlots_passes h _ _ _ fun k hkr =>
    .inr (.inl (hk k (Nat.lt_trans (List.mem_range.1 hkr) hs) (Nat.ne_of_lt (List.mem_range.1 hkr))))

/-- A flash ticket in turn is taken as the scan comes to it. -/
theorem State.scanTray_flash (h : s.bus = none) (hr : s.desk.controller ≠ .halted) (hs : slot < 32)
    (hfree : s.slotInFlight slot = false) (hk : ∀ k < 32, k ≠ slot → byteAt (s.bytes (s.slotAddr k 0) 6) 0 ≠ 1)
    (h0 : byteAt (s.bytes (s.slotAddr slot 0) 6) 0 = 1) (h2 : byteAt (s.bytes (s.slotAddr slot 0) 6) 2 = 1)
    (hq : halfAt (s.bytes (s.slotAddr slot 0) 6) 4 = s.scanner.nextFlash) (flashOnly : Bool)
    (ht : s.takeTicket slot .flash (halfAt (s.bytes (s.slotAddr slot 0) 6) 4) false = (.entered, u)) :
    s.scanTray flashOnly = (.entered, u) := by
  obtain ⟨rest, -, hat⟩ := State.scanSlots_at h hs hk (!flashOnly && s.scanner.state == .idle)
  have hc : classOf (byteAt (s.bytes (s.slotAddr slot 0) 6) 2) = .flash := if_pos h2
  have hb : (s.scanner.next .flash - halfAt (s.bytes (s.slotAddr slot 0) 6) 4).toNat = 0 := by
    rw [hq]
    simp [Scanner.next]
  rw [State.scanTray, hat, State.scanSlots, if_neg (by simp [hfree]), s.busRead_none _ _ h]
  dsimp only
  rw [if_neg (by simpa [filedByte] using h0), hc, if_pos hb]
  dsimp only
  rw [if_neg hr, ht]

/-- A routine ticket in turn is remembered by a scan in IDLE, and taken at its end. -/
theorem State.scanTray_routine (h : s.bus = none) (hr : s.desk.controller ≠ .halted) (hi : s.scanner.state = .idle) (hs : slot < 32)
    (hfree : s.slotInFlight slot = false) (hk : ∀ k < 32, k ≠ slot → byteAt (s.bytes (s.slotAddr k 0) 6) 0 ≠ 1)
    (h0 : byteAt (s.bytes (s.slotAddr slot 0) 6) 0 = 1) (h2 : byteAt (s.bytes (s.slotAddr slot 0) 6) 2 ≠ 1)
    (hq : halfAt (s.bytes (s.slotAddr slot 0) 6) 4 = s.scanner.nextRoutine) :
    s.scanTray false = s.takeTicket slot .routine (halfAt (s.bytes (s.slotAddr slot 0) 6) 4) false := by
  obtain ⟨rest, hp, hat⟩ := State.scanSlots_at h hs hk (!false && s.scanner.state == .idle)
  have hc : classOf (byteAt (s.bytes (s.slotAddr slot 0) 6) 2) = .routine := if_neg h2
  have hb : (s.scanner.next .routine - halfAt (s.bytes (s.slotAddr slot 0) 6) 4).toNat = 0 := by
    rw [hq]
    simp [Scanner.next]
  have hnh : (s.desk.controller != .halted) = true := by simpa using hr
  rw [State.scanTray, hat, State.scanSlots, if_neg (by simp [hfree]), s.busRead_none _ _ h]
  dsimp only
  rw [if_neg (by simpa [filedByte] using h0), hc, if_pos hb]
  dsimp only
  rw [hi, hnh, if_pos (by simp)]
  have := State.scanSlots_passes h true [] (some (slot, halfAt (s.bytes (s.slotAddr slot 0) 6) 4)) hp
  rw [List.append_nil] at this
  refine Eq.trans this ?_
  rw [State.scanSlots, if_neg hr]

end

/-! ### What follows the take of a routine ticket -/

theorem State.modEntry_flight (i : Fin 8) (f : Entry → Entry) (s : State) (j : Fin 8) :
    (s.modEntry i f).flight[j] = if j = i then (s.flight[i]).map f else s.flight[j] := by
  simp only [State.modEntry, State.modFlight_flight, Fin.getElem_fin, Vector.getElem_set]
  by_cases e : j = i
  · rw [if_pos e, if_pos (by rw [e])]
  · rw [if_neg e, if_neg fun h => e (Fin.ext h.symm)]

/-- What a ticket's entry keeps from its take on. -/
def Entry.sameTicket (e f : Entry) : Prop :=
  e.slot = f.slot ∧ e.cls = f.cls ∧ e.kind = f.kind ∧ e.takePtr = f.takePtr ∧ e.takeLength = f.takeLength ∧ e.toFilm = f.toFilm
    ∧ e.toProof = f.toProof ∧ e.stopMask = f.stopMask ∧ e.logCapacity = f.logCapacity

/-- Between two states of a step the memory, the next sequences, and each ticket in flight stand. -/
structure State.TicketsStand (s t : State) : Prop where
  mem : t.mem = s.mem
  nextRoutine : t.scanner.nextRoutine = s.scanner.nextRoutine
  nextFlash : t.scanner.nextFlash = s.scanner.nextFlash
  entry : ∀ i : Fin 8, ∀ e, s.flight[i] = some e → ∃ f, t.flight[i] = some f ∧ f.sameTicket e
  free : ∀ i : Fin 8, s.flight[i] = none → t.flight[i] = none

namespace State.TicketsStand

variable {s t u : State}

theorem refl (s : State) : s.TicketsStand s :=
  ⟨rfl, rfl, rfl, fun _ e h => ⟨e, h, rfl, rfl, rfl, rfl, rfl, rfl, rfl, rfl, rfl⟩, fun _ h => h⟩

theorem trans (h : s.TicketsStand t) (k : t.TicketsStand u) : s.TicketsStand u := by
  refine ⟨k.mem.trans h.mem, k.nextRoutine.trans h.nextRoutine, k.nextFlash.trans h.nextFlash, fun i e he => ?_,
    fun i hn => k.free i (h.free i hn)⟩
  obtain ⟨f, hf, h1, h2, h3, h4, h5, h6, h7, h8, h9⟩ := h.entry i e he
  obtain ⟨g, hg, k1, k2, k3, k4, k5, k6, k7, k8, k9⟩ := k.entry i f hf
  exact ⟨g, hg, k1.trans h1, k2.trans h2, k3.trans h3, k4.trans h4, k5.trans h5, k6.trans h6, k7.trans h7, k8.trans h8, k9.trans h9⟩

/-- A change of the other components, or of the scanner but for its sequences. -/
theorem of_same (h : s.TicketsStand t) (hm : u.mem = t.mem) (hr : u.scanner.nextRoutine = t.scanner.nextRoutine)
    (hf : u.scanner.nextFlash = t.scanner.nextFlash) (hv : u.flight = t.flight) : s.TicketsStand u :=
  ⟨hm.trans h.mem, hr.trans h.nextRoutine, hf.trans h.nextFlash, fun i e he => by rw [hv]; exact h.entry i e he,
    fun i hn => by rw [hv]; exact h.free i hn⟩

/-- A change of the entries that keeps what each keeps from its take on. -/
theorem of_map (h : s.TicketsStand t) (hm : u.mem = t.mem) (hc : u.scanner = t.scanner) (g : Fin 8 → Entry → Entry)
    (hg : ∀ i e, (g i e).sameTicket e) (hv : ∀ i : Fin 8, u.flight[i] = (t.flight[i]).map (g i)) : s.TicketsStand u := by
  refine ⟨hm.trans h.mem, by rw [hc, h.nextRoutine], by rw [hc, h.nextFlash], fun i e he => ?_, fun i hn => by rw [hv, h.free i hn]; rfl⟩
  obtain ⟨f, hf, h1, h2, h3, h4, h5, h6, h7, h8, h9⟩ := h.entry i e he
  obtain ⟨g1, g2, g3, g4, g5, g6, g7, g8, g9⟩ := hg i f
  exact ⟨g i f, by rw [hv, hf]; rfl, g1.trans h1, g2.trans h2, g3.trans h3, g4.trans h4, g5.trans h5, g6.trans h6, g7.trans h7,
    g8.trans h8, g9.trans h9⟩

theorem settle (h : s.TicketsStand t) : s.TicketsStand t.settle :=
  h.of_map (State.settle_mem t) (State.settle_scanner t) t.dueEntry (fun _ _ => ⟨rfl, rfl, rfl, rfl, rfl, rfl, rfl, rfl, rfl⟩)
    t.settle_flight

theorem modEntry (h : s.TicketsStand t) (i : Fin 8) {g : Entry → Entry} (hg : ∀ e, (g e).sameTicket e) :
    s.TicketsStand (t.modEntry i g) := by
  refine h.of_map rfl rfl (fun j => if j = i then g else id) (fun j e => ?_) fun j => ?_
  · split
    · exact hg e
    · exact ⟨rfl, rfl, rfl, rfl, rfl, rfl, rfl, rfl, rfl⟩
  · rw [State.modEntry_flight]
    split
    next e => rw [e]
    · rw [Option.map_id_fun, id]

theorem trigger (h : s.TicketsStand t) : s.TicketsStand t.trigger := by
  unfold State.trigger
  repeat' split
  · exact h
  · exact h.of_same rfl rfl rfl rfl
  · exact h.of_same rfl rfl rfl rfl

theorem carry (h : s.TicketsStand t) (cls : Class) : s.TicketsStand (t.carry cls) := by
  cases cls
  · exact h.of_same rfl rfl rfl rfl
  · exact h

theorem leaveTicket (h : s.TicketsStand t) (cls : Class) : s.TicketsStand (t.leaveTicket cls) := by
  have left : s.TicketsStand (t.modComposer fun c => { c with ticket := none, phase := .idle }) := h.of_same rfl rfl rfl rfl
  cases cls with
  | routine =>
    unfold State.leaveTicket
    dsimp only
    split
    · exact trigger (left.of_same rfl rfl rfl rfl)
    · exact left
  | flash => exact h.of_same rfl rfl rfl rfl

theorem stopTicket (h : s.TicketsStand t) (r : Reason) (m : Option Nat) : s.TicketsStand (t.stopTicket r m) := by
  unfold State.stopTicket
  split
  · exact h
  next i e _ =>
    have discarded : s.TicketsStand (t.discardLine.modComposer fun c => { c with current := c.snapshot }) := h.of_same rfl rfl rfl rfl
    exact ((discarded.modEntry i (fun _ => by exact ⟨rfl, rfl, rfl, rfl, rfl, rfl, rfl, rfl, rfl⟩)).carry e.cls).leaveTicket e.cls

end State.TicketsStand

/-! ### Selections with the bus acknowledging (R103) -/

/-- A selection up to its table read changes the Width Store alone. -/
theorem State.selectFont_none {s : State} (h : s.bus = none) (f : Nat) (x : Option Nat) (p : Purpose) :
    (s.selectFont f x p).2 = { s with fonts := (s.selectFont f x p).2.fonts } := by
  simp only [State.selectFont, s.busRead_none _ _ h, State.beginLoad]
  repeat' split
  all_goals rfl

/-- The selection of a ticket's starting font: resident, read, or failed. -/
theorem State.select_takeUp {s : State} (h : s.bus = none) (f : Nat) (x : Option Nat) : ∃ fonts,
    s.select f x .takeUp = State.setPhase .reading { s with fonts := fonts }
      ∨ (∃ sel, s.select f x .takeUp = State.setPhase (.loading sel) { s with fonts := fonts })
      ∨ ∃ r, s.select f x .takeUp = State.stopTicket r none { s with fonts := fonts } := by
  have hs := State.selectFont_none h f x .takeUp
  unfold State.select
  cases hr : s.selectFont f x .takeUp with
  | mk r t =>
    rw [hr] at hs
    refine ⟨t.fonts, ?_⟩
    rw [← show t = { s with fonts := t.fonts } from hs]
    cases r with
    | resident => exact .inl rfl
    | loading sel => exact .inr (.inl ⟨sel, rfl⟩)
    | failed r => exact .inr (.inr ⟨r, rfl⟩)

/-- A Composer that waits ends a run where it stands. -/
theorem State.composerLoop_wait {s : State} (n : Nat)
    (h : s.accessInFlight = true ∨ (s.composer.preempt = none ∧ s.phaseReady = false)) : s.composerLoop n = s := by
  cases n with
  | zero => rfl
  | succ n =>
    rw [State.composerLoop]
    rcases h with h | ⟨hp, hq⟩
    · exact if_pos (.inr h)
    · split
      · rfl
      · rw [hp, hq]
        rfl

theorem State.leaveTicket_routine_composer (s : State) :
    (s.leaveTicket .routine).composer = { s.composer with ticket := none, phase := .idle } := by
  unfold State.leaveTicket
  dsimp only
  split
  · rw [State.trigger_composer]
    rfl
  · rfl

/-- The Composer takes up a routine TAKE ticket just entered, and waits for its font, for a code or for a ticket. -/
theorem State.composerRun_begins {s : State} {e : Entry} (h : s.bus = none) (hr : s.desk.controller = .running)
    (hp : s.composer.phase = .begin) (hn : s.composer.preempt = none) (ht : s.composer.ticket = some 0)
    (he : s.flight[(0 : Fin 8)] = some e) (hk : e.kind = .take) (hc : e.cls = .routine) (hf : e.finished = false) :
    s.TicketsStand s.composerRun := by
  have hte : s.ticketEntry = some (0, e) := State.ticketEntry_eq_some.2 ⟨ht, he⟩
  have ready : s.phaseReady = true := by simp [State.phaseReady, hp, State.cutNext, hte, hk]
  have first : s.composerLoop 128 = s.composerPhase.composerLoop 127 :=
    s.composerLoop_phase 127 hr hn (by simp [State.accessInFlight, hp]) ready
  have phase : s.composerPhase = s.beginTake e := by
    simp [State.composerPhase, hp, State.beginTicket, hte, hf, hk]
  rw [State.composerRun, composerFuel, first, phase]
  refine State.TicketsStand.settle ?_
  let t := s.modComposer fun c => { c with
    snapshot := s.startingState e, current := (takeUp s.desk.setup (s.startingState e)).1, lineStart := 0, readPosition := 0
    line := ⟨[], none, (takeUp s.desk.setup (s.startingState e)).2⟩ }
  have begun : s.beginTake e = t.select t.composer.current.font none .takeUp := rfl
  obtain ⟨fonts, hs⟩ := State.select_takeUp (s := t) h t.composer.current.font none
  let u : State := { t with fonts := fonts }
  have hu : s.TicketsStand u := (State.TicketsStand.refl s).of_same rfl rfl rfl rfl
  rw [begun]
  rcases hs with hs | ⟨sel, hs⟩ | ⟨r, hs⟩ <;> rw [hs]
  · rw [State.composerLoop_wait _ (.inr ⟨by exact hn, rfl⟩)]
    exact hu.of_same rfl rfl rfl rfl
  · rw [State.composerLoop_wait _ (.inl rfl)]
    exact hu.of_same rfl rfl rfl rfl
  · have idle : (u.stopTicket r none).composer.phase = .idle ∧ (u.stopTicket r none).composer.preempt = none := by
      have ute : u.ticketEntry = some (0, e) := hte
      unfold State.stopTicket
      rw [ute]
      dsimp only
      rw [hc, State.leaveTicket_routine_composer]
      exact ⟨rfl, hn⟩
    rw [State.composerLoop_wait _ (.inr ⟨idle.2, by simp [State.phaseReady, idle.1]⟩)]
    exact hu.stopTicket r none

end Sys2Proof.Machine
end

section
/-! The two takes of a scan: a routine ticket in IDLE, and a flash in WATCH (R22, R25, R38 to R40). -/

namespace Sys2Proof.Machine

theorem contextBytes_length (resume : Option (Fin 8)) (offset : Nat) (c : CompState) : (contextBytes resume offset c).length = 64 := by
  have tabs : (tabBytes c.tabs).length = 32 := by
    simp [tabBytes, natBytes, halfBytes, List.length_flatMap]
  simp [contextBytes, natBytes, halfBytes, tabs]

section
variable {s : State} {slot : Nat} {cls : Class}

theorem State.ticketTaken_flight (i : Fin 8) : (s.ticketTaken slot cls).flight[i] =
    if i = 0 then some (entryOf slot cls (s.bytes (s.slotAddr slot 0) 24)) else s.flight[i] := by
  simp only [State.ticketTaken, State.modFlight_flight, State.modScanner_flight, State.storeBytes_flight, Fin.getElem_fin,
    Vector.getElem_set]
  by_cases e : i = 0
  · rw [if_pos e, if_pos (by rw [e]; rfl)]
  · rw [if_neg e, if_neg fun h => e (Fin.ext h.symm)]

/-- The take writes TAKEN, and no other byte of memory. -/
theorem State.ticketTaken_state (h : s.memoryLaw) : (s.ticketTaken slot cls).byte (s.slotAddr slot 0) = 2 := by
  have := State.storeBytes_self (s.slotAddr slot 0) [2] s h (by simp) 0 (by simp)
  rw [Addr.plus, BitVec.ofNat_eq_ofNat, BitVec.add_zero] at this
  exact this

theorem State.ticketTaken_other {a : Addr} (ha : a ≠ s.slotAddr slot 0) : (s.ticketTaken slot cls).byte a = s.byte a := by
  refine State.storeBytes_other (s.slotAddr slot 0) [2] s a fun i hi => ?_
  obtain rfl : i = 0 := by simpa using hi
  simpa [Addr.plus] using ha

theorem State.ticketTaken_eq : s.ticketTaken slot cls = { s with
    mem := (s.storeBytes (s.slotAddr slot 0) [2]).mem, scanner := s.scanner.advance cls, flight := (s.ticketTaken slot cls).flight } := by
  unfold State.ticketTaken
  rw [s.storeBytes_eq]
  rfl

end

/-- A routine TAKE ticket in turn is taken by a scan in IDLE. -/
theorem State.scan_takes_routine {s : State} {slot : Nat} (h : s.bus = none) (hr : s.desk.controller = .running)
    (hi : s.scanner.state = .idle) (hruns : s.scanRuns) (ht : s.noTickets) (hp : s.composer.phase = .idle)
    (hn : s.composer.preempt = none) (hs : slot < 32) (h0 : byteAt (s.bytes (s.slotAddr slot 0) 24) 0 = 1)
    (hv : s.validate (s.bytes (s.slotAddr slot 0) 24) = none) (h1 : byteAt (s.bytes (s.slotAddr slot 0) 24) 1 = 1)
    (h2 : byteAt (s.bytes (s.slotAddr slot 0) 24) 2 ≠ 1)
    (hq : halfAt (s.bytes (s.slotAddr slot 0) 24) 4 = s.scanner.nextRoutine)
    (hk : ∀ k < 32, k ≠ slot → byteAt (s.bytes (s.slotAddr k 0) 6) 0 ≠ 1) :
    (s.ticketTaken slot .routine).TicketsStand s.scanStep := by
  obtain ⟨hf, hh, hpend, htm, hseq⟩ := hruns
  have same : ∀ i < 6, byteAt (s.bytes (s.slotAddr slot 0) 6) i = byteAt (s.bytes (s.slotAddr slot 0) 24) i :=
    fun i hi => byteAt_bytes_eq s _ hi (by omega)
  have seq : halfAt (s.bytes (s.slotAddr slot 0) 6) 4 = halfAt (s.bytes (s.slotAddr slot 0) 24) 4 := by
    rw [halfAt, halfAt, same 4 (by decide), same 5 (by decide)]
  let v := ((s.ticketTaken slot .routine).modScanner fun c => { c with state := .watch }).modComposer
    fun c => { c with ticket := some 0, phase := .begin }
  have tray : s.scanTray false = (.entered, v) := by
    rw [State.scanTray_routine h (by simp [hr]) hi hs (s.slotInFlight_free ht slot) hk (by rw [same 0 (by decide), h0])
      (by rw [same 2 (by decide)]; exact h2) (by rw [seq, hq]), seq]
    exact State.takeTicket_entered h h0 (if_neg h2) hv (ht 0) (by simp [hp])
  let w := v.modScanner fun c => { c with inFlight := false }
  have quiet : v.endScan = w := by
    rw [State.endScan_quiet (s := v) (by simp only [v]; rw [State.ticketTaken_eq]; exact hpend)
      (by simp only [v]; rw [State.ticketTaken_eq]; exact htm),
      State.sequenceGoesOn_none (by simp only [v]; rw [State.ticketTaken_eq]; exact hseq)]
  rw [State.scanStep_made hf hh, State.runScan_ends hf hh tray nofun, quiet]
  have taken : (s.ticketTaken slot .routine).TicketsStand w := (State.TicketsStand.refl _).of_same rfl rfl rfl rfl
  have begins : w.TicketsStand w.composerRun := by
    refine State.composerRun_begins (e := entryOf slot .routine (s.bytes (s.slotAddr slot 0) 24)) ?_ ?_ rfl ?_ rfl ?_ ?_ rfl rfl
    · simp only [w, v]
      rw [State.ticketTaken_eq]
      exact h
    · simp only [w, v]
      rw [State.ticketTaken_eq]
      exact hr
    · simp only [w, v]
      rw [State.ticketTaken_eq]
      exact hn
    · exact State.ticketTaken_flight 0
    · exact if_neg (by rw [h1]; decide)
  exact taken.trans begins

theorem State.phaseReady_openCut {s : State} (h : s.composer.phase = .openCut) :
    s.phaseReady = (!s.composer.galleyContent || s.hasRoom 1) := by
  simp only [State.phaseReady, h]

/-- With 16 records in the ring there is no room. -/
theorem State.hasRoom_full {s : State} (h : 16 ≤ s.store.records.length) : s.hasRoom 1 = false := by
  have : s.store.room = 0 := Nat.sub_eq_zero_of_le h
  simp [State.hasRoom, this]

/-- With content on the galley and the ring full the FLASH-OPEN cut waits. -/
theorem State.phaseReady_fullRing {s : State} {a : Addr} {bs : List Byte} (hg : s.composer.galleyContent = true)
    (hl : 16 ≤ s.store.records.length) : ((s.storeBytes a bs).setPhase .openCut).phaseReady = false := by
  have full : ((s.storeBytes a bs).setPhase .openCut).hasRoom 1 = false := State.hasRoom_full (by simpa using hl)
  rw [State.phaseReady_openCut rfl, full]
  simp [State.setPhase, hg]

theorem State.storeBytes_mem_congr {s t : State} (h : s.mem = t.mem) (a : Addr) (bs : List Byte) :
    (s.storeBytes a bs).mem = (t.storeBytes a bs).mem := by
  induction bs generalizing a s t with
  | nil => exact h
  | cons v rest ih => exact ih (congrArg (Memory.write · a.toNat v) h) _

theorem State.storeBytes_modComposer (a : Addr) (bs : List Byte) (s : State) (f : Composer → Composer) :
    (s.modComposer f).storeBytes a bs = (s.storeBytes a bs).modComposer f := by
  induction bs generalizing a s with
  | nil => rfl
  | cons v rest ih => exact ih _ (s.modMem fun m => Memory.write m a.toNat v)

theorem State.composerLoop_preempts {s : State} {i : Fin 8} (n : Nat) (hr : s.desk.controller = .running)
    (hp : s.composer.preempt = some i) (ha : s.accessInFlight = false) : s.composerLoop (n + 1) = (s.preemptFor i).composerLoop n := by
  rw [State.composerLoop, if_neg (by simp [hr, ha]), hp]

/-- The Composer with the TAKE ticket of entry `j` set aside for the flash of entry `i`, its place saved and its line discarded (R38). -/
def State.setAside (s : State) (i j : Fin 8) : State :=
  { s with
    store := { s.store with free := s.store.free + s.composer.drawn }
    composer := { s.composer with
      phase := .contextWrite, ticket := some i, preempt := none, suspended := some j, line := ⟨[], none, 0⟩, drawn := 0
      readPosition := s.composer.lineStart, savedOffset := s.composer.lineStart, saved := s.composer.snapshot } }

/-- The Composer sets a routine TAKE ticket aside for a flash, writes the Context Record, and with the ring full is BLOCKED at the
FLASH-OPEN cut. -/
theorem State.composerRun_preempts {s : State} {i j : Fin 8} {e : Entry} (h : s.bus = none) (hr : s.desk.controller = .running)
    (hp : s.composer.phase = .reading) (hn : s.composer.preempt = some i) (ht : s.composer.ticket = some j)
    (he : s.flight[j] = some e) (hk : e.kind = .take) (hg : s.composer.galleyContent = true) (hl : 16 ≤ s.store.records.length) :
    s.composerRun = State.settle (((s.setAside i j).setPhase .openCut).storeBytes
      (s.areaAddr s.desk.areas.context 0) (contextBytes (some j) s.composer.lineStart s.composer.snapshot)) := by
  have hte : s.ticketEntry = some (j, e) := State.ticketEntry_eq_some.2 ⟨ht, he⟩
  generalize hrec : contextBytes (some j) s.composer.lineStart s.composer.snapshot = record
  let t := s.setAside i j
  have preempted : s.preemptFor i = t := by
    simp only [State.preemptFor, hte, State.savedPlace, hk, hp]
    rfl
  let u := (t.storeBytes (s.areaAddr s.desk.areas.context 0) record).setPhase .openCut
  have written : t.composerPhase = u := by
    have : t.composerPhase = t.writeContext := rfl
    rw [this, State.writeContext]
    dsimp only
    rw [t.busWrite_none _ _ h, show contextBytes t.composer.suspended t.composer.savedOffset t.composer.saved = record from hrec]
    rfl
  obtain ⟨n, hfuel⟩ : ∃ n, composerFuel = n + 1 + 1 := ⟨126, rfl⟩
  have first := State.composerLoop_preempts (n + 1) hr hn (by simp [State.accessInFlight, hp])
  have second := t.composerLoop_phase n hr rfl rfl rfl
  rw [preempted] at first
  rw [written] at second
  have blocked : u.phaseReady = false := State.phaseReady_fullRing hg hl
  have waits : u.composerLoop n = u := State.composerLoop_wait _ (.inr ⟨by simp [u, State.setPhase, t, State.setAside], blocked⟩)
  rw [State.composerRun, hfuel, first, second, waits]
  exact congrArg State.settle (State.storeBytes_modComposer _ _ t _).symm

/-- A flash TAKE ticket in turn is taken by a scan in WATCH. -/
theorem State.scan_takes_flash {s : State} {slot : Nat} (h : s.bus = none) (hr : s.desk.controller = .running)
    (hruns : s.scanRuns) (h0 : s.flight[(0 : Fin 8)] = none) (hfree : s.slotInFlight slot = false)
    (hp : s.composer.phase = .reading) (hs : slot < 32) (hf : byteAt (s.bytes (s.slotAddr slot 0) 24) 0 = 1)
    (hv : s.validate (s.bytes (s.slotAddr slot 0) 24) = none) (h2 : byteAt (s.bytes (s.slotAddr slot 0) 24) 2 = 1)
    (hq : halfAt (s.bytes (s.slotAddr slot 0) 24) 4 = s.scanner.nextFlash)
    (hk : ∀ k < 32, k ≠ slot → byteAt (s.bytes (s.slotAddr k 0) 6) 0 ≠ 1) :
    s.scanStep = State.composerRun (((s.ticketTaken slot .flash).modScanner fun c =>
      { c with state := .locked, inFlight := false }).modComposer fun c => { c with preempt := some 0 }) := by
  obtain ⟨hi, hh, hpend, htm, hseq⟩ := hruns
  have same : ∀ i < 6, byteAt (s.bytes (s.slotAddr slot 0) 6) i = byteAt (s.bytes (s.slotAddr slot 0) 24) i :=
    fun i hi => byteAt_bytes_eq s _ hi (by omega)
  have seq : halfAt (s.bytes (s.slotAddr slot 0) 6) 4 = halfAt (s.bytes (s.slotAddr slot 0) 24) 4 := by
    rw [halfAt, halfAt, same 4 (by decide), same 5 (by decide)]
  let v := ((s.ticketTaken slot .flash).modScanner fun c => { c with state := .locked }).modComposer fun c => { c with preempt := some 0 }
  have tray : s.scanTray false = (.entered, v) := by
    refine State.scanTray_flash h (by simp [hr]) hs hfree hk (by rw [same 0 (by decide), hf])
      (by rw [same 2 (by decide), h2]) (by rw [seq, hq]) false ?_
    rw [seq]
    exact State.takeTicket_entered h hf (if_pos h2) hv h0 (by simp [hp])
  have quiet : v.endScan = v.modScanner fun c => { c with inFlight := false } := by
    rw [State.endScan_quiet (s := v) (by simp only [v]; rw [State.ticketTaken_eq]; exact hpend)
      (by simp only [v]; rw [State.ticketTaken_eq]; exact htm),
      State.sequenceGoesOn_none (by simp only [v]; rw [State.ticketTaken_eq]; exact hseq)]
  rw [State.scanStep_made hi hh, State.runScan_ends hi hh tray nofun, quiet]
  rfl

/-- Settles O30: the routine ticket and the flash. -/
theorem scanTakesTheRoutineTicketInTurn : Obligations.ScanTakesTheRoutineTicketInTurn := by
  constructor
  · intro s slot h hm hr hi hf hh hpend htm hseq ht _ hp hn _ hs t h0 h1 h2 hd hq hl ha hg hk
    have hv : s.validate t = none := State.validate_take h1 hd hl ha hg
    have stand := State.scan_takes_routine h hr hi ⟨hf, hh, hpend, htm, hseq⟩ ht hp hn hs h0 hv h1 h2 hq hk
    have mem : ∀ a, s.scanStep.byte a = (s.ticketTaken slot .routine).byte a := fun a => congrArg (Memory.read · a.toNat) stand.mem
    obtain ⟨e, he, g1, g2, g3, g4, g5, g6, g7, g8, g9⟩ := stand.entry 0 _ (State.ticketTaken_flight 0)
    refine ⟨_, rfl, ?_, fun a ha => ?_, ?_, ?_, ⟨e, he, g1, g2, g3.trans (if_neg ?_), g4, g5, g6, g7, g8, g9.trans (if_pos hg)⟩,
      fun i hi => stand.free i ?_⟩
    · rw [mem, State.ticketTaken_state hm]
    · rw [mem, State.ticketTaken_other ha]
    · rw [stand.nextRoutine, State.ticketTaken_eq]
      rfl
    · rw [stand.nextFlash, State.ticketTaken_eq]
      rfl
    · rw [h1]
      decide
    · rw [State.ticketTaken_flight, if_neg hi]
      exact ht i
  · intro s slot j e h hm hr hw hruns h0 hj hk hfree hp hn htk hs t context record hf h1 h2 hd hq hl ha hg hu hc hfull
    have hv : s.validate t = none := State.validate_take h1 hd hl ha hg
    have free : s.slotInFlight slot = false := by
      by_contra hcon
      obtain ⟨i, f, he, hes⟩ := (s.slotInFlight_iff slot).1 (by simpa using hcon)
      exact hfree i f he hes
    have step := State.scan_takes_flash h hr hruns h0 free hp hs hf hv h2 hq hu
    have hj0 : j ≠ 0 := fun e0 => by
      rw [e0, h0] at hj
      cases hj
    have hl64 : record.length = 64 := contextBytes_length ..
    have htake : record.take 4 = [1, BitVec.ofNat 8 j.val] ++ natBytes s.composer.lineStart := rfl
    let w : State := { s with
      mem := (s.storeBytes (s.slotAddr slot 0) [2]).mem
      scanner := { s.scanner with state := .locked, inFlight := false, nextFlash := s.scanner.nextFlash + 1 }
      flight := (s.ticketTaken slot .flash).flight
      composer := { s.composer with preempt := some 0 } }
    have entered : ((s.ticketTaken slot .flash).modScanner fun c => { c with state := .locked, inFlight := false }).modComposer
        (fun c => { c with preempt := some 0 }) = w := by
      rw [State.ticketTaken_eq]
      rfl
    have wj : w.flight[j] = some e := by
      have := State.ticketTaken_flight (s := s) (slot := slot) (cls := .flash) j
      rw [if_neg hj0, hj] at this
      exact this
    have run : s.scanStep = (((w.setAside 0 j).setPhase .openCut).storeBytes context record).settle := by
      rw [step, entered]
      exact State.composerRun_preempts (s := w) h hr hp rfl htk wj hk hc hfull
    clear_value record
    have hmem : s.scanStep.mem = ((s.storeBytes (s.slotAddr slot 0) [2]).storeBytes context record).mem := by
      rw [run, State.settle_mem]
      exact State.storeBytes_mem_congr (t := s.storeBytes (s.slotAddr slot 0) [2]) (by rfl) _ _
    have hw := State.storeBytes_wf (s.slotAddr slot 0) [2] s hm
    have flight0 : s.scanStep.flight[(0 : Fin 8)] =
        some (State.dueEntry (((w.setAside 0 j).setPhase .openCut).storeBytes context record) 0 (entryOf slot .flash t)) := by
      have := State.ticketTaken_flight (s := s) (slot := slot) (cls := .flash) 0
      rw [if_pos rfl] at this
      rw [run, State.settle_flight, State.storeBytes_flight]
      exact congrArg _ this
    refine ⟨_, rfl, hmem, fun n hn => ?_, htake, fun a ha hout => ?_, ?_, ?_, ?_, _, flight0, rfl, rfl, if_neg ?_, rfl, rfl, rfl⟩
    · rw [State.byte, hmem, List.getElem?_eq_getElem (by omega)]
      exact congrArg some (State.storeBytes_self context record _ hw (by omega) n (by omega))
    · rw [State.byte, hmem]
      refine (State.storeBytes_other context record _ a fun i hi => hout i (by omega)).trans ?_
      exact State.ticketTaken_other (cls := .flash) ha
    · rw [run, State.settle_scanner, State.storeBytes_scanner]
      rfl
    · rw [run, State.settle_composer, State.storeBytes_composer]
      simp [State.setPhase, State.setAside, w, hn]
    · rw [run, State.settle_store, State.storeBytes_store]
      rfl
    · rw [h1]
      decide

end Sys2Proof.Machine
end

section
/-! CANCEL (R15, R34, R41, R45, R126). -/

namespace Sys2Proof.Machine

/-! ### Settling again (R34) -/

/-- Settling does not ask of the Desk unit but for the controller. -/
theorem State.settle_modDesk (s : State) (f : Desk → Desk) (h : (f s.desk).controller = s.desk.controller) :
    (s.modDesk f).settle = s.settle.modDesk f := by
  have hm : (s.modDesk f).markDue = s.markDue.modDesk f := by
    unfold State.markDue
    rw [State.modDesk_desk, h]
    split <;> rfl
  rw [State.settle, State.settle, hm]
  generalize s.markDue = t
  have hc : (t.modDesk f).chosenDue = t.chosenDue := rfl
  unfold State.beginResult
  rw [hc, State.modDesk_resultWrite, State.modDesk_flight]
  split
  · rfl
  · split
    · rfl
    · split <;> rfl

theorem State.markDue_markDue_of {s t : State} (hd : t.desk.controller = s.desk.controller) (hc : t.composer = s.composer)
    (hf : t.flight = s.markDue.flight) : t.markDue = t := by
  unfold State.markDue
  split
  next hr =>
    refine congrArg (fun v => ({ t with flight := v } : State)) (Vector.ext fun n hn => ?_)
    have : t.flight[(⟨n, hn⟩ : Fin 8)] = (s.flight[(⟨n, hn⟩ : Fin 8)]).map (s.dueEntry ⟨n, hn⟩) := by rw [hf, State.markDue_flight]
    simp only [Fin.getElem_fin] at this
    simp only [Vector.getElem_ofFn, Fin.getElem_fin, this, Option.map_map]
    congr 1
    funext e
    simp only [Function.comp, State.dueEntry, Entry.complete, State.stillAppending, hc, ← hd, hr, decide_true]
    cases e.due <;> simp [bne, Bool.and_assoc]
  · rfl

/-- Settling twice is settling once. -/
theorem State.settle_settle (s : State) : s.settle.settle = s.settle := by
  have hm : s.settle.markDue = s.settle := State.markDue_markDue_of (s := s) (by rw [State.settle_desk]) (State.settle_composer s)
    (by rw [State.settle, State.beginResult_flight])
  rw [State.settle, hm]
  cases hw : s.settle.resultWrite with
  | some w => exact State.beginResult_busy hw
  | none =>
    have free : s.markDue.beginResult.resultWrite = none := hw
    rcases h0 : s.markDue.resultWrite with _ | w
    · rcases State.beginResult_cases h0 with ⟨hd, -⟩ | ⟨i, e, -, -, hr⟩
      · have hc : s.settle.chosenDue = none := by
          have : s.settle.dueEntries = [] := by
            rw [← hd]
            simp only [State.dueEntries, State.settle, State.beginResult_flight]
          simp only [State.chosenDue, this]
        unfold State.beginResult
        rw [hw, hc]
      · rw [hr] at free
        cases free
    · rw [State.beginResult_busy h0, h0] at free
      cases free

/-! ### Withdrawing (R126) -/

/-- What a withdrawal makes of the records, place by place. -/
theorem withdrawFrom_eq (i : Fin 8) (k : Nat) (rs : List Record) : withdrawFrom i k rs =
    (rs.mapIdx fun n r => if decide (k ≤ n) && (r.entry == i) && r.withdrawable then { r with withdrawn := true } else r,
      (rs.mapIdx fun n r => decide (k ≤ n) && (r.entry == i) && r.withdrawable && r.cutsGalley).any id) := by
  induction rs generalizing k with
  | nil => cases k <;> rfl
  | cons r rest ih =>
    cases k with
    | zero =>
      rw [withdrawFrom, ih]
      dsimp only
      by_cases h : r.entry = i ∧ r.withdrawable = true
      · rw [if_pos h]
        simp [List.mapIdx_cons, h.1, h.2, Bool.or_comm]
      · rw [if_neg h]
        have : ((r.entry == i) && r.withdrawable) = false := by simpa using h
        simp only [List.mapIdx_cons, List.any_cons, Nat.zero_le, decide_true, Bool.true_and, this, Bool.false_and]
        rfl
    | succ k =>
      rw [withdrawFrom, ih]
      simp [List.mapIdx_cons]

/-- A withdrawal changes the records, and sets the galley-content flag where it withdraws a CUT with FILM. -/
theorem State.withdraw_eq (i : Fin 8) (s : State) : s.withdraw i =
    (s.modStore fun l => { l with records := (withdrawFrom i (max s.store.film.reached s.store.proof.reached) s.store.records).1 }).modComposer
      fun c => { c with galleyContent :=
        c.galleyContent || (withdrawFrom i (max s.store.film.reached s.store.proof.reached) s.store.records).2 } := by
  unfold State.withdraw
  dsimp only
  split
  next h =>
    rw [h]
    simp [State.modComposer]
  next h =>
    rw [Bool.not_eq_true] at h
    rw [h]
    simp only [Bool.or_false]
    rfl

/-! ### CANCEL (R15, R45) -/

/-- A slot that one entry alone holds names that entry. -/
theorem State.entryOfSlot_of_unique {s : State} {slot : Nat} {i : Fin 8} {e : Entry} (he : s.flight[i] = some e) (hs : e.slot = slot)
    (hu : ∀ (j : Fin 8) (f : Entry), s.flight[j] = some f → f.slot = slot → j = i) : s.entryOfSlot slot = some i := by
  cases h : s.entryOfSlot slot with
  | none =>
    have := List.find?_eq_none.1 h i (List.mem_finRange i)
    rw [he] at this
    simp [hs] at this
  | some j =>
    obtain ⟨f, hf, hfs⟩ := State.entryOfSlot_holds h
    rw [hu j f hf hfs]

/-- CANCEL marks its ticket, withdraws its records, and ends its composition where it stands. -/
theorem State.cancelCommand_marks {s : State} {slot : Nat} {i : Fin 8} {e : Entry} (hs : slot ≤ 31) (he : s.flight[i] = some e)
    (hes : e.slot = slot) (hu : ∀ (j : Fin 8) (f : Entry), s.flight[j] = some f → f.slot = slot → j = i) (hw : s.resultWrite = none) :
    s.cancelCommand slot = (((s.modEntry i fun e => { e with cancelMark := true }).withdraw i).cancelComposition i e).settle := by
  unfold State.cancelCommand
  rw [if_pos hs, State.entryOfSlot_of_unique he hes hu]
  dsimp only
  rw [he]
  dsimp only
  rw [State.withdraw_resultWrite, State.modEntry_resultWrite, hw]

/-- A ticket whose composition is finished, or that the Composer does not have, is cancelled at once. -/
theorem State.cancelComposition_ends {s : State} {i : Fin 8} {e : Entry} (hf : s.composer.ticket = some i → e.finished = true)
    (hp : s.composer.preempt ≠ some i) (hs : s.composer.suspended ≠ some i) : s.cancelComposition i e = s.endCommand .accepted := by
  unfold State.cancelComposition
  rw [if_neg hp, if_neg hs]
  split
  next h => rw [if_pos (hf h)]
  · rfl

/-- A ticket being composed, between codes, is stopped. -/
theorem State.cancelComposition_composed {s : State} {i : Fin 8} {e : Entry} (ht : s.composer.ticket = some i) (hf : e.finished = false)
    (hp : s.composer.phase = .reading) :
    s.cancelComposition i e = ((s.cancelComposed i e).composerRun).endCommand .accepted := by
  unfold State.cancelComposition
  rw [if_pos ht, if_neg (by simp [hf]), if_neg (by simp [State.accessInFlight, hp]), if_neg (by simp [hp, Phase.preempting])]

/-! ### A routine ticket leaves the Composer (R22, R84) -/

/-- A routine ticket that leaves, with nothing to hinder a scan, puts the scanner in IDLE with a scan. -/
theorem State.leaveTicket_scans {s : State} (h : s.scanCanStart) : s.leaveTicket .routine =
    (s.modComposer fun c => { c with ticket := none, phase := .idle }).modScanner Scanner.released := by
  obtain ⟨hr, hw, hf, j, hj⟩ := h
  let t := (s.modComposer fun c => { c with ticket := none, phase := .idle }).modScanner fun c => { c with state := .idle }
  have full : t.flightFull = false := State.flightFull_of_free hj
  have clear : t.scanHindered = false := by simp [State.scanHindered, full, t, hr, hf]
  unfold State.leaveTicket
  dsimp only
  rw [if_pos (by exact hw)]
  exact (State.trigger_scans (s := t) (by simp [t, hr]) clear).trans rfl

theorem State.modEntry_of_some {s : State} {i : Fin 8} {e : Entry} (he : s.flight[i] = some e) (f : Entry → Entry) :
    s.modEntry i f = s.modFlight fun v => v.set i.val (some (f e)) := by
  have key : ∀ v : Vector (Option Entry) 8, v[i] = some e → v.set i.val (v[i].map f) = v.set i.val (some (f e)) := fun v hv => by
    rw [hv]
    rfl
  exact congrArg (fun v => ({ s with flight := v } : State)) (key s.flight he)

/-- An entry other than the one changed stays free. -/
theorem State.modEntry_free {s : State} {i j : Fin 8} {f : Entry → Entry} (hj : s.flight[j] = none) : (s.modEntry i f).flight[j] = none := by
  rw [State.modEntry_flight]
  split
  next e => rw [← e, hj]; rfl
  · exact hj

/-- A Composer at rest settles, and a command that ends then settles no more. -/
theorem State.settled_run_ends {s : State} (hb : s.desk.busy = none) (h : s.composerAtRest) :
    (s.composerRun.endCommand .accepted).settle = (s.modDesk fun d => d.ends .accepted).settle := by
  rw [State.composerRun_atRest h, State.endCommand_free (by rw [State.settle_desk, hb]), State.settle_modDesk _ _ rfl,
    State.settle_settle, State.settle_modDesk _ _ rfl]

/-- A routine TAKE ticket stopped between codes by a cancel. -/
theorem State.cancelComposed_routine {s : State} {i : Fin 8} {e f : Entry} (he : s.flight[i] = some f) (hk : e.kind = .take)
    (hc : e.cls = .routine) (hp : s.composer.phase = .reading) (hs : s.scanCanStart) :
    s.cancelComposed i e = { s with
      store := { s.store with free := s.store.free + s.composer.drawn }
      flight := s.flight.set i.val (some { f with stopOffset := s.composer.lineStart, finished := true })
      composer := ({ s.composer with
        line := ⟨[], none, 0⟩, drawn := 0, readPosition := s.composer.lineStart }).released s.composer.current
      scanner := s.scanner.released } := by
  obtain ⟨hr, hw, hf, j, hj⟩ := hs
  have begun : (s.composer.phase != .begin) = true := by rw [hp]; rfl
  have take : (e.kind == .take) = true := by rw [hk]; rfl
  unfold State.cancelComposed
  dsimp only
  rw [begun, take, hc, Bool.and_self, if_pos rfl, if_pos rfl, State.leaveTicket_scans
      (by exact ⟨hr, hw, hf, j, State.modEntry_free hj⟩),
    State.modEntry_of_some (e := f) (by exact he)]
  rfl

/-- Settles O23: a ticket finished, and a routine ticket being composed. -/
theorem cancelOfADrainingTicket : Obligations.CancelOfADrainingTicket := by
  intro s operand i e hb hc hs he hes hu hw hp hsus reached withdrawn records uncut
  let x := ((s.modFlight fun v => v.set i.val (some { e with cancelMark := true })).modStore fun l => { l with records := records }).modComposer
    fun c => { c with galleyContent := c.galleyContent || uncut }
  have marked : (s.modEntry i fun e => { e with cancelMark := true }).withdraw i = x := by
    have hrs : (withdrawFrom i reached s.store.records).1 = records := by rw [withdrawFrom_eq]; rfl
    have hcut : (withdrawFrom i reached s.store.records).2 = uncut := by
      rw [withdrawFrom_eq]
      simp only [Record.cutsGalley, Record.withdrawable, ← Bool.and_assoc]
      rfl
    rw [State.withdraw_eq, State.modEntry_of_some he]
    simp only [State.modFlight_store]
    rw [hrs, hcut]
  have step : s.cancelWrite operand = (x.cancelComposition i e).settle := by
    rw [← marked]
    exact (State.commandWrite_taken hb (by simpa using hc)).trans (State.cancelCommand_marks hs he hes hu hw)
  refine ⟨fun hf => ?_, fun hf hcls hk ht hph hpre hscan => ?_⟩
  · refine congrArg Host.Outcome.next (step.trans ?_)
    rw [State.cancelComposition_ends (s := x) (fun _ => hf) hp hsus, State.endCommand_free (s := x) hb]
  · refine congrArg Host.Outcome.next (step.trans ?_)
    obtain ⟨hr, hwt, hfl, j, hj⟩ := hscan
    have hij : j ≠ i := fun e' => by
      rw [e', he] at hj
      cases hj
    have xj : x.flight[j] = none := by
      have := State.modEntry_free (i := i) (f := fun e => { e with cancelMark := true }) hj
      rw [State.modEntry_of_some he] at this
      exact this
    have xi : x.flight[i] = some { e with cancelMark := true } := by simp [x]
    rw [State.cancelComposition_composed (s := x) ht hf hph,
      State.cancelComposed_routine (s := x) (f := { e with cancelMark := true }) xi hk hcls hph ⟨hr, hwt, hfl, j, xj⟩]
    refine (State.settled_run_ends (by exact hb) (by exact ⟨hpre, .inl rfl⟩)).trans (congrArg State.settle ?_)
    exact congrArg (fun v => ({ s with
      store := { s.store with records := records, free := s.store.free + s.composer.drawn }
      flight := v
      composer := _
      scanner := s.scanner.released
      desk := s.desk.ends .accepted } : State)) (Vector.set_set ..)

end Sys2Proof.Machine
end

section
/-! PROOFS. The codes of the take language that act and leave the Composer between codes: the composition commands, the spaces and
moves, and the choice of a lens (spec 03). -/

namespace Sys2Proof.Machine

/-! ### A code read whole -/

/-- The code at the read position acts on the state with the read position past it, and the Composer runs on. -/
theorem State.takeCode_acts {s : State} {i : Fin 8} {e : Entry} {code : Byte} {operands : List Byte} {row : Nat → Bool}
    {act : CodeAction} (h : s.readsCode i e (code :: operands)) (ho : operandCount code = operands.length)
    (hrow : row code.toNat = true) :
    s.takeCode row act = (act s.composer.readPosition code.toNat operands
      (s.modComposer fun c => c.pastCode (operands.length + 1))).composerRun := by
  obtain ⟨hb, hr, hp, hn, ht, he, hl, hm⟩ := h
  rw [s.takeCode_reads i e code operands row act hb hr hp hn ht he hl hm ho hrow, Nat.add_right_comm]
  rfl

/-- A Composer that stands between codes with no flash to preempt for goes on to nothing. -/
theorem State.composerRun_reading {t : State} (hn : t.composer.preempt = none) (hp : t.composer.phase = .reading) :
    t.composerRun = t.settle := by
  rw [State.composerRun, t.composerLoop_reading _ hn hp]

/-- A code that leaves the Composer between codes changes what it changes, and the Flight Table settles. -/
theorem State.takeCode_settles {s t : State} {i : Fin 8} {e : Entry} {code : Byte} {operands : List Byte} {row : Nat → Bool}
    {act : CodeAction} (h : s.readsCode i e (code :: operands)) (ho : operandCount code = operands.length)
    (hrow : row code.toNat = true)
    (ha : act s.composer.readPosition code.toNat operands (s.modComposer fun c => c.pastCode (operands.length + 1)) = t)
    (hn : t.composer.preempt = s.composer.preempt) (hp : t.composer.phase = s.composer.phase) :
    s.takeCode row act = t.settle := by
  rw [State.takeCode_acts h ho hrow, ha, State.composerRun_reading (hn.trans h.2.2.2.1) (hp.trans h.2.2.1)]

/-- A condition raised where a test holds, as the statements write it. -/
theorem condIf_decide (c : Half) (p : Prop) [Decidable p] (b : Bool) (h : b = decide p) : condIf c b = if p then c else 0 := by
  rw [condIf, h]
  simp

/-- A composition command of `n` bytes leaves its trace and changes the composition state. -/
theorem State.command_after (s : State) (n : Nat) (conditions : Half) (f : CompState → CompState) :
    (s.modComposer fun c => c.pastCode n).command s.composer.readPosition conditions f
      = s.modComposer fun k => { k.afterCode n (k.trace conditions) with current := f k.current } := rfl

/-- An element of a code of `n` bytes is placed in the line being built. -/
theorem State.pushElement_after (s : State) (n : Nat) (x : Element) (conditions : Half) :
    (s.modComposer fun c => c.pastCode n).pushElement s.composer.readPosition x conditions
      = s.modComposer fun k => k.afterCode n { k.trace conditions with element := some x } := rfl

/-! ### The composition commands (R57 to R60) -/

/-- A value within its bounds is left by the clamp, and one outside is not. -/
theorem clamp_ne_decide (lo hi n : Nat) (h : lo ≤ hi) : (clamp lo hi n != n) = decide (n < lo ∨ hi < n) := by
  rw [Bool.eq_iff_iff, bne_iff_ne, decide_eq_true_eq, clamp]
  omega

/-- Settles O32: each command is read whole, and its action is its own change of the composition state. -/
theorem compositionCommandsSetTheirOwnValue : Obligations.CompositionCommandsSetTheirOwnValue := by
  intro s i e n lo hi became now
  have command : ∀ {code : Byte} {operands : List Byte} {row : Nat → Bool} {act : CodeAction} {conditions : Half}
      {f : CompState → CompState}, s.readsCode i e (code :: operands) → operandCount code = operands.length → row code.toNat = true →
      act s.composer.readPosition code.toNat operands (s.modComposer fun c => c.pastCode (operands.length + 1))
        = (s.modComposer fun c => c.pastCode (operands.length + 1)).command s.composer.readPosition conditions f →
      Host.Outcome.next (s.takeCode row act) = became (operands.length + 1) conditions (f now) :=
    fun h ho hrow ha => congrArg Host.Outcome.next (State.takeCode_settles h ho hrow (ha.trans (State.command_after ..)) rfl rfl)
  refine ⟨fun h => ?_, fun h => ?_, fun h => ?_, fun h => ?_, fun h => ?_, fun h => ?_⟩
  · exact command (act := actHyphenation false) h rfl rfl rfl
  · exact command (act := actHyphenation true) h rfl rfl rfl
  · exact command (act := actLeading) h rfl rfl rfl
  · refine (command (act := actSetSize) (conditions := condIf Cond.clamped (clamp 10 144 n.toNat != n.toNat))
      (f := fun c => { c with setSize := clamp 10 144 n.toNat }) h rfl rfl rfl).trans ?_
    rw [condIf_decide _ _ _ (clamp_ne_decide 10 144 _ (by omega))]
    rfl
  · refine (command (act := actLetterspace) (conditions := condIf Cond.clamped (decide (15 < n.toNat)))
      (f := fun c => { c with letterspace := min 15 n.toNat }) h rfl rfl rfl).trans ?_
    rw [condIf_decide _ (15 < n.toNat) _ rfl]
    rfl
  · by_cases hn : n.toNat ≤ 15
    · rw [if_pos hn]
      exact command (act := actTabStopSet) h rfl rfl (if_neg (Nat.not_lt.mpr hn))
    · rw [if_neg hn]
      exact command (act := actTabStopSet) (f := id) h rfl rfl (if_pos (Nat.lt_of_not_le hn))

/-- Settles O34: each code is read whole, and clamps what it sets. -/
theorem measureAndIndentsAreClamped : Obligations.MeasureAndIndentsAreClamped := by
  intro s i e lo hi n m now became
  have command : ∀ {code : Byte} {row : Nat → Bool} {act : CodeAction} {clamped : Bool} {f : CompState → CompState}
      (p : Prop) [Decidable p], s.readsCode i e [code, lo, hi] → operandCount code = 2 → row code.toNat = true →
      act s.composer.readPosition code.toNat [lo, hi] (s.modComposer fun c => c.pastCode 3)
        = (s.modComposer fun c => c.pastCode 3).command s.composer.readPosition (condIf Cond.clamped clamped) f →
      clamped = decide p → Host.Outcome.next (s.takeCode row act) = became p (f now) := by
    intro code row act clamped f p _ h ho hrow ha hc
    rw [condIf_decide _ p _ hc] at ha
    exact congrArg Host.Outcome.next (State.takeCode_settles h ho hrow (ha.trans (State.command_after ..)) rfl rfl)
  refine ⟨fun h => ?_, fun h => ?_, fun h => ?_⟩
  · refine command (act := actMeasure) (clamped := decide (m < n ∨ m < now.indentLeft ∨ m < now.indentRight))
      (f := fun c => { c with measure := m, indentLeft := min m c.indentLeft, indentRight := min m c.indentRight })
      _ h rfl rfl rfl ?_
    have : min 17280 n < n ↔ 17280 < n := by omega
    exact decide_eq_decide.mpr (or_congr_left this)
  · exact command (act := actIndentLeft) (clamped := decide (now.measure < n))
      (f := fun c => { c with indentLeft := min c.measure n }) _ h rfl rfl rfl rfl
  · exact command (act := actIndentRight) (clamped := decide (now.measure < n))
      (f := fun c => { c with indentRight := min c.measure n }) _ h rfl rfl rfl rfl

/-! ### The lens chosen for a size (R110) -/

/-- The gap between two sizes, as the statements write it. -/
theorem sizeGap_eq (p n : Nat) : sizeGap p n = ((n : Int) - p).natAbs := by
  unfold sizeGap
  split <;> omega

/-- The lens position `j` is at least as good for a size as `k`: nearer, or as near and smaller, or of the same size and no higher. -/
def lensBeats (p : Nat) (lens : Vector Nat 8) (j k : Fin 8) : Prop :=
  sizeGap p lens[j] < sizeGap p lens[k] ∨ (sizeGap p lens[j] = sizeGap p lens[k] ∧ lens[j] < lens[k])
    ∨ (sizeGap p lens[j] = sizeGap p lens[k] ∧ lens[j] = lens[k] ∧ j ≤ k)

/-- What the choice of a lens has in hand after one more position. -/
def betterLens (p : Nat) (lens : Vector Nat 8) (best i : Fin 8) : Fin 8 :=
  if lens[i] ≠ 0 ∧ (lens[best] = 0 ∨ nearer p lens i best = true) then i else best

/-- The choice of a lens goes through the eight positions in order. -/
theorem lensFor_eq (p : Nat) (lens : Vector Nat 8) : lensFor lens p = (List.finRange 8).foldl (betterLens p lens) 0 := rfl

/-- The test of nearness, in the words of R110. -/
theorem nearer_iff (p : Nat) (lens : Vector Nat 8) (i j : Fin 8) : nearer p lens i j = true ↔
    sizeGap p lens[i] < sizeGap p lens[j] ∨ (sizeGap p lens[i] = sizeGap p lens[j] ∧ lens[i] < lens[j]) := by
  simp [nearer]

/-- The best position replaces any that stands before it. -/
theorem betterLens_takes {p : Nat} {lens : Vector Nat 8} {j best : Fin 8} (hj : lens[j] ≠ 0) (hle : best ≤ j)
    (h : lens[best] ≠ 0 → lensBeats p lens j best) : betterLens p lens best j = j := by
  unfold betterLens
  by_cases hb : lens[best] = 0
  · rw [if_pos ⟨hj, .inl hb⟩]
  · rcases h hb with hlt | hlt | ⟨-, -, hge⟩
    · rw [if_pos ⟨hj, .inr ((nearer_iff ..).mpr (.inl hlt))⟩]
    · rw [if_pos ⟨hj, .inr ((nearer_iff ..).mpr (.inr hlt))⟩]
    · rw [Fin.le_antisymm hle hge]
      exact ite_self _

/-- The best position is not replaced. -/
theorem betterLens_keeps {p : Nat} {lens : Vector Nat 8} {j i : Fin 8} (hj : lens[j] ≠ 0)
    (h : lens[i] ≠ 0 → lensBeats p lens j i) : betterLens p lens j i = j := by
  refine if_neg ?_
  rintro ⟨hi, hz | hn⟩
  · exact hj hz
  · rw [nearer_iff] at hn
    rcases h hi with hb | hb | hb <;> omega

/-- Going through positions in rising order, from one at or below them, ends at the best of them. -/
theorem foldl_betterLens {p : Nat} {lens : Vector Nat 8} {j : Fin 8} (hj : lens[j] ≠ 0)
    (h : ∀ k : Fin 8, lens[k] ≠ 0 → lensBeats p lens j k) :
    ∀ (l : List (Fin 8)) (best : Fin 8), l.Pairwise (· < ·) → (∀ i ∈ l, best ≤ i) → (j = best ∨ j ∈ l) →
      l.foldl (betterLens p lens) best = j
  | [], _, _, _, hm => (hm.resolve_right List.not_mem_nil).symm
  | i :: l, best, hs, hle, hm => by
    obtain ⟨hi, hl⟩ := List.pairwise_cons.mp hs
    have hbi := hle i List.mem_cons_self
    rw [List.foldl_cons]
    rcases hm with rfl | hm'
    · rw [betterLens_keeps hj (h i)]
      exact foldl_betterLens hj h l j hl (fun k hk => hle k (List.mem_cons_of_mem _ hk)) (.inl rfl)
    · rcases List.mem_cons.mp hm' with rfl | hm
      · rw [betterLens_takes hj hbi (h best)]
        exact foldl_betterLens hj h l _ hl (fun k hk => (hi k hk).le) (.inl rfl)
      · refine foldl_betterLens hj h l _ hl (fun k hk => ?_) (.inr hm)
        unfold betterLens
        split
        · exact (hi k hk).le
        · exact hle k (List.mem_cons_of_mem _ hk)

/-- The lens chosen is the best of the nonempty positions (R110). -/
theorem lensFor_best {p : Nat} {lens : Vector Nat 8} {j : Fin 8} (hj : lens[j] ≠ 0)
    (h : ∀ k : Fin 8, lens[k] ≠ 0 → lensBeats p lens j k) : lensFor lens p = j := by
  rw [lensFor_eq]
  exact foldl_betterLens hj h _ 0 (List.pairwise_lt_finRange 8) (fun i _ => Fin.zero_le i) (.inr (List.mem_finRange j))

/-- Settles O33: the lens chosen is the best of the nonempty positions, and the code takes its size. -/
theorem pointSizeTakesTheNearestLens : Obligations.PointSizeTakesTheNearestLens := by
  intro s i e p j size gap h hj best
  have hlens : lensFor s.desk.setup.lens p.toNat = j := by
    refine lensFor_best hj fun k hk => ?_
    simpa only [lensBeats, sizeGap_eq] using best k hk
  have hsub : substitute s.desk.setup p.toNat = (j, size j, if size j = p.toNat then 0 else 0x40) := by
    have hraised : condIf Cond.substituted (size j != p.toNat) = if size j = p.toNat then 0 else 0x40 := by
      rw [condIf_decide _ (size j ≠ p.toNat) _ (by rw [Bool.eq_iff_iff]; simp), ite_not]
      rfl
    rw [← hraised]
    simp only [substitute, hlens]
    rfl
  refine congrArg Host.Outcome.next (State.takeCode_settles (act := actPointSize) h rfl rfl ?_ rfl rfl)
  refine Eq.trans ?_ (State.command_after s 2 (if size j = p.toNat then 0 else 0x40)
    fun c => { c with pointSize := size j, lens := j, setSize := size j })
  show (let (k, size, substituted) := substitute s.desk.setup p.toNat
    (s.modComposer fun c => c.pastCode 2).command s.composer.readPosition substituted fun c =>
      { c with pointSize := size, lens := k, setSize := size }) = _
  rw [hsub]

/-! ### The codes that draw no item (R55, R60, R65) -/

/-- Settles O36: each code is read whole, and places or marks what it places or marks. -/
theorem codesThatDrawNoItem : Obligations.CodesThatDrawNoItem := by
  intro s i e n lo hi became plain
  have places : ∀ {code : Byte} {operands : List Byte} {row : Nat → Bool} {act : CodeAction} {x : Element},
      s.readsCode i e (code :: operands) → operandCount code = operands.length → row code.toNat = true →
      act s.composer.readPosition code.toNat operands (s.modComposer fun c => c.pastCode (operands.length + 1))
        = (s.modComposer fun c => c.pastCode (operands.length + 1)).pushElement s.composer.readPosition x 0 →
      Host.Outcome.next (s.takeCode row act) = became (operands.length + 1) { plain with element := some x } :=
    fun h ho hrow ha => congrArg Host.Outcome.next (State.takeCode_settles h ho hrow (ha.trans (State.pushElement_after ..)) rfl rfl)
  refine ⟨fun x hx h => ?_, fun h => ?_, fun h => ?_, fun h hn => ?_, fun h => ?_, fun h => ?_, fun h => ?_⟩
  · simp only [List.mem_cons, List.not_mem_nil, or_false] at hx
    rcases hx with rfl | rfl | rfl <;> exact places (act := actFixedSpace) h rfl rfl rfl
  · exact congrArg Host.Outcome.next (State.takeCode_settles (act := actDiscretionary) h rfl rfl rfl rfl rfl)
  · exact congrArg Host.Outcome.next (State.takeCode_settles (act := actFill) h rfl rfl rfl rfl rfl)
  · have hop : operandCount n = 0 := by
      unfold operandCount
      split <;> omega
    exact congrArg Host.Outcome.next (State.takeCode_settles (act := actBadCode) h hop (decide_eq_true hn) rfl rfl rfl)
  · refine (places (act := actTabTo) h rfl rfl rfl).trans ?_
    have hword : s.composer.current.tabWord n.toNat = match if n.toNat ≤ 15 then s.composer.current.tabs.getD n.toNat none else none with
        | some t => if t ≤ 32767 then .num (16 * t) else .overPlus
        | none => .void := by
      unfold CompState.tabWord
      by_cases hn : n.toNat ≤ 15
      · rw [if_neg (Nat.not_lt.mpr hn), if_pos hn]
        rfl
      · rw [if_pos (Nat.lt_of_not_le hn), if_neg hn]
    exact congrArg (fun w => became 2 { plain with element := some (.place w) }) hword
  · exact places (act := actMoveTo) h rfl rfl rfl
  · exact places (act := actMoveBy) h rfl rfl rfl

end Sys2Proof.Machine
end

section
/-! PROOFS. The Width Store: which slot holds a font, how a selection ends, and the loads (spec 06, sections 7.1 and 7.2). -/

namespace Sys2Proof.Machine

/-! ### Slots of the Width Store (R104, R105) -/

/-- A search of the eight positions gives the lowest that passes its test. -/
theorem find?_finRange_lowest {p : Fin 8 → Bool} {j : Fin 8} (hj : p j = true) (hl : ∀ k < j, p k = false) :
    (List.finRange 8).find? p = some j := by
  cases h : (List.finRange 8).find? p with
  | none => exact absurd hj (List.find?_eq_none.mp h j (List.mem_finRange j))
  | some k =>
    obtain ⟨hk, l, r, hlr, hne⟩ := List.find?_eq_some_iff_append.mp h
    have hle : k ≤ j := by
      by_contra hlt
      have hm : j ∈ l := by
        have hmem : j ∈ l ++ k :: r := hlr ▸ List.mem_finRange j
        have hs := List.pairwise_append.mp (hlr ▸ List.pairwise_lt_finRange 8 : (l ++ k :: r).Pairwise (· < ·))
        rcases List.mem_append.mp hmem with hm | hm
        · exact hm
        · rcases List.mem_cons.mp hm with rfl | hm
          · exact absurd (Fin.le_refl _) hlt
          · exact absurd ((List.pairwise_cons.mp hs.2.1).1 j hm).le hlt
      have := hne j hm
      rw [hj] at this
      cases this
    rcases hle.lt_or_eq with hlt | rfl
    · rw [hl k hlt] at hk
      cases hk
    · rfl

/-- A search of the eight positions gives the one that passes its test. -/
theorem find?_finRange_unique {p : Fin 8 → Bool} {j : Fin 8} (hj : p j = true) (hu : ∀ k, p k = true → k = j) :
    (List.finRange 8).find? p = some j :=
  find?_finRange_lowest hj fun k hk => Bool.eq_false_iff.mpr fun h => absurd (hu k h) hk.ne

/-- The slot found is the one that holds the font. -/
theorem FontControl.slotOf_holdsOnly {c : FontControl} {f : Nat} {j : Fin 8} {x : FontSlot} (h : c.holdsOnly f j x) :
    c.slotOf f = some j := by
  obtain ⟨hx, hf, hu⟩ := h
  refine find?_finRange_unique (by rw [hx]; simpa using hf) fun k hk => ?_
  cases hy : c.store[k] with
  | none =>
    rw [hy] at hk
    cases hk
  | some y => exact hu k y hy (by rw [hy] at hk; simpa using hk)

/-- Where no slot holds the font none is found. -/
theorem FontControl.slotOf_absent {c : FontControl} {f : Nat} (h : ∀ (k : Fin 8) (x : FontSlot), c.store[k] = some x → x.font ≠ f) :
    c.slotOf f = none := by
  refine List.find?_eq_none.mpr fun k _ => ?_
  cases hy : c.store[k] with
  | none => simp
  | some y => simpa using h k y hy

/-- The table and the strip ID of the font that a slot alone holds. -/
theorem FontControl.tableOf_holdsOnly {c : FontControl} {f : Nat} {j : Fin 8} {x : FontSlot} (h : c.holdsOnly f j x) :
    c.tableOf f = (x.table, x.strip) := by
  rw [FontControl.tableOf, FontControl.slotOf_holdsOnly h, Option.bind_some, h.1]
  rfl

/-- The strip ID of the font that a slot alone holds. -/
theorem FontControl.stripOf_holdsOnly {c : FontControl} {f : Nat} {j : Fin 8} {x : FontSlot} (h : c.holdsOnly f j x) (other : Half) :
    c.stripOf f other = x.strip := by
  rw [FontControl.stripOf, FontControl.slotOf_holdsOnly h, Option.bind_some, h.1]
  rfl

/-- An EMPTY slot made EMPTY stays as it is. -/
theorem FontControl.emptied_empty {c : FontControl} {j : Fin 8} (h : c.store[j] = none) : c.emptied j = c := by
  have : c.store.set j.val none = c.store := by
    conv_rhs => rw [← Vector.set_getElem_self (xs := c.store) j.isLt]
    rw [show c.store[j.val] = none from h]
  rw [FontControl.emptied, this]

/-! ### Selections (R103 to R107) -/

/-- A resident font of the directory entry's revision is selected without a load (R104). -/
theorem State.selectFont_resident {s : State} {f : Nat} {j : Fin 8} {x : FontSlot} (inEffect : Option Nat) (p : Purpose)
    (hb : s.bus = none) {d : List Byte} (hd : s.bytes (s.areaAddr s.desk.areas.fontDirectory (12 * f)) 12 = d) (hv : byteAt d 0 ≠ 0)
    (hs : halfAt d 2 ≠ 0) (h : s.fonts.holdsOnly f j x) (hr : x.revision = byteAt d 1) :
    s.selectFont f inEffect p = (.resident, s.modFonts fun c => c.stamped j { x with strip := halfAt d 2 }) := by
  simp only [State.selectFont, s.busRead_none _ _ hb, hd, if_neg (not_or.mpr ⟨hv, hs⟩), FontControl.slotOf_holdsOnly h,
    Option.bind_some, h.1, Option.map_some, if_pos hr]

/-- A font that is not resident begins its load in the lowest EMPTY slot, from a table the grants allow (R105, R106). -/
theorem State.selectFont_loads {s : State} {f : Nat} {j : Fin 8} (inEffect : Option Nat) (p : Purpose) (hb : s.bus = none)
    {d : List Byte} (hd : s.bytes (s.areaAddr s.desk.areas.fontDirectory (12 * f)) 12 = d) (hv : byteAt d 0 ≠ 0)
    (hs : halfAt d 2 ≠ 0) (habs : ∀ (k : Fin 8) (x : FontSlot), s.fonts.store[k] = some x → x.font ≠ f)
    (hj : s.fonts.store[j] = none) (hl : ∀ k < j, s.fonts.store[k] ≠ none) (ha : s.allowed false (longAt d 4) 128 = true) :
    s.selectFont f inEffect p = (.loading ⟨f, byteAt d 1, halfAt d 2, BitVec.ofNat 24 (longAt d 4), j, p⟩, s) := by
  have hslot := FontControl.slotOf_absent habs
  have hempty : s.fonts.emptySlot = some j :=
    find?_finRange_lowest (by rw [hj]; rfl) fun k hk => by simpa [Option.isNone_eq_false_iff, Option.isSome_iff_ne_none] using hl k hk
  have htarget : s.fonts.target f inEffect = j := by rw [FontControl.target, hslot, hempty]
  have hload : s.beginLoad f (byteAt d 1) (halfAt d 2) (longAt d 4) inEffect p
      = (.loading ⟨f, byteAt d 1, halfAt d 2, BitVec.ofNat 24 (longAt d 4), j, p⟩, s) := by
    have hsame : (s.modFonts fun c => c.emptied j) = s := by
      show { s with fonts := s.fonts.emptied j } = s
      rw [FontControl.emptied_empty hj]
    rw [State.beginLoad, htarget, hsame, if_pos ha]
  simp only [State.selectFont, s.busRead_none _ _ hb, hd, if_neg (not_or.mpr ⟨hv, hs⟩), hslot, Option.bind_none, hload]

/-- A width table that passes its check fills the target of its load (R106). -/
theorem State.completeLoad_fills {s : State} {sel : Selection} (hb : s.bus = none)
    (hok : (widthTable (s.bytes sel.table 128)).ok = true) :
    s.completeLoad sel = (none, s.modFonts fun c =>
      c.stamped sel.target ⟨sel.font, sel.revision, sel.strip, widthTable (s.bytes sel.table 128), 0⟩) := by
  simp only [State.completeLoad, s.busRead_none _ _ hb, if_pos hok]

/-- A load that no cancel waits for, with no flash to preempt for, ends its selection and the Composer runs on. -/
theorem State.loadCompletes_selects {s t : State} {sel : Selection} {r : Option Reason} (hp : s.composer.phase = .loading sel)
    (hl : s.completeLoad sel = (r, t)) (hn : t.composer.preempt = none) (hc : ∀ i, t.desk.busy ≠ some (.cancel i)) :
    s.loadCompletes = (t.endSelection sel.purpose sel.font r).composerRun := by
  have hw : t.cancelWaiting = none := by
    unfold State.cancelWaiting
    split
    · rename_i i h
      exact absurd h (hc i)
    · rfl
  have hcomposed : t.cancelsComposed = none := by simp [State.cancelsComposed, hw]
  have hresumed : t.cancelsResumed = none := by
    unfold State.cancelsResumed
    split
    · rename_i h
      exact h.2.symm.trans hw
    · rfl
  simp only [State.loadCompletes, hp, hl, hcomposed, hresumed, hn, Option.isSome_none, Bool.false_eq_true, if_false]

/-! ### The end of a flash chain (R43) -/

/-- A Composer with no ticket, in hand or suspended. -/
theorem Composer.without_tickets {k : Composer} (ht : k.ticket = none) (hs : k.suspended = none) :
    { k with ticket := none, suspended := none } = k := by
  cases k
  simp only at ht hs
  rw [ht, hs]

/-- A chain with no ticket suspended carries the state read back, and the scanner goes to IDLE with a scan. -/
theorem State.endChain_carries {s : State} {r : Option Reason} (hs : s.composer.suspended = none) (ht : s.composer.ticket = none)
    (hr : s.desk.controller = .running) (hf : s.scanner.pendingFlag = false) (hi : s.scanner.inFlight = false) {j : Fin 8}
    (hj : s.flight[j] = none) : s.endChain r = { s with
      scanner := s.scanner.released
      composer := { s.composer with carried := some s.composer.current, line := ⟨[], none, 0⟩, phase := .idle } } := by
  let u := (s.modScanner fun c => { c with state := .idle }).modComposer fun c =>
    { c with ticket := none, suspended := none, carried := some c.current, line := Line.empty, phase := .idle }
  have hu : s.endChain r = u.trigger.testPending := by
    rw [State.endChain, hs]
    rfl
  have hidle : u.scanHindered = false := by
    have hfull : s.flightFull = false := State.flightFull_of_free hj
    have huf : u.flightFull = false := hfull
    simp [State.scanHindered, huf, u, hr, hi]
  have hk := Composer.without_tickets ht hs
  rw [hu, State.trigger_scans (by simp [u, hr]) hidle, State.testPending_none (by exact hf)]
  have := congrArg (fun k : Composer => ({ s with
    scanner := s.scanner.released
    composer := { k with carried := some k.current, line := ⟨[], none, 0⟩, phase := .idle } } : State)) hk
  exact this

/-- A chain that resumes a TAKE ticket sets it at its resume offset with the state read back. -/
theorem State.endChain_resumes {s : State} {i : Fin 8} {e : Entry} (hs : s.composer.suspended = some i) (he : s.flight[i] = some e)
    (hk : e.kind = .take) (hf : s.scanner.pendingFlag = false) : s.endChain none = { s with
      scanner := { s.scanner with state := .watch }
      composer := { s.composer with
        ticket := some i, suspended := none, snapshot := s.composer.current, lineStart := s.composer.resumeOffset
        readPosition := s.composer.resumeOffset, phase := .reading } } := by
  simp only [State.endChain, hs, Option.bind_some, State.entry, he, Option.map_some, hk]
  exact State.testPending_none (by exact hf)

/-- The Composer at its Valid write ends the chain, and runs on from there. -/
theorem State.composerRun_validWrite {s : State} (hb : s.bus = none) (hr : s.desk.controller = .running)
    (hn : s.composer.preempt = none) (hp : s.composer.phase = .validWrite none) :
    ∃ n, s.composerRun
      = (((s.storeBytes (s.areaAddr s.desk.areas.context 0) [0]).endChain none).composerLoop n).settle := by
  refine ⟨127, congrArg State.settle ?_⟩
  refine (s.composerLoop_phase 127 hr hn (by simp [State.accessInFlight, hp]) (by simp [State.phaseReady, hp])).trans ?_
  rw [State.composerPhase, hp]
  dsimp only
  rw [State.writeValid, s.busWrite_none _ _ hb]
  rfl

/-- A Composer between codes, set between codes. -/
theorem Composer.set_reading {k : Composer} (h : k.phase = .reading) : { k with phase := .reading } = k := by
  cases k
  cases h
  rfl

/-- Settles O35: a selection goes by the directory entry, and a load that fills its slot by its purpose. -/
theorem fontCodeSelectsOrLoadsAFont : Obligations.FontCodeSelectsOrLoadsAFont := by
  refine ⟨fun s i e f h hf => ?_, fun s i e f j h hf => ?_, fun s sel hb hp hn hc => ?_⟩
  · exact congrArg Host.Outcome.next (State.takeCode_settles (act := actFont) h rfl rfl (if_pos hf) rfl rfl)
  · intro d hv hs
    let w := s.modComposer fun k => k.afterCode 2 (k.trace 0)
    have acts : s.takeCode (fun b => b == 0x80) actFont = (w.select f.toNat (some s.composer.current.font) .code).composerRun := by
      rw [State.takeCode_acts h rfl rfl]
      exact congrArg State.composerRun (if_neg (Nat.not_lt.mpr hf))
    have hd : w.bytes (w.areaAddr w.desk.areas.fontDirectory (12 * f.toNat)) 12 = d := rfl
    have hwb : w.bus = none := h.1
    refine ⟨fun x hx hrev => congrArg Host.Outcome.next ?_, fun habs hj hl ha => congrArg Host.Outcome.next ?_⟩
    · rw [acts, State.select, State.selectFont_resident (x := x) _ _ hwb hd hv hs hx hrev]
      refine (State.composerRun_reading (by exact h.2.2.2.1) rfl).trans ?_
      exact congrArg (fun k : Composer => State.settle { s with
        fonts := s.fonts.stamped j { x with strip := halfAt d 2 }
        composer := { k.afterCode 2 (k.trace 0) with current := { k.current with font := f.toNat } } }) (Composer.set_reading h.2.2.1)
    · rw [acts, State.select, State.selectFont_loads _ _ hwb hd hv hs habs hj hl ha]
      exact State.composerRun_wait _ (.inr (.inl rfl))
  · intro t filled ok
    have hload := State.completeLoad_fills (sel := sel) hb ok
    let u : State := { s with fonts := filled }
    have loads : s.loadCompletes = (u.endSelection sel.purpose sel.font none).composerRun :=
      State.loadCompletes_selects hp hload hn hc
    refine ⟨fun hcode => congrArg Host.Outcome.next ?_, fun hrest ht hr hf => ?_⟩
    · rw [loads, hcode]
      exact State.composerRun_reading (by exact hn) rfl
    · let v : State := { s with fonts := filled, composer := { s.composer with phase := .validWrite none } }
      obtain ⟨n, hrun⟩ := State.composerRun_validWrite (s := v) hb hr hn rfl
      have hv : u.endSelection .restore sel.font none = v := rfl
      have stored : v.storeBytes (v.areaAddr v.desk.areas.context 0) [0]
          = { v with mem := (s.storeBytes (s.areaAddr s.desk.areas.context 0) [0]).mem } := by
        rw [State.storeBytes_eq]
        exact congrArg (fun m => { v with mem := m }) (State.storeBytes_mem_congr rfl _ _)
      intro mem
      rw [hrest] at loads
      rw [hv, hrun, stored] at loads
      refine ⟨fun i e hs he hk => congrArg Host.Outcome.next (loads.trans (congrArg State.settle ?_)),
        fun hs hi ⟨j, hj⟩ => congrArg Host.Outcome.next (loads.trans (congrArg State.settle ?_))⟩
      · rw [State.endChain_resumes (by exact hs) (by exact he) hk (by exact hf)]
        exact State.composerLoop_reading _ _ (by exact hn) rfl
      · rw [State.endChain_carries (by exact hs) (by exact ht) (by exact hr) (by exact hf) (by exact hi) (by exact hj)]
        exact State.composerLoop_wait _ (.inr ⟨by exact hn, rfl⟩)

end Sys2Proof.Machine
end

section
/-! PROOFS. The Composer's phases one after the other, and how a line ends: in a group that waits for room, in its append, or in the stop
of its ticket (spec 03, section 4.1; spec 05, section 6.8). -/

namespace Sys2Proof.Machine

/-! ### Phases one after the other (R84) -/

/-- The Composer carries out a ticket: RUNNING, with no flash to preempt for. -/
abbrev State.Composes (s : State) (i : Fin 8) (e : Entry) : Prop :=
  s.desk.controller = .running ∧ s.composer.preempt = none ∧ s.composer.ticket = some i ∧ s.flight[i] = some e

/-- The Composer passes from one state to another in `n` phases, and waits there. -/
def State.ComposesTo (n : Nat) (s t : State) : Prop := ∀ fuel, s.composerLoop (fuel + n) = t

theorem State.Composes.ticketEntry {s : State} {i : Fin 8} {e : Entry} (h : s.Composes i e) : s.ticketEntry = some (i, e) :=
  State.ticketEntry_eq_some.2 h.2.2

/-- A Composer that waits passes no phase. -/
theorem State.composesTo_wait {s : State} (h : s.accessInFlight = true ∨ (s.composer.preempt = none ∧ s.phaseReady = false)) :
    s.ComposesTo 0 s := fun _ => State.composerLoop_wait _ h

/-- One phase and what follows it. -/
theorem State.composesTo_phase {s t u : State} {n : Nat} (hr : s.desk.controller = .running) (hn : s.composer.preempt = none)
    (ha : s.accessInFlight = false) (hq : s.phaseReady = true) (h : s.composerPhase = u) (hu : u.ComposesTo n t) :
    s.ComposesTo (n + 1) t := fun fuel => by
  rw [← Nat.add_assoc, s.composerLoop_phase (fuel + n) hr hn ha hq, h]
  exact hu fuel

/-- A run ends where the phases do, within the model's fuel. -/
theorem State.composerRun_composesTo {s t : State} {n : Nat} (h : s.ComposesTo n t) (hf : n ≤ 128 := by decide) :
    s.composerRun = t.settle := by
  obtain ⟨m, hm⟩ : ∃ m, composerFuel = m + n := Nat.exists_eq_add_of_le' hf
  rw [State.composerRun, hm, h m]

/-! ### The Flight Table's entries -/

/-- Conditions reported to an entry. -/
theorem State.report_eq {s : State} {i : Fin 8} {e : Entry} (he : s.flight[i] = some e) (line : Nat) (c : Half) :
    s.report i line c = { s with flight := s.flight.set i.val (some (e.report line c)) } := State.modEntry_of_some he _

/-- An entry stands where it was set. -/
theorem flight_set_self (v : Vector (Option Entry) 8) (i : Fin 8) (e : Option Entry) : (v.set i.val e)[i] = e :=
  Vector.getElem_set_self ..

/-- Records appended at the tail, and counted by their ticket (R30, R122, R124). -/
theorem State.append_eq {s : State} {i : Fin 8} {e : Entry} (he : s.flight[i] = some e) (rs : List Record) :
    s.append i rs = { s with
      store := s.store.appended s.proofsOn rs
      flight := s.flight.set i.val (some { e with outstanding := e.outstanding + rs.length }) } := by
  let u : State := { s with store := s.store.appended s.proofsOn rs }
  have hu : s.append i rs = u.modEntry i fun e => { e with outstanding := e.outstanding + rs.length } := by
    have hp : (s.modStore fun l => { l with records := l.records ++ rs }).proofsOn = s.proofsOn := rfl
    unfold State.append
    dsimp only
    rw [hp]
    cases h : s.proofsOn with
    | true => simp only [u, LineStore.appended, h, if_true]; rfl
    | false => simp only [u, LineStore.appended, h, Bool.false_eq_true, if_false, ← List.length_append]; rfl
  rw [hu, State.modEntry_of_some (e := e) (by exact he)]
  rfl

/-! ### Settings and conditions of a line that ends (R65, R72) -/

/-- Fixing the settings again gives what is fixed, or would be. -/
theorem Line.fix_settings (l : Line) (c : CompState) (x : Settings) :
    (l.fix c).settings.getD x = l.settings.getD (formSettings c).1 := by
  unfold Line.fix
  split
  · rename_i st h
    rw [h]
    rfl
  · rename_i h
    rw [h]
    rfl

theorem Line.fix_codes (l : Line) (c : CompState) : (l.fix c).codes = l.codes := by
  unfold Line.fix
  split <;> rfl

/-- The settings and the conditions with which a line ends. -/
theorem State.endSettings_eq (s : State) (kept : List LineCode) (extra : Half) : s.endSettings kept extra
    = (s.composer.settings, codeConditions kept ||| (s.composer.line.fix s.composer.current).conditions ||| extra) := by
  rw [State.endSettings]
  rw [Line.fix_settings]
  rfl

/-- The conditions that a stop mask can name are the nine lowest. -/
theorem maskable_getLsbD {c : Half} {n : Nat} (h : n < 9) : (c &&& Cond.maskable).getLsbD n = c.getLsbD n := by
  have : Cond.maskable.getLsbD n = true := by
    interval_cases n <;> rfl
  rw [BitVec.getLsbD_and, this, Bool.and_true]

/-- No condition masked: the line goes on. -/
theorem maskedBit_none {c mask : Half} (h : ∀ n < 9, (c &&& mask).getLsbD n = false) : maskedBit c mask = none := by
  refine List.find?_eq_none.mpr fun n hn => ?_
  have hn := List.mem_range.mp hn
  rw [maskable_getLsbD hn, h n hn]
  exact Bool.false_ne_true

/-- The lowest condition that a stop mask names. -/
theorem maskedBit_lowest {c mask : Half} {b : Nat} (hb : b < 9) (h : (c &&& mask).getLsbD b = true)
    (hl : ∀ n < b, (c &&& mask).getLsbD n = false) : maskedBit c mask = some b := by
  refine List.find?_range_eq_some.mpr ⟨by rw [maskable_getLsbD hb, h], List.mem_range.mpr hb, fun n hn => ?_⟩
  rw [maskable_getLsbD (hn.trans hb), hl n hn]
  rfl

/-! ### A line ends (R102, steps 1 to 3) -/

/-- The conditions of a line that ends. -/
def State.endConditions (s : State) (le : LineEnd) (lineNumber : Nat) : Half :=
  codeConditions le.kept ||| (s.composer.line.fix s.composer.current).conditions ||| le.conditions
    ||| (setLine le.elements s.composer.settings le.mode lineNumber).conditions

/-- The group of a line that ends. -/
def State.endGroup (s : State) (le : LineEnd) (lineNumber : Nat) : EndedLine :=
  le.group s.composer.settings (setLine le.elements s.composer.settings le.mode lineNumber) (s.endConditions le lineNumber)

/-- A line that ends reports its conditions, and stops its ticket or waits to be appended. -/
theorem State.endLine_eq {s : State} {i : Fin 8} {e : Entry} (h : s.ticketEntry = some (i, e)) (le : LineEnd) :
    s.endLine le = match maskedBit (s.endConditions le e.lineNumber) e.stopMask with
      | some b => (s.report i e.lineNumber (s.endConditions le e.lineNumber)).stopTicket .masked (some b)
      | none => (s.report i e.lineNumber (s.endConditions le e.lineNumber)).setPhase (.group (s.endGroup le e.lineNumber)) := by
  simp only [State.endLine, h, State.endSettings_eq]
  rfl

/-- A line whose ticket masks none of its conditions waits to be appended. -/
theorem State.endLine_groups {s : State} {i : Fin 8} {e : Entry} (h : s.Composes i e) (le : LineEnd)
    (hm : ∀ n < 9, (s.endConditions le e.lineNumber &&& e.stopMask).getLsbD n = false) :
    s.endLine le = s.blockedAtGroup i e (s.endGroup le e.lineNumber) s.composer := by
  rw [State.endLine_eq h.ticketEntry, maskedBit_none hm, State.report_eq h.2.2.2]
  rfl

/-- A line broken without an end code, as its group. -/
theorem State.endGroup_justify (s : State) (kept carried : List LineCode) (hyphen : Option Glyph) (forced : Half) (next : Nat)
    (snapshot : CompState) (after : After) (lineNumber : Nat) :
    s.endGroup ⟨kept, hyphen, carried, .justify, forced, next, snapshot, after⟩ lineNumber
      = s.composer.brokenLine kept carried hyphen forced next snapshot after lineNumber := rfl

/-- A line broken at an offset, as its group (R63, R64). -/
theorem State.breakAt_eq (s : State) (o : Nat) (hyphen : Option Glyph) (forced : Half) (after : After) : ∃ le,
    s.breakAt o hyphen forced after = s.endLine le ∧ ∀ n, s.endGroup le n = s.composer.brokenAt o hyphen forced after n := by
  refine ⟨_, rfl, fun n => ?_⟩
  rw [State.endGroup_justify, Composer.brokenAt, stateAt, List.head?_filter]

/-- The group of an ended line that finds no room. -/
theorem State.blockedAtGroup_waits {s : State} {i : Fin 8} {e : Entry} {g : EndedLine} {k : Composer} (hn : k.preempt = none)
    (hw : s.groupWaits e g) : (s.blockedAtGroup i e g k).ComposesTo 0 (s.blockedAtGroup i e g k) := by
  refine State.composesTo_wait (.inr ⟨hn, ?_⟩)
  have room : s.store.room < 1 + g.leads.length := by
    have := hw.2
    rw [LineStore.room, show Config.ringPlaces = 16 from rfl]
    omega
  exact decide_eq_false (Nat.not_le.mpr room)

/-- A break at an offset whose line finds no room. -/
theorem State.breakAt_waits {s : State} {i : Fin 8} {e : Entry} (h : s.Composes i e) {o : Nat} {hyphen : Option Glyph} {forced : Half}
    {after : After} (hw : s.groupWaits e (s.composer.brokenAt o hyphen forced after e.lineNumber)) :
    (s.breakAt o hyphen forced after).ComposesTo 0
      (s.blockedAtGroup i e (s.composer.brokenAt o hyphen forced after e.lineNumber) s.composer) := by
  obtain ⟨le, hb, hg⟩ := s.breakAt_eq o hyphen forced after
  rw [← hg] at hw ⊢
  rw [hb, State.endLine_groups h le hw.1]
  exact State.blockedAtGroup_waits h.2.1 hw

/-! ### The append of a group (R102, steps 3 to 6) -/

/-- The log entry of a line is written where the ticket's log has room (R36). -/
theorem State.writeLog_eq {s : State} {i : Fin 8} {e f : Entry} {g : EndedLine} (hb : s.bus = none) (hf : s.flight[i] = some f)
    (hi : f.logIndex = e.logIndex ∧ f.logCapacity = e.logCapacity) : s.writeLog i e g = (true, { s with
      mem := s.loggedMem e (logBytes e.lineNumber s.composer.lineStart g)
      flight := s.flight.set i.val (some f.logged) }) := by
  by_cases h : e.logOpen
  · have hfl : f.logged = { f with logIndex := f.logIndex + 1, logWritten := f.logWritten + 1 } :=
      if_pos (by rw [Entry.logOpen, hi.1, hi.2]; exact h)
    rw [hfl, State.loggedMem, if_pos h]
    unfold State.writeLog
    rw [if_pos h, s.busWrite_none _ _ hb]
    dsimp only
    rw [if_pos rfl, State.storeBytes_eq, State.modEntry_of_some (e := f) (by exact hf)]
    rfl
  · have hfl : f.logged = f := if_neg (by rw [Entry.logOpen, hi.1, hi.2]; exact h)
    have hself : s.flight.set i.val (some f) = s.flight := by
      conv_rhs => rw [← Vector.set_getElem_self (xs := s.flight) i.isLt]
      rw [show s.flight[i.val] = some f from hf]
    rw [hfl, State.loggedMem, if_neg h, hself, State.writeLog, if_neg h]

/-- The Composer after the group of a line is appended, as the next line begins (R64, R90, R102). -/
def Composer.afterGroup (k : Composer) (g : EndedLine) : Composer :=
  let current := { k.current with ladder := nextLadder g.hyphenated k.current.ladder }
  { k with
    drawn := k.drawn - g.items.length
    galleyContent := true
    current := current
    lineStart := g.nextStart
    snapshot := { g.snapshot with ladder := nextLadder g.hyphenated k.current.ladder }
    line := Line.carriedFrom g.carried current }

/-- The ticket's entry after the group of a line is appended (R30, R36, R102). -/
def Entry.afterGroup (e : Entry) (g : EndedLine) : Entry :=
  Entry.logged { e with
    outstanding := e.outstanding + (1 + g.leads.length)
    linesSet := e.linesSet + 1
    hyphenated := if g.hyphenated then e.hyphenated + 1 else e.hyphenated
    lineNumber := e.lineNumber + 1 }

/-- The records of an ended line. -/
def EndedLine.records (g : EndedLine) (i : Fin 8) (e : Entry) : List Record :=
  ⟨i, e.lineNumber, e.toFilm, e.toProof, false, g.conditions, .text g.leadTicks g.items g.fonts⟩
    :: g.leads.map fun l => ⟨i, e.lineNumber, e.toFilm, e.toProof, false, 0, .lead l⟩

/-- The machine after the group of a line is appended and its log entry written, before what follows it. -/
def State.afterGroup (s : State) (i : Fin 8) (e : Entry) (g : EndedLine) : State :=
  { s with
    mem := s.loggedMem e (logBytes e.lineNumber s.composer.lineStart g)
    store := s.store.appended s.proofsOn (g.records i e)
    flight := s.flight.set i.val (some (e.afterGroup g))
    composer := s.composer.afterGroup g }

theorem EndedLine.records_length (g : EndedLine) (i : Fin 8) (e : Entry) : (g.records i e).length = 1 + g.leads.length := by
  rw [EndedLine.records, List.length_cons, List.length_map, Nat.add_comm]

theorem State.loggedMem_congr {s t : State} (h : s.mem = t.mem) (e : Entry) (bs : List Byte) : s.loggedMem e bs = t.loggedMem e bs := by
  unfold State.loggedMem
  rw [h, State.storeBytes_mem_congr h]

/-- A group is appended whole, with the bus acknowledging. -/
theorem State.appendGroup_eq {s : State} {i : Fin 8} {e : Entry} (hb : s.bus = none) (h : s.Composes i e) (g : EndedLine) :
    s.appendGroup g = (s.afterGroup i e g).goAfter g.after := by
  let f : Entry := { e with
    outstanding := e.outstanding + (1 + g.leads.length)
    linesSet := e.linesSet + 1
    hyphenated := if g.hyphenated then e.hyphenated + 1 else e.hyphenated }
  let u : State := { s with
    store := s.store.appended s.proofsOn (g.records i e)
    flight := s.flight.set i.val (some f)
    composer := { s.composer with drawn := s.composer.drawn - g.items.length, galleyContent := true } }
  have appended : s.appendLine i e g = u := by
    unfold State.appendLine
    dsimp only
    rw [show e.record i g.conditions (.text g.leadTicks g.items g.fonts) :: g.leads.map (fun l => e.record i 0 (.lead l)) = g.records i e
      from rfl, State.append_eq h.2.2.2, EndedLine.records_length, State.modEntry_of_some (by exact flight_set_self ..)]
    exact congrArg (fun v => { u with flight := v }) (Vector.set_set ..)
  have logged := State.writeLog_eq (s := u) (e := e) (f := f) (g := g) hb (flight_set_self ..) ⟨rfl, rfl⟩
  have hmem : u.loggedMem e (logBytes e.lineNumber u.composer.lineStart g) = s.loggedMem e (logBytes e.lineNumber s.composer.lineStart g) :=
    State.loggedMem_congr (s := u) (t := s) rfl _ _
  rw [hmem] at logged
  have next : ∀ v : State, v.flight[i] = some f.logged → v.startNextLine i g
      = { v with
        flight := v.flight.set i.val (some { f.logged with lineNumber := f.logged.lineNumber + 1 })
        composer := v.startNextLine i g |>.composer } := fun v hv => by
    unfold State.startNextLine
    rw [State.modEntry_of_some hv]
    rfl
  have hentry : { f.logged with lineNumber := f.logged.lineNumber + 1 } = e.afterGroup g := by
    rw [Entry.afterGroup, Entry.logged, Entry.logged]
    by_cases hl : f.logOpen
    · rw [if_pos hl, if_pos (by exact hl)]
    · rw [if_neg hl, if_neg (by exact hl)]
  simp only [State.appendGroup, h.ticketEntry, appended, logged, if_true]
  rw [next _ (by exact flight_set_self ..), hentry]
  refine congrArg (State.goAfter g.after) ?_
  exact congrArg (fun v => { s.afterGroup i e g with flight := v }) ((Vector.set_set ..).trans (Vector.set_set ..))

/-! ### The end of a routine ticket's composition (R32, R33, R52) -/

/-- A routine ticket whose entry is finished carries its state and leaves the Composer, and the scanner goes to IDLE with a scan. -/
theorem State.leaves_routine {s : State} {i : Fin 8} {e : Entry} {cls : Class} (he : s.flight[i] = some e) (hc : cls = .routine)
    (hs : s.scanCanStart) (f : Entry → Entry) : ((s.modEntry i f).carry cls).leaveTicket cls = { s with
      flight := s.flight.set i.val (some (f e))
      composer := s.composer.released s.composer.current
      scanner := s.scanner.released } := by
  obtain ⟨hr, hw, hi, j, hj⟩ := hs
  subst hc
  rw [State.leaveTicket_scans (by exact ⟨hr, hw, hi, j, State.modEntry_free hj⟩), State.modEntry_of_some he]
  rfl

/-- A routine ticket stopped leaves the Composer, and the scanner goes to IDLE with a scan. -/
theorem State.stopTicket_routine {s : State} {i : Fin 8} {e : Entry} (h : s.Composes i e) (hc : e.cls = .routine) (hs : s.scanCanStart)
    (r : Reason) (b : Option Nat) : s.stopTicket r b = s.stopsRoutine i e r b := by
  unfold State.stopTicket
  rw [h.ticketEntry]
  exact State.leaves_routine (s := s.discardLine.modComposer fun c => { c with current := c.snapshot }) h.2.2.2 hc hs _

/-- A routine ticket finished leaves the Composer, and the scanner goes to IDLE with a scan. -/
theorem State.finishTake_routine {s : State} {i : Fin 8} {e : Entry} (h : s.Composes i e) (hc : e.cls = .routine) (hs : s.scanCanStart)
    (o : Nat) : s.finishTake o = { s with
      flight := s.flight.set i.val (some { e with stopOffset := o, finished := true })
      composer := s.composer.released s.composer.current
      scanner := s.scanner.released } := by
  unfold State.finishTake
  rw [h.ticketEntry]
  exact State.leaves_routine h.2.2.2 hc hs _

/-! ### The fit test (R86) -/

theorem tabular_iff (es : List Element) : tabular es = true ↔ ∃ x ∈ es, x.isPlacing = true := List.any_eq_true

theorem tabular_eq_false {es : List Element} : tabular es = false ↔ ∀ z ∈ es, z.isPlacing = false := by simp [tabular]

/-- The fit test is the one the statements name. -/
theorem State.fitTest_iff (s : State) :
    (tabular (elementsOf s.composer.line.codes) || !s.word.any LineCode.widthBearing
      || fits (elementsOf s.composer.line.codes) s.lineSettings.effective) = true ↔ s.composer.needsNoBreak := by
  rw [Bool.or_eq_true, Bool.or_eq_true, tabular_iff, or_assoc, Bool.not_eq_true', List.any_eq_false]
  simp only [Bool.not_eq_true]
  rfl

/-- A trigger at a line that needs no break acts. -/
theorem State.testTrigger_acts {s : State} (h : s.composer.needsNoBreak) (t : Trigger) : s.testTrigger t = s.actTrigger t :=
  if_pos (s.fitTest_iff.mpr h)

/-- A trigger at a line that needs a break asks for its candidates. -/
theorem State.testTrigger_breaks {s : State} (h : ¬ s.composer.needsNoBreak) (t : Trigger) :
    s.testTrigger t = match candidateSource s.hyphenation s.desk.setup s.composer.current s.word with
      | .gathered cs => s.setPhase (.choosing t cs)
      | .lookup => s.setPhase (.searching t) :=
  if_neg (mt s.fitTest_iff.mp h)

/-- A line is empty in the statements' sense. -/
theorem Line.isEmpty_iff (k : Composer) : k.line.isEmpty = true ↔ k.lineIsEmpty := List.isEmpty_iff

theorem Line.isEmpty_false {k : Composer} (h : ¬ k.lineIsEmpty) : k.line.isEmpty = false :=
  Bool.eq_false_iff.mpr (mt (Line.isEmpty_iff k).mp h)

end Sys2Proof.Machine
end

section
/-! PROOFS. A character: placed, substituted, blocked, dropped, or the break of its line at a limit (spec 03, section 4.4; spec 05, sections
6.7 and 6.8). -/

namespace Sys2Proof.Machine

/-- A character passes a limit of its line where it has no room there. -/
theorem passesLimit_iff {k : Composer} {g : Glyph} (hg : g.font = k.current.font) :
    passesLimit (elementsOf k.line.codes) g = true ↔ ¬ k.roomForCharacter := by
  simp only [passesLimit, Composer.roomForCharacter, hg, Bool.or_eq_true, Bool.and_eq_true, decide_eq_true_eq, Bool.not_eq_true',
    List.any_eq_false, beq_iff_eq, not_and_or, not_or, not_exists, not_lt]
  simp only [imp_iff_not_or]

/-- What a code that places a character asks of the limits. -/
theorem glyph?_passesLimit {c : LineCode} {g : Glyph} (hc : c.element = some (.glyph g)) (es : List Element) :
    (c.glyph?.map (passesLimit es)).getD false = passesLimit es g := by
  rw [LineCode.glyph?, hc]
  rfl

section
variable {s : State} {c : LineCode} {g : Glyph}

/-- A character with room in its line, and an item free, is placed. -/
theorem State.placing_places (hr : s.desk.controller = .running) (hn : s.composer.preempt = none) (hp : s.composer.phase = .placing c)
    (hc : c.element = some (.glyph g)) (hg : g.font = s.composer.current.font) (hroom : s.composer.roomForCharacter)
    (hf : 0 < s.store.free) : s.ComposesTo 1 { s with
      store := { s.store with free := s.store.free - 1 }
      composer := { s.composer with
        drawn := s.composer.drawn + 1
        line := { s.composer.line.fix s.composer.current with codes := s.composer.line.codes ++ [c] }
        phase := .reading } } := by
  have hpass : (c.glyph?.map (passesLimit (elementsOf s.composer.line.codes))).getD false = false := by
    rw [glyph?_passesLimit hc]
    exact Bool.eq_false_iff.mpr fun h => (passesLimit_iff hg).mp h hroom
  refine State.composesTo_phase hr hn (by simp [State.accessInFlight, hp]) ?_ ?_ (State.composesTo_wait (.inr ⟨by exact hn, rfl⟩))
  · simp [State.phaseReady, hp, State.canPlace, hf]
  · rw [State.composerPhase, hp]
    dsimp only
    rw [State.placeCharacter]
    dsimp only
    rw [hpass, if_neg Bool.false_ne_true]
    rfl

/-- A character with room in its line waits for an item. -/
theorem State.placing_waits (hp : s.composer.phase = .placing c) (hc : c.element = some (.glyph g))
    (hg : g.font = s.composer.current.font) (hroom : s.composer.roomForCharacter) (hf : s.store.free = 0) : s.phaseReady = false := by
  have hpass : passesLimit (elementsOf s.composer.line.codes) g = false :=
    Bool.eq_false_iff.mpr fun h => (passesLimit_iff hg).mp h hroom
  simp [State.phaseReady, hp, State.canPlace, hf, glyph?_passesLimit hc, hpass]

/-- A character that passes a limit of its line asks for no item. -/
theorem State.placing_limit (hp : s.composer.phase = .placing c) (hc : c.element = some (.glyph g))
    (hg : g.font = s.composer.current.font) (hroom : ¬ s.composer.roomForCharacter) :
    s.phaseReady = true ∧ s.composerPhase = if tabular (elementsOf s.composer.line.codes) then
      (s.pushCode { c with element := none, conditions := c.conditions ||| Cond.forced }).setPhase .reading else s.limitBreak c := by
  have hpass := (passesLimit_iff hg).mpr hroom
  refine ⟨by simp [State.phaseReady, hp, State.canPlace, glyph?_passesLimit hc, hpass], ?_⟩
  rw [State.composerPhase, hp]
  dsimp only
  rw [State.placeCharacter]
  dsimp only
  rw [glyph?_passesLimit hc, hpass, if_pos rfl]

end

/-- Codes that all stand below an offset are kept whole by a break there. -/
theorem Composer.brokenAt_end {k : Composer} {o : Nat} (h : ∀ z ∈ k.line.codes, z.offset < o) (hyphen : Option Glyph) (forced : Half)
    (after : After) (n : Nat) : k.brokenAt o hyphen forced after n = k.brokenLine k.line.codes [] hyphen forced o k.current after n := by
  have kept : (k.line.codes.filter fun c => c.offset < o) = k.line.codes :=
    List.filter_eq_self.mpr fun z hz => decide_eq_true (h z hz)
  have carried : (k.line.codes.filter fun c => o ≤ c.offset) = [] :=
    List.filter_eq_nil_iff.mpr fun z hz => by simpa using h z hz
  rw [Composer.brokenAt, kept, carried]
  rfl

/-- A character code with the font in effect resident. -/
theorem actCharacter_eq {s : State} {j : Fin 8} {x : FontSlot} (hx : s.fonts.holdsOnly s.composer.current.font j x) (offset code : Nat)
    (ops : List Byte) : actCharacter offset code ops s =
      if (x.table.widths.getD code 255).toNat = 255 then s.pushElement offset (.fixed (s.unitWidth 30)) Cond.substituted
      else s.setPhase (.placing (s.characterCode offset code (x.table.widths.getD code 255).toNat x.table x.strip)) := by
  rw [actCharacter, FontControl.tableOf_holdsOnly hx]

/-- Settles O37: a character code places its trace, and the phase that places it finds room, an item, or neither. -/
theorem characterIsPlacedOrSubstituted : Obligations.CharacterIsPlacedOrSubstituted := by
  intro s i e c j x h hc hx units placed
  obtain ⟨hb, hr, hp, hn, ht, he, -⟩ := id h
  have hop : operandCount c = 0 := by
    unfold operandCount
    split <;> omega
  have hrow : decide (c.toNat ≤ 0x6F) = true := decide_eq_true hc
  let u : State := { s with composer := { s.composer.pastCode 1 with phase := .placing placed } }
  have element : placed.element = some (.glyph _) := rfl
  have acts : units ≠ 255 → s.takeCode (fun b => b ≤ 0x6F) actCharacter = u.composerRun := fun hu => by
    rw [State.takeCode_acts h hop hrow]
    exact congrArg State.composerRun ((actCharacter_eq (s := s.modComposer fun k => k.pastCode 1) hx _ _ _).trans (if_neg hu))
  refine ⟨fun hu => ?_, fun hu hroom hf => ?_, fun hu hroom hf => ?_, fun hu hroom htab => ?_, fun hu hroom htab hfit hoff => ?_⟩
  · refine congrArg Host.Outcome.next (State.takeCode_settles (act := actCharacter) h hop hrow ?_ rfl rfl)
    exact (actCharacter_eq (s := s.modComposer fun k => k.pastCode 1) hx _ _ _).trans (if_pos hu)
  · refine congrArg Host.Outcome.next ((acts hu).trans ((State.composerRun_composesTo
      (State.placing_places (s := u) hr hn rfl element rfl hroom hf)).trans ?_))
    exact congrArg (fun k : Composer => State.settle { s with
      store := { s.store with free := s.store.free - 1 }
      composer := { k with
        readPosition := k.readPosition + 1
        drawn := k.drawn + 1
        line := { k.line.fix k.current with codes := k.line.codes ++ [placed] } } }) (Composer.set_reading hp)
  · exact congrArg Host.Outcome.next ((acts hu).trans (State.composerRun_wait _
      (.inr (.inr ⟨hn, State.placing_waits (s := u) rfl element rfl hroom hf⟩))))
  · obtain ⟨ready, phase⟩ := State.placing_limit (s := u) rfl element rfl hroom
    have forced : placed.conditions ||| Cond.forced = 4 := (by decide : (0 : Half) ||| Cond.forced = 4)
    rw [if_pos (by exact (tabular_iff _).mpr htab), forced] at phase
    refine congrArg Host.Outcome.next ((acts hu).trans ((State.composerRun_composesTo
      (State.composesTo_phase (s := u) hr hn rfl ready phase (State.composesTo_wait (.inr ⟨by exact hn, rfl⟩)))).trans ?_))
    exact congrArg (fun k : Composer => State.settle { s with composer := k.afterCode 1 (k.trace 4) }) (Composer.set_reading hp)
  · intro g hw
    obtain ⟨ready, phase⟩ := State.placing_limit (s := u) rfl element rfl hroom
    have limit : u.limitBreak placed = u.breakAt s.composer.readPosition none Cond.forced (.place placed) := if_pos hfit
    have hg : u.composer.brokenAt s.composer.readPosition none Cond.forced (.place placed) e.lineNumber = g :=
      Composer.brokenAt_end (k := u.composer) hoff _ _ _ _
    rw [if_neg (by rw [show u.composer.line.codes = s.composer.line.codes from rfl, tabular_eq_false.mpr htab]; exact Bool.false_ne_true),
      limit] at phase
    have waits := State.breakAt_waits (s := u) ⟨hr, hn, ht, he⟩ (by rw [hg]; exact hw)
    rw [hg] at waits
    exact congrArg Host.Outcome.next ((acts hu).trans (State.composerRun_composesTo (State.composesTo_phase (s := u) hr hn rfl ready phase waits)))

end Sys2Proof.Machine
end

section
/-! PROOFS. How a line that does not fit is broken: the point chosen, the forced break, and the Composer's phases from the choice on
(spec 05, sections 6.2 to 6.6). -/

namespace Sys2Proof.Machine

/-! ### The choice of a point (R95) -/

/-- Of candidates in increasing order the rightmost that gives something is found from the right. -/
theorem findSome?_rightmost {β : Type} {f : Candidate → Option β} {c : Candidate} (hf : f c ≠ none) :
    ∀ {cs : List Candidate}, cs.Pairwise (fun c d => c.after < d.after) → c ∈ cs →
      (∀ d ∈ cs, f d ≠ none → d = c ∨ d.after < c.after) → cs.reverse.findSome? f = f c
  | x :: rest, hs, hc, hbest => by
    obtain ⟨hx, hs⟩ := List.pairwise_cons.mp hs
    rw [List.reverse_cons, List.findSome?_append]
    rcases List.mem_cons.mp hc with rfl | hc
    · have hrest : rest.reverse.findSome? f = none := by
        refine List.findSome?_eq_none_iff.mpr fun d hd => ?_
        have hd := List.mem_reverse.mp hd
        by_contra hne
        rcases hbest d (List.mem_cons_of_mem _ hd) hne with rfl | hlt
        · exact absurd (hx d hd) (Nat.lt_irrefl _)
        · exact absurd (hx d hd) (Nat.lt_asymm hlt)
      rw [hrest]
      simp
    · rw [findSome?_rightmost hf hs hc fun d hd => hbest d (List.mem_cons_of_mem _ hd)]
      obtain ⟨b, hb⟩ := Option.ne_none_iff_exists'.mp hf
      rw [hb]
      rfl

section
variable {codes : List LineCode} {chars : List (Nat × Glyph)} {effective : Int} {cs : List Candidate}

/-- The point chosen is the best candidate whose trial fits: preferred before allowed, and the rightmost of its kind. -/
theorem choosePoint_best (hs : cs.Pairwise fun c d => c.after < d.after) {c : Candidate} (hc : c ∈ cs)
    (hf : trial codes chars effective c ≠ none)
    (hbest : ∀ d ∈ cs, trial codes chars effective d ≠ none →
      d = c ∨ (c.preferred = true ∧ d.preferred = false) ∨ (c.preferred = d.preferred ∧ d.after < c.after)) :
    choosePoint codes chars effective cs = trial codes chars effective c := by
  obtain ⟨b, hb⟩ := Option.ne_none_iff_exists'.mp hf
  unfold choosePoint
  cases hp : c.preferred with
  | true =>
    have first := findSome?_rightmost hf (hs.filter Candidate.preferred) (List.mem_filter.mpr ⟨hc, hp⟩) fun d hd hne => by
      obtain ⟨hd, hdp⟩ := List.mem_filter.mp hd
      rcases hbest d hd hne with h | ⟨-, h⟩ | ⟨-, h⟩
      · exact .inl h
      · rw [hdp] at h
        cases h
      · exact .inr h
    rw [first, hb]
  | false =>
    have none_preferred : (cs.filter Candidate.preferred).reverse.findSome? (trial codes chars effective) = none := by
      refine List.findSome?_eq_none_iff.mpr fun d hd => ?_
      obtain ⟨hd, hdp⟩ := List.mem_filter.mp (List.mem_reverse.mp hd)
      by_contra hne
      rcases hbest d hd hne with rfl | ⟨h, -⟩ | ⟨h, -⟩
      · rw [hp] at hdp
        cases hdp
      · rw [hp] at h
        cases h
      · rw [hp, hdp] at h
        cases h
    have second := findSome?_rightmost hf (hs.filter fun c => !c.preferred) (List.mem_filter.mpr ⟨hc, by rw [hp]; rfl⟩)
      fun d hd hne => by
        obtain ⟨hd, -⟩ := List.mem_filter.mp hd
        rcases hbest d hd hne with h | ⟨h, -⟩ | ⟨-, h⟩
        · exact .inl h
        · rw [hp] at h
          cases h
        · exact .inr h
    rw [none_preferred]
    exact second

/-- With no candidate whose trial fits there is no point. -/
theorem choosePoint_none (h : ∀ c ∈ cs, trial codes chars effective c = none) : choosePoint codes chars effective cs = none := by
  have none_of : ∀ p : Candidate → Bool, (cs.filter p).reverse.findSome? (trial codes chars effective) = none := fun p =>
    List.findSome?_eq_none_iff.mpr fun d hd => h d (List.mem_filter.mp (List.mem_reverse.mp hd)).1
  rw [choosePoint, none_of]
  exact none_of _

end

/-! ### The forced break (R98) -/

/-- The last element of a list that passes a test, found from the right. -/
theorem find?_reverse_last {α : Type} {p : α → Bool} {l : List α} {n : Nat} {c : α} (hn : l[n]? = some c) (hc : p c = true)
    (hl : ∀ m d, n < m → l[m]? = some d → p d = false) : l.reverse.find? p = some c := by
  obtain ⟨hlt, hget⟩ := List.getElem?_eq_some_iff.mp hn
  have split : l = l.take n ++ c :: l.drop (n + 1) := by
    rw [← hget, ← List.drop_eq_getElem_cons hlt, List.take_append_drop]
  have later : ((l.drop (n + 1)).reverse).find? p = none := by
    refine List.find?_eq_none.mpr fun d hd => ?_
    obtain ⟨m, hm⟩ := List.mem_iff_getElem?.mp (List.mem_reverse.mp hd)
    rw [List.getElem?_drop] at hm
    rw [hl (n + 1 + m) d (by omega) hm]
    exact Bool.false_ne_true
  rw [split, List.reverse_append, List.reverse_cons, List.append_assoc, List.find?_append, later, Option.none_or,
    List.singleton_append, List.find?_cons_of_pos hc]

/-- A word of one width-bearing element at most has no forced break within it. -/
theorem forcedOffset_none {word : List LineCode} (effective : Int) (h : (word.filter LineCode.widthBearing).length ≤ 1) :
    forcedOffset word effective = none := by
  have : prefixBreaks word = [] := by rw [prefixBreaks, List.drop_eq_nil_of_le h]; rfl
  rw [forcedOffset, this]
  rfl

/-- A forced break keeps the longest front part that fits, else the first width-bearing element. -/
theorem forcedOffset_longest {word : List LineCode} {effective : Int} {n : Nat} {c : LineCode} (h1 : 1 ≤ n)
    (hn : (word.filter LineCode.widthBearing)[n]? = some c)
    (hl : ∀ m d, n < m → (word.filter LineCode.widthBearing)[m]? = some d →
      ¬ fits (elementsOf (word.filter fun x => x.offset < d.offset)) effective = true)
    (hc : fits (elementsOf (word.filter fun x => x.offset < c.offset)) effective = true ∨ n = 1) :
    forcedOffset word effective = some c.offset := by
  let l := ((word.filter LineCode.widthBearing).drop 1).map LineCode.offset
  let p := fun o => fits (elementsOf (word.filter fun x => x.offset < o)) effective
  have hbreaks : prefixBreaks word = l.reverse := rfl
  have at_ : ∀ m, l[m]? = ((word.filter LineCode.widthBearing)[m + 1]?).map LineCode.offset := fun m => by
    rw [List.getElem?_map, List.getElem?_drop, Nat.add_comm]
  obtain ⟨n, rfl⟩ : ∃ m, n = m + 1 := ⟨n - 1, by omega⟩
  have hln : l[n]? = some c.offset := by rw [at_, hn]; rfl
  have hafter : ∀ m o, n < m → l[m]? = some o → p o = false := fun m o hm ho => by
    rw [at_] at ho
    obtain ⟨d, hd, rfl⟩ := Option.map_eq_some_iff.mp ho
    exact Bool.eq_false_iff.mpr (hl (m + 1) d (by omega) hd)
  rw [forcedOffset, hbreaks]
  by_cases hp : p c.offset = true
  · rw [find?_reverse_last hln hp hafter]
  · obtain rfl : n = 0 := by
      have := hc.resolve_left hp
      omega
    have none_fits : l.reverse.find? p = none := by
      refine List.find?_eq_none.mpr fun o ho => ?_
      obtain ⟨m, hm⟩ := List.mem_iff_getElem?.mp (List.mem_reverse.mp ho)
      rcases Nat.eq_zero_or_pos m with rfl | hpos
      · obtain rfl := Option.some.inj (hm.symm.trans hln)
        exact hp
      · exact Bool.eq_false_iff.mp (hafter m o hpos hm)
    rw [none_fits]
    dsimp only
    rw [List.getLast?_reverse, List.head?_eq_getElem?, hln]

/-! ### The Composer from the choice on (R88, R96 to R98) -/

section
variable {u : State} {i : Fin 8} {e : Entry} {t : Trigger} {cs : List Candidate}

/-- The choice is made, and its phase is followed by what it leads to. -/
theorem State.choosing_then {v w : State} {n : Nat} (h : u.Composes i e) (hp : u.composer.phase = .choosing t cs)
    (hv : u.choose t cs = v) (hw : v.ComposesTo n w) : u.ComposesTo (n + 1) w := by
  refine State.composesTo_phase h.1 h.2.1 (by simp [State.accessInFlight, hp]) (by simp [State.phaseReady, hp]) ?_ hw
  rw [State.composerPhase, hp]
  exact hv

/-- At a point chosen with no item free the Composer is BLOCKED at the draw of the hyphen. -/
theorem State.choosing_blocked {g : Glyph} {o : Nat} (h : u.Composes i e) (hp : u.composer.phase = .choosing t cs)
    (hq : choosePoint u.composer.line.codes u.hyphenationChars u.composer.settings.effective cs = some (g, o)) (hf : u.store.free = 0) :
    u.ComposesTo 1 (u.setPhase (.hyphen ⟨g, o, t⟩)) := by
  refine State.choosing_then h hp (v := u.setPhase (.hyphen ⟨g, o, t⟩)) ?_ (State.composesTo_wait (.inr ⟨h.2.1, decide_eq_false ?_⟩))
  · rw [State.choose, show u.lineSettings = u.composer.settings from rfl, hq]
  · rw [show (u.setPhase (.hyphen ⟨g, o, t⟩)).store = u.store from rfl, hf]
    exact Nat.lt_irrefl 0

/-- At a point chosen with an item free the line is broken with a hyphen drawn from the pool. -/
theorem State.choosing_hyphenates {g : Glyph} {o : Nat} (h : u.Composes i e) (hp : u.composer.phase = .choosing t cs)
    (hq : choosePoint u.composer.line.codes u.hyphenationChars u.composer.settings.effective cs = some (g, o)) (hf : 0 < u.store.free)
    (hw : u.groupWaits e (u.composer.brokenAt o (some (u.placedHyphen g)) 0 (.retest t) e.lineNumber)) :
    u.ComposesTo 2 ((u.modStore fun l => { l with free := l.free - 1 }).blockedAtGroup i e
      (u.composer.brokenAt o (some (u.placedHyphen g)) 0 (.retest t) e.lineNumber)
      { u.composer with drawn := u.composer.drawn + 1 }) := by
  let v := u.setPhase (.hyphen ⟨g, o, t⟩)
  have hv : v.Composes i e := h
  refine State.choosing_then h hp (v := v) ?_ ?_
  · rw [State.choose, show u.lineSettings = u.composer.settings from rfl, hq]
  · refine State.composesTo_phase (u := v.drawItem.breakAt o (some (u.placedHyphen g)) 0 (.retest t)) h.1 h.2.1 rfl
      (decide_eq_true hf) ?_ (State.breakAt_waits (s := v.drawItem) h hw)
    show v.hyphenate ⟨g, o, t⟩ = _
    rw [State.hyphenate, hv.ticketEntry]
    rfl

/-- Without a point the line is broken before the word, where something stands there. -/
theorem State.choosing_before {c : LineCode} (h : u.Composes i e) (hp : u.composer.phase = .choosing t cs)
    (hq : choosePoint u.composer.line.codes u.hyphenationChars u.composer.settings.effective cs = none)
    (hb : ∃ c ∈ u.beforeWord, c.widthBearing = true) (hc : u.word.find? LineCode.widthBearing = some c)
    (hw : u.groupWaits e (u.composer.brokenAt c.offset none 0 (.retest t) e.lineNumber)) :
    u.ComposesTo 1 (u.blockedAtGroup i e (u.composer.brokenAt c.offset none 0 (.retest t) e.lineNumber) u.composer) := by
  refine State.choosing_then h hp (v := u.breakAt c.offset none 0 (.retest t)) ?_ (State.breakAt_waits h hw)
  rw [State.choose, show u.lineSettings = u.composer.settings from rfl, hq]
  dsimp only
  rw [State.breakWithoutPoint, if_pos (List.any_eq_true.mpr hb), firstWidthOffset, hc]
  rfl

/-- Without a point, in a word that stands alone, the break is forced. -/
theorem State.choose_forced (hq : choosePoint u.composer.line.codes u.hyphenationChars u.composer.settings.effective cs = none)
    (hb : ∀ c ∈ u.beforeWord, c.widthBearing = false) : u.choose t cs =
      match forcedOffset u.word u.composer.settings.effective with
      | some o => u.breakAt o none Cond.forced (.retest t)
      | none => u.forceWhole t := by
  have hany : u.beforeWord.any LineCode.widthBearing = false := List.any_eq_false.mpr fun c hc => by
    rw [hb c hc]
    exact Bool.false_ne_true
  rw [State.choose, show u.lineSettings = u.composer.settings from rfl, hq]
  dsimp only
  rw [State.breakWithoutPoint, hany, if_neg Bool.false_ne_true]
  rfl

/-- A forced break within a word that stands alone. -/
theorem State.choosing_forced {o : Nat} (h : u.Composes i e) (hp : u.composer.phase = .choosing t cs)
    (hq : choosePoint u.composer.line.codes u.hyphenationChars u.composer.settings.effective cs = none)
    (hb : ∀ c ∈ u.beforeWord, c.widthBearing = false) (ho : forcedOffset u.word u.composer.settings.effective = some o)
    (hw : u.groupWaits e (u.composer.brokenAt o none 4 (.retest t) e.lineNumber)) :
    u.ComposesTo 1 (u.blockedAtGroup i e (u.composer.brokenAt o none 4 (.retest t) e.lineNumber) u.composer) := by
  refine State.choosing_then h hp (v := u.breakAt o none 4 (.retest t)) ?_ (State.breakAt_waits h hw)
  rw [State.choose_forced hq hb, ho]
  rfl

/-- A forced break of a word of one element that stands alone, at its space. -/
theorem State.choosing_forced_space {o mn op mx : Nat} (h : u.Composes i e) (hp : u.composer.phase = .choosing (.space o mn op mx) cs)
    (hq : choosePoint u.composer.line.codes u.hyphenationChars u.composer.settings.effective cs = none)
    (hb : ∀ c ∈ u.beforeWord, c.widthBearing = false) (ho : forcedOffset u.word u.composer.settings.effective = none)
    (hw : u.groupWaits e (u.composer.brokenLine
      (u.composer.line.codes ++ [⟨o, u.composer.current, some (.space mn op mx), false, none, 0⟩]) [] none 4 (o + 1) u.composer.current
      .readOn e.lineNumber)) :
    u.ComposesTo 1 (u.blockedAtGroup i e (u.composer.brokenLine
      (u.composer.line.codes ++ [⟨o, u.composer.current, some (.space mn op mx), false, none, 0⟩]) [] none 4 (o + 1) u.composer.current
      .readOn e.lineNumber) u.composer) := by
  refine State.choosing_then h hp rfl ?_
  rw [State.choose_forced hq hb, ho]
  have ends := State.endLine_groups h
    ⟨u.composer.line.codes ++ [u.spaceCode o mn op mx], none, [], .justify, 4, o + 1, u.composer.current, .readOn⟩ hw.1
  show (u.endLine _).ComposesTo 0 _
  rw [show Cond.forced = 4 from rfl, ends, State.endGroup_justify]
  exact State.blockedAtGroup_waits h.2.1 hw

end

/-! ### The word space (R55, R86) -/

/-- The word space with the font in effect resident. -/
theorem actWordSpace_eq {s : State} {j : Fin 8} {x : FontSlot} (hx : s.fonts.holdsOnly s.composer.current.font j x) (offset code : Nat)
    (ops : List Byte) : actWordSpace offset code ops s = if s.composer.line.isEmpty then s
      else s.setPhase (.testing
        (.space offset (s.unitWidth x.table.spaceMin) (s.unitWidth x.table.spaceOpt) (s.unitWidth x.table.spaceMax))) := by
  rw [actWordSpace, FontControl.tableOf_holdsOnly hx]

/-- The test of a trigger is made, and its phase is followed by what it leads to. -/
theorem State.testing_then {u v w : State} {i : Fin 8} {e : Entry} {t : Trigger} {n : Nat} (h : u.Composes i e)
    (hp : u.composer.phase = .testing t) (hv : u.testTrigger t = v) (hw : v.ComposesTo n w) : u.ComposesTo (n + 1) w := by
  refine State.composesTo_phase h.1 h.2.1 (by simp [State.accessInFlight, hp]) (by simp [State.phaseReady, hp]) ?_ hw
  rw [State.composerPhase, hp]
  exact hv

/-- A trigger whose candidates are gathered without a lookup goes on to the choice of point. -/
theorem State.testTrigger_gathers {u : State} {t : Trigger} {cs : List Candidate} (h : ¬ u.composer.needsNoBreak)
    (hs : candidateSource u.hyphenation u.desk.setup u.composer.current u.word = .gathered cs) :
    u.testTrigger t = u.setPhase (.choosing t cs) := by
  rw [State.testTrigger_breaks h, hs]

/-- A trigger whose candidates a lookup gives waits for it. -/
theorem State.testTrigger_searches {u : State} {t : Trigger} (h : ¬ u.composer.needsNoBreak)
    (hs : candidateSource u.hyphenation u.desk.setup u.composer.current u.word = .lookup) :
    u.testTrigger t = u.setPhase (.searching t) := by
  rw [State.testTrigger_breaks h, hs]

/-- A hyphen takes the strip ID of the slot that holds its font (R109). -/
theorem State.placedHyphen_resident {s : State} {h : Glyph} {j : Fin 8} {x : FontSlot} (hx : s.fonts.holdsOnly h.font j x) :
    s.placedHyphen h = { h with strip := x.strip } := by
  rw [State.placedHyphen, FontControl.stripOf_holdsOnly hx]

/-- A hyphen whose font no slot holds keeps its character's strip ID. -/
theorem State.placedHyphen_absent {s : State} {h : Glyph}
    (ha : ∀ (k : Fin 8) (y : FontSlot), s.fonts.store[k] = some y → y.font ≠ h.font) : s.placedHyphen h = h := by
  rw [State.placedHyphen, FontControl.stripOf, FontControl.slotOf_absent ha]
  rfl

/-- Settles O38: the space is discarded, placed, or tested; and the choice of point and the forced break are what R95 and R98 say. -/
theorem wordSpaceIsDiscardedPlacedOrTested : Obligations.WordSpaceIsDiscardedPlacedOrTested := by
  refine ⟨fun s i e j x h hx => ?_, fun codes chars effective cs hs => ?_, fun word effective => ?_, fun s h => ?_⟩
  · intro width mn op mx
    obtain ⟨hb, hr, hp, hn, ht, he, -⟩ := id h
    let k := s.composer
    let past := k.pastCode 1
    let space := Trigger.space k.readPosition mn op mx
    let u : State := { s with composer := { past with phase := .testing space } }
    have hu : u.Composes i e := ⟨hr, hn, ht, he⟩
    have acts : ¬ k.lineIsEmpty → s.takeCode (fun b => b == 0x70) actWordSpace = u.composerRun := fun hne => by
      rw [State.takeCode_acts h rfl rfl]
      exact congrArg State.composerRun ((actWordSpace_eq (s := s.modComposer fun k => k.pastCode 1) hx _ _ _).trans
        (if_neg (mt (Line.isEmpty_iff k).mp hne)))
    refine ⟨fun hem => ?_, fun hne hfit => ?_, fun hne hfit => ?_⟩
    · refine congrArg Host.Outcome.next (State.takeCode_settles (act := actWordSpace) h rfl rfl ?_ rfl rfl)
      exact (actWordSpace_eq (s := s.modComposer fun k => k.pastCode 1) hx _ _ _).trans (if_pos ((Line.isEmpty_iff k).mpr hem))
    · refine congrArg Host.Outcome.next ((acts hne).trans ((State.composerRun_composesTo
        (State.testing_then hu rfl (State.testTrigger_acts (s := u) hfit space)
          (State.composesTo_wait (.inr ⟨by exact hn, rfl⟩)))).trans ?_))
      exact congrArg (fun k : Composer => State.settle { s with
        composer := k.afterCode 1 { k.trace 0 with element := some (.space mn op mx) } }) (Composer.set_reading hp)
    · intro source k' past' space' before word effective point waits
      have runs : ∀ {n : Nat} {w : State}, n ≤ 128 → u.ComposesTo n w → exec .wordSpace s = .next w.settle := fun hle hw =>
        congrArg Host.Outcome.next ((acts hne).trans (State.composerRun_composesTo hw hle))
      refine ⟨fun hs => ?_, fun cs hs => ?_⟩
      · refine runs (by decide) (State.testing_then hu rfl
          (State.testTrigger_searches (u := u) hfit hs) (State.composesTo_wait (.inl rfl)))
      · let v : State := u.setPhase (.choosing space cs)
        have hv : v.Composes i e := hu
        have chooses : ∀ {n : Nat} {w : State}, n ≤ 127 → v.ComposesTo n w → exec .wordSpace s = .next w.settle := fun hle hw =>
          runs (Nat.succ_le_succ hle) (State.testing_then hu rfl (State.testTrigger_gathers (u := u) hfit hs) hw)
        refine ⟨fun g o hq => ⟨fun hf => ?_, fun hf hw => ?_⟩, fun hq hbf c hc hw => ?_, fun hq hbf => ⟨fun o ho hw => ?_, fun ho hw => ?_⟩⟩
        · exact chooses (by decide) (State.choosing_blocked hv rfl hq hf)
        · exact chooses (by decide) (State.choosing_hyphenates hv rfl hq hf hw)
        · exact chooses (by decide) (State.choosing_before hv rfl hq hbf hc hw)
        · exact chooses (by decide) (State.choosing_forced hv rfl hq hbf ho hw)
        · exact chooses (by decide) (State.choosing_forced_space hv rfl hq hbf ho hw)
  · exact ⟨fun c hc hf hbest => choosePoint_best hs hc hf hbest, fun h => choosePoint_none h⟩
  · exact ⟨fun h => forcedOffset_none effective h, fun n c h1 hn hl hc => forcedOffset_longest h1 hn hl hc⟩
  · exact ⟨fun j x hx => State.placedHyphen_resident hx, fun ha => State.placedHyphen_absent ha⟩

end Sys2Proof.Machine
end

section
/-! PROOFS. The film codes: appended in an empty line, held in another (spec 03, section 4.9). -/

namespace Sys2Proof.Machine

/-- The ring has room for a group. -/
theorem State.hasRoom_of {s : State} {n : Nat} (h : s.store.records.length + n ≤ 16) : s.hasRoom n = true := by
  refine decide_eq_true ?_
  rw [LineStore.room, show Config.ringPlaces = 16 from rfl]
  omega

section
variable {u : State} {i : Fin 8} {e : Entry} {l : Lead} {n : Nat}

/-- A film code of an empty line waits for a place of the ring. -/
theorem State.lead_waits (hp : u.composer.phase = .lead l n) (hf : 16 ≤ u.store.records.length) : u.phaseReady = false := by
  rw [State.phaseReady, hp]
  exact State.hasRoom_full hf

/-- A film code of an empty line is appended, with a place free. -/
theorem State.lead_appends (h : u.Composes i e) (hp : u.composer.phase = .lead l n) (hf : u.store.records.length < 16) :
    u.ComposesTo 1 { u with
      store := u.store.appended u.proofsOn [⟨i, e.lineNumber, e.toFilm, e.toProof, false, 0, .lead l⟩]
      flight := u.flight.set i.val (some { e with outstanding := e.outstanding + 1 })
      composer := { u.composer with
        galleyContent := true, lineStart := n, snapshot := u.composer.current
        line := ⟨[], none, u.composer.line.conditions ||| codeConditions u.composer.line.codes⟩, phase := .reading } } := by
  refine State.composesTo_phase h.1 h.2.1 (by simp [State.accessInFlight, hp]) ?_ ?_ (State.composesTo_wait (.inr ⟨by exact h.2.1, rfl⟩))
  · rw [State.phaseReady, hp]
    exact State.hasRoom_of (by omega)
  · rw [State.composerPhase, hp]
    dsimp only
    rw [State.appendLead, h.ticketEntry]
    dsimp only
    rw [State.append_eq h.2.2.2]
    rfl

end

/-- A film code, in each of the cases of R62 and R63. -/
theorem State.filmCode_settles {s : State} {i : Fin 8} {e : Entry} {code : Byte} {operands : List Byte} {row : Nat → Bool}
    {act : CodeAction} {l : Lead} (h : s.readsCode i e (code :: operands)) (ho : operandCount code = operands.length)
    (hrow : row code.toNat = true)
    (ha : act s.composer.readPosition code.toNat operands (s.modComposer fun c => c.pastCode (operands.length + 1))
      = (s.modComposer fun c => c.pastCode (operands.length + 1)).filmCode l s.composer.readPosition) :
    let size := operands.length + 1
    let past := s.composer.readPosition + size
    let became := fun u : State => Host.Outcome.next (φ := Fault) (ρ := Refusal) u.settle
    (¬ s.composer.lineIsEmpty → (heldFilm s.composer.line.codes).length < 8 →
      Host.Outcome.next (s.takeCode row act) = became (s.modComposer fun k => k.afterCode size { k.trace 0 with film := some l }))
    ∧ (¬ s.composer.lineIsEmpty → 8 ≤ (heldFilm s.composer.line.codes).length →
      Host.Outcome.next (s.takeCode row act) = became (s.modComposer fun k => k.afterCode size (k.trace 0x100)))
    ∧ (s.composer.lineIsEmpty → s.store.records.length < 16 → Host.Outcome.next (s.takeCode row act) = became { s with
        store := s.store.appended s.proofsOn [⟨i, e.lineNumber, e.toFilm, e.toProof, false, 0, .lead l⟩]
        flight := s.flight.set i.val (some { e with outstanding := e.outstanding + 1 })
        composer := { s.composer with
          readPosition := past, lineStart := past, snapshot := s.composer.current, galleyContent := true
          line := ⟨[], none, s.composer.line.conditions ||| codeConditions s.composer.line.codes⟩ } })
    ∧ (s.composer.lineIsEmpty → 16 ≤ s.store.records.length →
      Host.Outcome.next (s.takeCode row act) = became (s.modComposer fun k => { k with readPosition := past, phase := .lead l past })) := by
  intro size past became
  obtain ⟨-, hr, hp, hn, ht, he, -⟩ := id h
  let u := s.modComposer fun c => c.pastCode size
  let v := u.setPhase (.lead l past)
  have filled : ¬ s.composer.lineIsEmpty → u.filmCode l s.composer.readPosition =
      if 8 ≤ (heldFilm s.composer.line.codes).length then
        u.pushCode { u.plainCode s.composer.readPosition with conditions := Cond.badCode }
      else u.pushCode { u.plainCode s.composer.readPosition with film := some l } := fun hne =>
    if_neg (mt (Line.isEmpty_iff s.composer).mp hne)
  have appends : s.composer.lineIsEmpty → s.takeCode row act = v.composerRun := fun hem => by
    rw [State.takeCode_acts h ho hrow, ha]
    exact congrArg State.composerRun (if_pos ((Line.isEmpty_iff s.composer).mpr hem))
  refine ⟨fun hne hl => ?_, fun hne hl => ?_, fun hem hl => ?_, fun hem hl => ?_⟩
  · exact congrArg _ (State.takeCode_settles h ho hrow (ha.trans ((filled hne).trans (if_neg (Nat.not_le.mpr hl)))) rfl rfl)
  · exact congrArg _ (State.takeCode_settles h ho hrow (ha.trans ((filled hne).trans (if_pos hl))) rfl rfl)
  · refine congrArg _ ((appends hem).trans ((State.composerRun_composesTo (State.lead_appends (u := v) ⟨hr, hn, ht, he⟩ rfl hl)).trans ?_))
    exact congrArg (fun k : Composer => State.settle { s with
        store := s.store.appended s.proofsOn [⟨i, e.lineNumber, e.toFilm, e.toProof, false, 0, .lead l⟩]
        flight := s.flight.set i.val (some { e with outstanding := e.outstanding + 1 })
        composer := { k with
          readPosition := past, lineStart := past, snapshot := k.current, galleyContent := true
          line := ⟨[], none, k.line.conditions ||| codeConditions k.line.codes⟩ } }) (Composer.set_reading hp)
  · exact congrArg _ ((appends hem).trans (State.composerRun_wait _ (.inr (.inr ⟨hn, State.lead_waits (u := v) rfl hl⟩))))

/-- Settles O39: an amount of 0 does nothing, and every other film code goes by the line and the ring. -/
theorem filmCodesAreAppendedOrHeld : Obligations.FilmCodesAreAppendedOrHeld := by
  intro s i e lo hi became
  refine ⟨fun h => ?_, fun h => ?_, fun x hx h hrev hadv => ?_⟩
  · exact congrArg Host.Outcome.next (State.takeCode_settles (act := actReverse) h rfl rfl (if_pos rfl) rfl rfl)
  · exact congrArg Host.Outcome.next (State.takeCode_settles (act := actAdvance) h rfl rfl (if_pos rfl) rfl rfl)
  · simp only [List.mem_cons, List.not_mem_nil, or_false] at hx
    rcases hx with rfl | rfl | rfl | rfl
    · exact State.filmCode_settles (act := actMark) h rfl rfl rfl
    · exact State.filmCode_settles (act := actToMark) h rfl rfl rfl
    · exact State.filmCode_settles (act := actReverse) h rfl rfl (if_neg fun h0 => hrev (congrArg Lead.reverse h0))
    · exact State.filmCode_settles (act := actAdvance) h rfl rfl (if_neg fun h0 => hadv (congrArg Lead.advance h0))

end Sys2Proof.Machine
end

section
/-! PROOFS. The end codes: a line that ends whole, an empty line, the end of the take, and the stops of a routine ticket (spec 02,
section 3.3; spec 03, sections 4.3 and 4.8). -/

namespace Sys2Proof.Machine

/-! ### A line that ends whole (R61, R102) -/

/-- The group of a line that ends whole. -/
def Composer.wholeGroup (k : Composer) (mode : Quad) (lineNumber next : Nat) (after : After) : EndedLine where
  items := (k.lineSet mode lineNumber).items
  fonts := fontSet (glyphsOf (elementsOf k.line.codes))
  conditions := k.lineConditions mode lineNumber
  leadTicks := k.settings.leading * 10
  leads := heldFilm k.line.codes
  quad := (k.lineSet mode lineNumber).quad
  natural := (k.lineSet mode lineNumber).natural
  firstSpace := (k.lineSet mode lineNumber).firstSpace
  hyphenated := false
  carried := []
  nextStart := next
  snapshot := k.current
  after := after

/-- A line that ends whole, as its group and its conditions. -/
theorem State.endWhole_eq (u : State) (mode : Quad) (next : Nat) (after : After) : ∃ le, u.endWhole mode next after = u.endLine le
    ∧ ∀ n, u.endGroup le n = u.composer.wholeGroup mode n next after
      ∧ u.endConditions le n = u.composer.lineConditions mode n := by
  refine ⟨_, rfl, fun n => ?_⟩
  have elements : LineEnd.elements ⟨u.composer.line.codes, none, [], mode, 0, next, u.composer.current, after⟩
      = elementsOf u.composer.line.codes := List.append_nil _
  have conditions : u.endConditions ⟨u.composer.line.codes, none, [], mode, 0, next, u.composer.current, after⟩ n
      = u.composer.lineConditions mode n := by
    rw [State.endConditions, elements]
    exact congrArg (· ||| (u.composer.lineSet mode n).conditions) BitVec.or_zero
  refine ⟨?_, conditions⟩
  rw [State.endGroup, LineEnd.group, conditions, elements]
  rfl

/-- A report changes the conditions and the first line with one alone. -/
theorem Entry.report_eq (e : Entry) (line : Nat) (c : Half) : ∃ conditions firstLine,
    e.report line c = { e with conditions := conditions, firstLine := firstLine } := by
  unfold Entry.report
  split
  · exact ⟨e.conditions, e.firstLine, rfl⟩
  · exact ⟨_, _, rfl⟩

/-- The machine after a line that ends whole is appended, with what follows it. -/
def State.afterWhole (u : State) (i : Fin 8) (e : Entry) (mode : Quad) (next : Nat) : State :=
  { u with
    mem := u.loggedMem e (u.composer.lineLog e mode)
    store := u.store.appended u.proofsOn (u.composer.lineGroup i e mode)
    flight := u.flight.set i.val (some (u.composer.lineEntry i e mode))
    composer := { u.composer with
      lineStart := next
      current := { u.composer.current with ladder := 0 }
      snapshot := { u.composer.current with ladder := 0 }
      line := ⟨[], none, 0⟩
      drawn := u.composer.drawn - (u.composer.lineSet mode e.lineNumber).items.length
      galleyContent := true } }

section
variable {k k' : Composer} (hl : k'.line = k.line) (hc : k'.current = k.current)
include hl hc

theorem Composer.settings_congr : k'.settings = k.settings := by rw [Composer.settings, Composer.settings, hl, hc]

theorem Composer.lineSet_congr (mode : Quad) (n : Nat) : k'.lineSet mode n = k.lineSet mode n := by
  rw [Composer.lineSet, Composer.lineSet, hl, Composer.settings_congr hl hc]

theorem Composer.lineConditions_congr (mode : Quad) (n : Nat) : k'.lineConditions mode n = k.lineConditions mode n := by
  rw [Composer.lineConditions, Composer.lineConditions, Composer.lineSet_congr hl hc, hl, hc]

theorem Composer.lineGroup_congr (i : Fin 8) (e : Entry) (mode : Quad) : k'.lineGroup i e mode = k.lineGroup i e mode := by
  rw [Composer.lineGroup, Composer.lineGroup, Composer.lineConditions_congr hl hc, Composer.lineSet_congr hl hc,
    Composer.settings_congr hl hc, hl]

theorem Composer.lineEntry_congr (i : Fin 8) (e : Entry) (mode : Quad) : k'.lineEntry i e mode = k.lineEntry i e mode := by
  rw [Composer.lineEntry, Composer.lineEntry, Composer.lineConditions_congr hl hc, Composer.lineGroup_congr hl hc]

theorem Composer.lineLog_congr (hs : k'.lineStart = k.lineStart) (e : Entry) (mode : Quad) : k'.lineLog e mode = k.lineLog e mode := by
  rw [Composer.lineLog, Composer.lineLog, Composer.lineConditions_congr hl hc, Composer.lineSet_congr hl hc, hs]

end

/-- The line that ends is the one the code found: reading the code changes nothing of it. -/
theorem State.afterWhole_read (s : State) (k : Composer) (hl : k.line = s.composer.line) (hc : k.current = s.composer.current)
    (hs : k.lineStart = s.composer.lineStart) (i : Fin 8) (e : Entry) (mode : Quad) (next : Nat) :
    ({ s with composer := k } : State).afterWhole i e mode next = { s with
      mem := s.loggedMem e (s.composer.lineLog e mode)
      store := s.store.appended s.proofsOn (s.composer.lineGroup i e mode)
      flight := s.flight.set i.val (some (s.composer.lineEntry i e mode))
      composer := { k with
        lineStart := next
        current := { s.composer.current with ladder := 0 }
        snapshot := { s.composer.current with ladder := 0 }
        line := ⟨[], none, 0⟩
        drawn := k.drawn - (s.composer.lineSet mode e.lineNumber).items.length
        galleyContent := true } } := by
  have hmem : State.loggedMem { s with composer := k } e (s.composer.lineLog e mode) = s.loggedMem e (s.composer.lineLog e mode) :=
    State.loggedMem_congr (s := { s with composer := k }) (t := s) rfl _ _
  rw [State.afterWhole]
  dsimp only
  rw [Composer.lineLog_congr hl hc hs, Composer.lineGroup_congr hl hc, Composer.lineEntry_congr hl hc, Composer.lineSet_congr hl hc, hc,
    hmem]
  rfl

/-- A line that ends whole, masked by nothing and with room in the ring, is appended. -/
theorem State.endWhole_appends {u : State} {i : Fin 8} {e : Entry} (hb : u.bus = none) (h : u.Composes i e) (mode : Quad) (next : Nat)
    (after : After) (hm : ∀ n < 9, (u.composer.lineConditions mode e.lineNumber &&& e.stopMask).getLsbD n = false)
    (hroom : u.store.records.length + (u.composer.lineGroup i e mode).length ≤ 16) :
    ∃ p, ∀ {n : Nat} {w : State}, (((u.afterWhole i e mode next).setPhase p).goAfter after).ComposesTo n w →
      (u.endWhole mode next after).ComposesTo (n + 1) w := by
  obtain ⟨le, hle, hg⟩ := u.endWhole_eq mode next after
  obtain ⟨hgroup, hcond⟩ := hg e.lineNumber
  let g := u.composer.wholeGroup mode e.lineNumber next after
  have ends := State.endLine_groups h le (by rw [hcond]; exact hm)
  rw [hgroup] at ends
  let v := u.blockedAtGroup i e g u.composer
  have hlen : (u.composer.lineGroup i e mode).length = 1 + g.leads.length := by
    rw [Composer.lineGroup, List.length_cons, List.length_map, Nat.add_comm]
    rfl
  have hv : v.Composes i (e.report e.lineNumber g.conditions) := ⟨h.1, h.2.1, h.2.2.1, flight_set_self ..⟩
  refine ⟨.group g, fun hw => ?_⟩
  rw [hle, ends]
  refine State.composesTo_phase (s := v) h.1 h.2.1 rfl (State.hasRoom_of (s := v) (by rw [← hlen]; exact hroom)) ?_ hw
  refine (State.appendGroup_eq (s := v) hb hv g).trans (congrArg (State.goAfter after) ?_)
  obtain ⟨conditions, first, hrep⟩ := e.report_eq e.lineNumber g.conditions
  have hentry : (e.report e.lineNumber g.conditions).afterGroup g = u.composer.lineEntry i e mode := by
    rw [Composer.lineEntry, hlen, show u.composer.lineConditions mode e.lineNumber = g.conditions from rfl, Entry.afterGroup, hrep]
    rfl
  have hset : v.flight.set i.val (some ((e.report e.lineNumber g.conditions).afterGroup g))
      = u.flight.set i.val (some (u.composer.lineEntry i e mode)) := by
    rw [hentry]
    exact Vector.set_set ..
  have hmem : v.loggedMem (e.report e.lineNumber g.conditions) (logBytes (e.report e.lineNumber g.conditions).lineNumber v.composer.lineStart g)
      = u.loggedMem e (u.composer.lineLog e mode) := by
    rw [hrep]
    exact State.loggedMem_congr (s := v) (t := u) rfl e (u.composer.lineLog e mode)
  have hrecords : g.records i (e.report e.lineNumber g.conditions) = u.composer.lineGroup i e mode := by
    rw [hrep]
    rfl
  rw [State.afterGroup, hset, hmem, hrecords]
  rfl

/-- An end code at a line that needs no break ends it whole. -/
theorem State.takeCode_endsWhole {s : State} {i : Fin 8} {e : Entry} {code : Byte} {row : Nat → Bool} {act : CodeAction} {t : Trigger}
    {mode : Quad} {after : After} (h : s.readsCode i e [code]) (ho : operandCount code = 0) (hrow : row code.toNat = true)
    (ha : act s.composer.readPosition code.toNat [] (s.modComposer fun c => c.pastCode 1)
      = (s.modComposer fun c => c.pastCode 1).setPhase (.testing t))
    (ht : ∀ u : State, u.composer.line = s.composer.line → u.actTrigger t = u.endWhole mode (s.composer.readPosition + 1) after)
    (hfit : s.composer.needsNoBreak) : ∃ u : State, u = (s.modComposer fun c => c.pastCode 1).setPhase (.testing t) ∧ u.Composes i e
      ∧ ∀ {n : Nat} {w : State}, (u.endWhole mode (s.composer.readPosition + 1) after).ComposesTo n w → n ≤ 127 →
        s.takeCode row act = w.settle := by
  let u := (s.modComposer fun c => c.pastCode 1).setPhase (.testing t)
  have hu : u.Composes i e := ⟨h.2.1, h.2.2.2.1, h.2.2.2.2.1, h.2.2.2.2.2.1⟩
  refine ⟨u, rfl, hu, fun hw hn => ?_⟩
  rw [State.takeCode_acts h ho hrow]
  refine (congrArg State.composerRun ha).trans (State.composerRun_composesTo (State.testing_then hu rfl ?_ hw) (Nat.succ_le_succ hn))
  rw [State.testTrigger_acts (by exact hfit), ht u rfl]

/-- The bytes of a line log entry. -/
theorem logBytes_length (lineNumber lineStart : Nat) (g : EndedLine) : (logBytes lineNumber lineStart g).length = 16 := by
  have natural : g.natural.bytes.length = 4 := by
    unfold MeasureWord.bytes
    split <;> rfl
  simp [logBytes, natBytes, halfBytes, longBytes, natural]

/-- The log entry of a line changes no byte outside it. -/
theorem State.loggedMem_other {s : State} {e : Entry} {bs : List Byte} (hl : bs.length = 16) {a : Addr}
    (ha : e.logOpen → outsideRun a e.logAddr 16) : ({ s with mem := s.loggedMem e bs } : State).byte a = s.byte a := by
  unfold State.loggedMem
  split
  next ho =>
    rw [← State.storeBytes_eq]
    exact State.storeBytes_other _ _ s a (by rw [hl]; exact ha ho)
  next => rfl

/-- Settles O40: each end code ends the line whole, and its group is appended. -/
theorem endCodesAppendTheLine : Obligations.EndCodesAppendTheLine := by
  intro s i e x hx h hne hfit hm hroom
  refine ⟨_, ?_, rfl, fun a ha => State.loggedMem_other (logBytes_length e.lineNumber s.composer.lineStart
    (s.composer.wholeGroup x.2.2 e.lineNumber 0 .readOn)) ha⟩
  have ends : ∀ {row : Nat → Bool} {act : CodeAction} {t : Trigger}, operandCount x.2.1 = 0 → row x.2.1.toNat = true →
      act s.composer.readPosition x.2.1.toNat [] (s.modComposer fun c => c.pastCode 1)
        = (s.modComposer fun c => c.pastCode 1).setPhase (.testing t) →
      (∀ u : State, u.composer.line = s.composer.line →
        u.actTrigger t = u.endWhole x.2.2 (s.composer.readPosition + 1) .readOn) →
      Host.Outcome.next (φ := Fault) (ρ := Refusal) (s.takeCode row act) = .next (State.settle { s with
        mem := s.loggedMem e (s.composer.lineLog e x.2.2)
        store := s.store.appended s.proofsOn (s.composer.lineGroup i e x.2.2)
        flight := s.flight.set i.val (some (s.composer.lineEntry i e x.2.2))
        composer := s.composer.afterLine e x.2.2 }) := by
    intro row act t ho hrow ha ht
    obtain ⟨u, hu, hc, run⟩ := State.takeCode_endsWhole h ho hrow ha ht hfit
    subst hu
    obtain ⟨p, appends⟩ := State.endWhole_appends (by exact h.1) hc x.2.2 (s.composer.readPosition + 1) .readOn hm hroom
    refine congrArg Host.Outcome.next ((run (appends (State.composesTo_wait (.inr ⟨by exact h.2.2.2.1, rfl⟩))) (by decide)).trans ?_)
    have read := State.afterWhole_read s { s.composer.pastCode 1 with phase := .testing t } rfl rfl rfl i e x.2.2
      (s.composer.readPosition + 1)
    refine (congrArg (fun v : State => State.settle ((v.setPhase p).setPhase .reading)) read).trans ?_
    exact congrArg (fun k : Composer => State.settle { s with
      mem := s.loggedMem e (s.composer.lineLog e x.2.2)
      store := s.store.appended s.proofsOn (s.composer.lineGroup i e x.2.2)
      flight := s.flight.set i.val (some (s.composer.lineEntry i e x.2.2))
      composer := k.afterLine e x.2.2 }) (Composer.set_reading h.2.2.1)
  simp only [List.mem_cons, List.not_mem_nil, or_false] at hx
  rcases hx with rfl | rfl | rfl | rfl | rfl
  · exact ends (act := actEndLine) rfl rfl rfl fun _ _ => rfl
  · exact ends (act := actEndLine) rfl rfl rfl fun _ _ => rfl
  · exact ends (act := actEndLine) rfl rfl rfl fun _ _ => rfl
  · exact ends (act := actEndLine) rfl rfl rfl fun _ _ => rfl
  · refine ends (act := actEndParagraph) rfl rfl rfl fun u hu => if_neg ?_
    rw [hu]
    exact mt (Line.isEmpty_iff s.composer).mp (hne rfl)

end Sys2Proof.Machine
end

section
/-! PROOFS. The end of the take, the empty line, and the stops of a routine ticket (spec 02, section 3.3; spec 03, sections 4.3 and 4.8). -/

namespace Sys2Proof.Machine

/-! ### The end of the take (R52) -/

theorem Composer.lineEntry_cls (k : Composer) (i : Fin 8) (e : Entry) (mode : Quad) : (k.lineEntry i e mode).cls = e.cls := by
  obtain ⟨conditions, first, hrep⟩ := e.report_eq e.lineNumber (k.lineConditions mode e.lineNumber)
  rw [Composer.lineEntry, hrep, Entry.logged]
  split <;> rfl

/-- An entry set in the Flight Table leaves the others free. -/
theorem flight_set_free {v : Vector (Option Entry) 8} {i j : Fin 8} {e : Entry} (he : v[i] = some e) (hj : v[j] = none)
    (x : Option Entry) : (v.set i.val x)[j] = none := by
  have hne : i.val ≠ j.val := fun h => by
    rw [Fin.ext h, hj] at he
    cases he
  exact (Vector.getElem_set_ne _ j.isLt hne).trans hj

/-- A Composer that has let its ticket go waits. -/
theorem State.released_waits {s : State} (k : Composer) (hn : s.composer.preempt = none) (c : CompState) (h : s.composer = k.released c) :
    s.ComposesTo 0 s := by
  refine State.composesTo_wait (.inr ⟨hn, ?_⟩)
  rw [State.phaseReady, h]
  rfl

/-- Settles O42: the line ends whole and is appended, and the ticket is finished. -/
theorem endOfTakeAppendsTheLineAndFinishes : Obligations.EndOfTakeAppendsTheLineAndFinishes := by
  intro s i e h hne hfit hm hroom hcls hscan
  have ht : ∀ u : State, u.composer.line = s.composer.line → u.actTrigger (.endOfTake s.composer.readPosition)
      = u.endWhole .left (s.composer.readPosition + 1) (.finishTake s.composer.readPosition) := fun u hu => by
    refine if_neg ?_
    rw [hu]
    exact mt (Line.isEmpty_iff s.composer).mp hne
  obtain ⟨u, hu, hc, run⟩ := State.takeCode_endsWhole (row := fun b => b == 0x7F) (act := actEndOfTake) h rfl rfl rfl ht hfit
  subst hu
  obtain ⟨p, appends⟩ := State.endWhole_appends (by exact h.1) hc .left (s.composer.readPosition + 1)
    (.finishTake s.composer.readPosition) hm hroom
  have read := State.afterWhole_read s { s.composer.pastCode 1 with phase := .testing (.endOfTake s.composer.readPosition) } rfl rfl rfl
    i e .left (s.composer.readPosition + 1)
  have go : ((State.afterWhole { s with
      composer := { s.composer.pastCode 1 with phase := .testing (.endOfTake s.composer.readPosition) } } i e .left
        (s.composer.readPosition + 1)).setPhase p).goAfter (.finishTake s.composer.readPosition) = { s with
      mem := s.loggedMem e (s.composer.lineLog e .left)
      store := s.store.appended s.proofsOn (s.composer.lineGroup i e .left)
      flight := s.flight.set i.val (some
        { s.composer.lineEntry i e .left with stopOffset := s.composer.readPosition, finished := true })
      composer := (s.composer.afterLine e .left).released { s.composer.current with ladder := 0 }
      scanner := s.scanner.released } := by
    rw [read]
    obtain ⟨hr, hw, hi, j, hj⟩ := hscan
    refine (State.finishTake_routine ⟨by exact h.2.1, by exact h.2.2.2.1, by exact h.2.2.2.2.1, by exact flight_set_self ..⟩
      ((s.composer.lineEntry_cls i e .left).trans hcls)
      ⟨by exact hr, by exact hw, by exact hi, j, by exact flight_set_free h.2.2.2.2.2.1 hj _⟩ s.composer.readPosition).trans ?_
    exact congrArg (fun v => ({ s with
      mem := s.loggedMem e (s.composer.lineLog e .left)
      store := s.store.appended s.proofsOn (s.composer.lineGroup i e .left)
      flight := v
      composer := (s.composer.afterLine e .left).released { s.composer.current with ladder := 0 }
      scanner := s.scanner.released } : State)) (Vector.set_set ..)
  refine congrArg Host.Outcome.next (run (appends (n := 0) ?_) (by decide))
  rw [show ((State.modComposer (fun c => c.pastCode 1) s).setPhase (.testing (.endOfTake s.composer.readPosition))) = { s with
    composer := { s.composer.pastCode 1 with phase := .testing (.endOfTake s.composer.readPosition) } } from rfl, go]
  exact State.released_waits _ h.2.2.2.1 _ rfl

/-! ### An empty line (R61) -/

/-- The word being read and what stands before it are the line. -/
theorem splitWord_append : ∀ cs : List LineCode, (splitWord cs).1 ++ (splitWord cs).2 = cs
  | [] => rfl
  | c :: rest => by
    have ih := splitWord_append rest
    rw [splitWord]
    generalize splitWord rest = p at ih ⊢
    obtain ⟨b, w⟩ := p
    cases b with
    | nil =>
      dsimp only
      split <;> exact congrArg (c :: ·) ih
    | cons x b => exact congrArg (c :: ·) ih

/-- The codes of an empty line place nothing. -/
theorem Composer.lineIsEmpty_needsNoBreak {k : Composer} (h : k.lineIsEmpty) : k.needsNoBreak := by
  refine .inr (.inl fun c hc => ?_)
  have hmem : c ∈ k.line.codes := by
    rw [← splitWord_append k.line.codes]
    exact List.mem_append_right _ hc
  rw [LineCode.widthBearing, List.filterMap_eq_nil_iff.mp h c hmem]
  rfl

/-- An empty line that ends, masked by nothing, reports its conditions and makes no record. -/
theorem State.endEmpty_reports {u : State} {i : Fin 8} {e : Entry} (h : u.Composes i e) (after : After) {raised : Half}
    (hr : raised = codeConditions u.composer.line.codes ||| (u.composer.line.fix u.composer.current).conditions)
    (hm : ∀ n < 9, (raised &&& e.stopMask).getLsbD n = false) : u.endEmpty after = State.goAfter after { u with
      flight := u.flight.set i.val (some (e.report e.lineNumber raised))
      composer := { u.composer with line := ⟨[], none, 0⟩ } } := by
  have conditions : (u.endSettings u.composer.line.codes 0).2 = raised := by
    rw [State.endSettings_eq, hr]
    exact BitVec.or_zero
  unfold State.endEmpty
  rw [h.ticketEntry]
  dsimp only
  rw [conditions, maskedBit_none hm, State.report_eq h.2.2.2]
  rfl

/-- Settles O41: 0x79 reads on after the report, and 0x7F finishes the ticket. -/
theorem emptyLineEndsWithoutARecord : Obligations.EmptyLineEndsWithoutARecord := by
  intro s i e hem raised reported past hm
  have ends : ∀ {code : Byte} {row : Nat → Bool} {act : CodeAction} {t : Trigger} {after : After} {v : State},
      s.readsCode i e [code] → operandCount code = 0 → row code.toNat = true →
      act s.composer.readPosition code.toNat [] (s.modComposer fun c => c.pastCode 1)
        = (s.modComposer fun c => c.pastCode 1).setPhase (.testing t) →
      (∀ u : State, u.composer.line = s.composer.line → u.actTrigger t = u.endEmpty after) →
      State.goAfter after { s with
        flight := s.flight.set i.val (some reported)
        composer := { past with phase := .testing t } } = v → v.ComposesTo 0 v → s.takeCode row act = v.settle := by
    intro code row act t after v h ho hrow ha ht hv hw
    let u := (s.modComposer fun c => c.pastCode 1).setPhase (.testing t)
    have hu : u.Composes i e := ⟨h.2.1, h.2.2.2.1, h.2.2.2.2.1, h.2.2.2.2.2.1⟩
    rw [State.takeCode_acts h ho hrow]
    refine (congrArg State.composerRun ha).trans (State.composerRun_composesTo (State.testing_then hu rfl ?_ hw))
    rw [State.testTrigger_acts (by exact Composer.lineIsEmpty_needsNoBreak hem), ht u rfl, State.endEmpty_reports hu after rfl hm, ← hv]
    rfl
  have empty : ∀ u : State, u.composer.line = s.composer.line → u.composer.line.isEmpty = true := fun u hu => by
    rw [hu]
    exact (Line.isEmpty_iff s.composer).mpr hem
  refine ⟨fun h => ?_, fun h hcls hscan => ?_⟩
  · refine congrArg Host.Outcome.next ((ends (act := actEndParagraph) h rfl rfl rfl (fun u hu => if_pos (empty u hu)) rfl
      (State.composesTo_wait (.inr ⟨by exact h.2.2.2.1, rfl⟩))).trans ?_)
    exact congrArg (fun k : Composer => State.settle { s with
      flight := s.flight.set i.val (some reported), composer := { k.pastCode 1 with line := ⟨[], none, 0⟩ } }) (Composer.set_reading h.2.2.1)
  · obtain ⟨conditions, first, hrep⟩ := e.report_eq e.lineNumber raised
    obtain ⟨hr, hw, hi, j, hj⟩ := hscan
    refine congrArg Host.Outcome.next (ends (act := actEndOfTake) h rfl rfl rfl (fun u hu => if_pos (empty u hu)) ?_
      (State.released_waits _ h.2.2.2.1 _ rfl))
    refine (State.finishTake_routine (e := reported) ⟨by exact hr, by exact h.2.2.2.1, by exact h.2.2.2.2.1, by exact flight_set_self ..⟩
      (by rw [show reported = _ from hrep]; exact hcls)
      ⟨by exact hr, by exact hw, by exact hi, j, by exact flight_set_free h.2.2.2.2.2.1 hj _⟩ s.composer.readPosition).trans ?_
    exact congrArg (fun v => ({ s with
      flight := v
      composer := past.released s.composer.current
      scanner := s.scanner.released } : State)) (Vector.set_set ..)

/-! ### The stops of a routine ticket (R32, R33, R53) -/

/-- A line that raises a masked condition is reported, and its ticket stopped. -/
theorem State.endWhole_stops {u : State} {i : Fin 8} {e : Entry} (h : u.Composes i e) (hc : e.cls = .routine) (hs : u.scanCanStart)
    {mode : Quad} {b : Nat} (next : Nat) (after : After) (hb : b < 9)
    (hm : (u.composer.lineConditions mode e.lineNumber &&& e.stopMask).getLsbD b = true)
    (hl : ∀ n < b, (u.composer.lineConditions mode e.lineNumber &&& e.stopMask).getLsbD n = false) :
    u.endWhole mode next after
      = u.stopsRoutine i (e.report e.lineNumber (u.composer.lineConditions mode e.lineNumber)) .masked (some b) := by
  obtain ⟨le, hle, hg⟩ := u.endWhole_eq mode next after
  obtain ⟨-, hcond⟩ := hg e.lineNumber
  generalize u.composer.lineConditions mode e.lineNumber = raised at hm hl hcond ⊢
  obtain ⟨conditions, first, hrep⟩ := e.report_eq e.lineNumber raised
  obtain ⟨hr, hw, hi, j, hj⟩ := hs
  rw [hle, State.endLine_eq h.ticketEntry, hcond, maskedBit_lowest hb hm hl, State.report_eq h.2.2.2]
  refine (State.stopTicket_routine
    (s := { u with flight := u.flight.set i.val (some (e.report e.lineNumber raised)) }) (e := e.report e.lineNumber raised)
    ⟨h.1, h.2.1, h.2.2.1, flight_set_self ..⟩ (by rw [hrep]; exact hc) ⟨hr, hw, hi, j, flight_set_free h.2.2.2 hj _⟩ .masked (some b)).trans ?_
  exact congrArg (fun v => ({ u.stopsRoutine i e .masked (some b) with flight := v } : State)) (Vector.set_set ..)

/-- Settles O43: the take overrun stops the ticket at once, and a masked line when it ends. -/
theorem routineTicketIsStopped : Obligations.RoutineTicketIsStopped := by
  intro s i e hb hp hn ht he hcls hscan
  have hs : s.Composes i e := ⟨hscan.1, hn, ht, he⟩
  refine ⟨fun hover => ?_, fun x b hx h hfit hb9 => ?_⟩
  · have reading : s.readingTicket = some e := by
      rw [State.readingTicket, if_pos ⟨hscan.1, hp, hn⟩, hs.ticketEntry]
      rfl
    have runsOut : s.overruns e = true := by
      rw [State.overruns, Bool.or_eq_true, decide_eq_true_eq, decide_eq_true_eq]
      exact hover
    show execTakeOverrun s = _
    rw [execTakeOverrun, reading]
    dsimp only
    rw [if_pos runsOut, State.overrun, State.stopTicket_routine hs hcls hscan]
    exact congrArg Host.Outcome.next (State.composerRun_composesTo (State.released_waits _ (by exact hn) _ rfl))
  · intro raised hm hl
    have ends : ∀ {t : Trigger}, operandCount x.1 = 0 → (0x75 ≤ x.1.toNat && x.1.toNat ≤ 0x78) = true →
        actEndLine s.composer.readPosition x.1.toNat [] (s.modComposer fun c => c.pastCode 1)
          = (s.modComposer fun c => c.pastCode 1).setPhase (.testing t) →
        (∀ u : State, u.composer.line = s.composer.line →
          u.actTrigger t = u.endWhole x.2 (s.composer.readPosition + 1) .readOn) →
        exec .endLine s = .next (State.settle (s.stopsRoutine i (e.report e.lineNumber raised) .masked (some b))) := by
      intro t ho hrow ha hact
      obtain ⟨u, hu, hc, run⟩ := State.takeCode_endsWhole (row := fun b => 0x75 ≤ b && b ≤ 0x78) h ho hrow ha hact hfit
      have stops := State.endWhole_stops hc hcls (by rw [hu]; exact hscan) (s.composer.readPosition + 1) .readOn hb9
        (by rw [hu]; exact hm) (by rw [hu]; exact hl)
      refine congrArg Host.Outcome.next (run (n := 0) ?_ (by decide))
      rw [stops]
      subst hu
      exact State.released_waits _ (by exact hn) _ rfl
    simp only [List.mem_cons, List.not_mem_nil, or_false] at hx
    rcases hx with rfl | rfl | rfl | rfl <;> exact ends rfl rfl rfl fun _ _ => rfl

end Sys2Proof.Machine
end

section
/-! PROOFS. The dictionary lookup: how it ends, and the break of its line (spec 05, sections 6.4 and 6.5). -/

namespace Sys2Proof.Machine

/-- A read of a range that the grants allow, with the bus acknowledging. -/
theorem State.grantedRead_allowed {s : State} (hb : s.bus = none) {ptr len : Nat} (ha : s.allowed false ptr len = true) :
    s.grantedRead ptr len = (.ok (s.bytes (BitVec.ofNat 24 ptr) len), s) := by
  rw [State.grantedRead, if_pos ha, s.busRead_none _ _ hb]

/-- The first entry of a chain holds the key. -/
theorem State.searchChain_first {s : State} (hb : s.bus = none) {key : List Byte} {ptr : Nat} (left : Nat)
    (ha : s.allowed false ptr 1 = true) (hl : natAt (s.bytes (BitVec.ofNat 24 ptr) 1) 0 = key.length) (h1 : 1 ≤ key.length)
    (h31 : key.length ≤ 31) (he : s.allowed false (ptr + 1) (4 + key.length) = true)
    (hk : (s.bytes (BitVec.ofNat 24 (ptr + 1)) (4 + key.length)).take key.length = key) :
    s.searchChain key left ptr = (.found (longAt (s.bytes (BitVec.ofNat 24 (ptr + 1)) (4 + key.length)) key.length), s) := by
  rw [State.searchChain, State.grantedRead_allowed hb ha]
  dsimp only
  rw [hl, if_neg (by omega), State.grantedRead_allowed hb he]
  dsimp only
  rw [if_pos ⟨rfl, hk⟩]

section
variable {s : State} {chars : List (Nat × Glyph)}

/-- The key of a word in the dictionary. -/
def State.keyOf (s : State) (chars : List (Nat × Glyph)) : List Byte := chars.map fun c => s.hyphenation.foldOf c.2.code

/-- The first entry's pointer in the bucket of a word. -/
def State.bucketPointer (s : State) (chars : List (Nat × Glyph)) : Nat :=
  longAt (s.bytes (BitVec.ofNat 24 (s.hyphenation.dictionary.toNat + 4 * bucketOf (s.keyOf chars))) 4) 0

/-- A lookup goes by the pointer its bucket holds. -/
theorem State.lookupWord_bucket (hb : s.bus = none)
    (ha : s.allowed false (s.hyphenation.dictionary.toNat + 4 * bucketOf (s.keyOf chars)) 4 = true) :
    s.lookupWord chars = if s.bucketPointer chars = 0 then (.notFound, s)
      else s.searchChain (s.keyOf chars) 256 (s.bucketPointer chars) := by
  rw [State.lookupWord, State.grantedRead_allowed hb (by exact ha)]
  rfl

end

/-- A lookup that no cancel waits for, with no flash to preempt for, goes on as its outcome says. -/
theorem State.lookupCompletes_goesOn {s : State} {t : Trigger} {o : Lookup} (hp : s.composer.phase = .searching t)
    (hn : s.composer.preempt = none) (hc : ∀ i, s.desk.busy ≠ some (.cancel i)) (hl : s.lookupWord s.hyphenationChars = (o, s)) :
    s.lookupCompletes = (s.lookupEnds t o).composerRun := by
  have hw : s.cancelWaiting = none := by
    unfold State.cancelWaiting
    split
    · rename_i i h
      exact absurd h (hc i)
    · rfl
  have hcomposed : s.cancelsComposed = none := by simp [State.cancelsComposed, hw]
  simp only [State.lookupCompletes, hp, hl, hcomposed, hn, Option.isSome_none, Bool.false_eq_true, if_false]

/-- Settles O44: the outcome of the lookup gives the candidates, and the choice of point among them is that of the word space. -/
theorem dictionaryLookupGivesCandidates : Obligations.DictionaryLookupGivesCandidates := by
  intro s t hb hp hn hc k before word effective chars key bucket found entry became gives ha
  have chosen : ∀ cs : List Candidate, s.lookupCompletes = (s.setPhase (.choosing t (cs.filter (keepPoint s.desk.setup chars.length)))).composerRun →
      gives cs := by
    intro cs run
    dsimp only [gives]
    let kept := cs.filter (keepPoint s.desk.setup chars.length)
    let u := s.setPhase (.choosing t kept)
    refine ⟨fun hh => ?_, fun hr i e ht he => ?_⟩
    · exact congrArg Host.Outcome.next (run.trans (State.composerRun_wait _ (.inl (by simp [State.setPhase, hh]))))
    · have hu : u.Composes i e := ⟨hr, hn, ht, he⟩
      have chooses : ∀ {n : Nat} {w : State}, n ≤ 128 → u.ComposesTo n w → became w := fun hle hw =>
        congrArg Host.Outcome.next (run.trans (State.composerRun_composesTo hw hle))
      refine ⟨fun g o hq => ⟨fun hf => ?_, fun hf hw => ?_⟩, fun hq hbf c hc hw => ?_, fun hq hbf => ⟨fun o ho hw => ?_, ?_⟩⟩
      · exact chooses (by decide) (State.choosing_blocked hu rfl hq hf)
      · exact chooses (by decide) (State.choosing_hyphenates hu rfl hq hf hw)
      · exact chooses (by decide) (State.choosing_before hu rfl hq hbf hc hw)
      · exact chooses (by decide) (State.choosing_forced hu rfl hq hbf ho hw)
      · intro o mn op mx hspace ho hw
        subst hspace
        exact chooses (by decide) (State.choosing_forced_space hu rfl hq hbf ho hw)
  have bucketed := State.lookupWord_bucket (s := s) (chars := s.hyphenationChars) hb ha
  refine ⟨fun h0 => chosen _ ?_, fun h0 ha1 hl h1 h31 ha2 hk => chosen _ ?_⟩
  · exact State.lookupCompletes_goesOn (o := .notFound) hp hn hc (bucketed.trans (if_pos h0))
  · exact State.lookupCompletes_goesOn (o := .found _) hp hn hc
      (bucketed.trans ((if_neg h0).trans (State.searchChain_first hb 256 ha1 hl h1 h31 ha2 hk)))

end Sys2Proof.Machine
end

section
/-! PROOFS. A BLOCKED Composer goes on at an item, a LEAD, a line, a cut, or the end of a flash chain (spec 02, section 3.5; spec 05, section
6.8; spec 07, section 8.3). -/

namespace Sys2Proof.Machine

/-! ### The waits of a BLOCKED Composer (R101, R122) -/

/-- A Composer that waits for its item is left by a draw. -/
theorem State.drawStep_waits {s : State} (h : s.phaseReady = false) : s.drawStep = s :=
  if_neg (by rw [h, Bool.and_false]; exact Bool.false_ne_true)

/-- A Composer that waits for its places is left by an append. -/
theorem State.appendStep_waits {s : State} (h : s.phaseReady = false) : s.appendStep = s :=
  if_neg (by rw [h, Bool.and_false]; exact Bool.false_ne_true)

theorem State.drawStep_runs {s : State} (hd : s.composer.phase.draws = true) (h : s.phaseReady = true) : s.drawStep = s.composerRun :=
  if_pos (by rw [hd, h]; rfl)

theorem State.appendStep_runs {s : State} (ha : s.composer.phase.appends = true) (h : s.phaseReady = true) :
    s.appendStep = s.composerRun := if_pos (by rw [ha, h]; rfl)

/-- A first phase that the Composer is ready for; the run that follows it. -/
theorem State.appendStep_composesTo {s t : State} {n : Nat} (ha : s.composer.phase.appends = true) (h : s.phaseReady = true)
    (hc : s.ComposesTo n t) (hn : n ≤ 128 := by decide) : s.appendStep = t.settle :=
  (State.appendStep_runs ha h).trans (State.composerRun_composesTo hc hn)

/-! ### An ended line's group (R102) -/

section
variable {s : State} {i : Fin 8} {e : Entry} {g : EndedLine}

theorem State.group_ready (hp : s.composer.phase = .group g) : s.phaseReady = s.hasRoom (1 + g.leads.length) := by
  rw [State.phaseReady, hp]

/-- The group of an ended line is appended, and what follows it goes on. -/
theorem State.group_then {t : State} {n : Nat} (hb : s.bus = none) (h : s.Composes i e) (hp : s.composer.phase = .group g)
    (hr : s.phaseReady = true) (ht : ((s.afterGroup i e g).goAfter g.after).ComposesTo n t) : s.ComposesTo (n + 1) t := by
  refine State.composesTo_phase h.1 h.2.1 (by simp [State.accessInFlight, hp]) hr ?_ ht
  rw [State.composerPhase, hp]
  exact State.appendGroup_eq hb h g

end

/-! ### The cuts (R29, R40, R41, R119) -/

section
variable {s : State} {i : Fin 8} {e : Entry}

/-- A CUT record appended, with the galley-content flag as it leaves it (R37). -/
theorem State.appendCut_eq (he : s.flight[i] = some e) (r : Record) : s.appendCut i r = { s with
    store := s.store.appended s.proofsOn [r]
    flight := s.flight.set i.val (some { e with outstanding := e.outstanding + 1 })
    composer := { s.composer with galleyContent := s.composer.galleyContent && !r.toFilm } } := by
  rw [State.appendCut, State.append_eq he]
  rfl

/-- A ring that a record has filled has no room for another. -/
theorem State.hasRoom_filled {u : State} {b : Bool} {r : Record} (h : s.store.records.length = 15)
    (hu : u.store = s.store.appended b [r]) : u.hasRoom 1 = false := by
  refine State.hasRoom_full ?_
  rw [hu, LineStore.appended, List.length_append, h]
  rfl

theorem State.cutNext_cut (h : s.Composes i e) (hk : e.kind = .cut) (hf : e.finished = false) : s.cutNext = true := by
  rw [State.cutNext, h.ticketEntry]
  show (e.kind == .cut && !e.finished) = true
  rw [hk, hf]
  rfl

/-- A CUT ticket that is about to begin waits for a place of the ring. -/
theorem State.begin_ready (h : s.Composes i e) (hp : s.composer.phase = .begin) (hk : e.kind = .cut) (hf : e.finished = false) :
    s.phaseReady = s.hasRoom 1 := by
  rw [State.phaseReady, hp]
  dsimp only
  rw [State.cutNext_cut h hk hf]
  rfl

/-- The record of a CUT ticket is appended, and the ticket is finished. -/
theorem State.beginTicket_cut (h : s.Composes i e) (hk : e.kind = .cut) (hf : e.finished = false) :
    s.beginTicket = State.leaveTicket e.cls { s with
      store := s.store.appended s.proofsOn [⟨i, e.lineNumber, e.toFilm, e.toProof, false, 0,
        .cut (match e.cls with | .routine => .routine | .flash => .flash)⟩]
      flight := s.flight.set i.val (some { e with outstanding := e.outstanding + 1, finished := true })
      composer := { s.composer with galleyContent := s.composer.galleyContent && !e.toFilm } } := by
  have begun : s.beginTicket = s.beginCut i e := by
    unfold State.beginTicket
    rw [h.ticketEntry]
    dsimp only
    rw [hf, if_neg Bool.false_ne_true, hk]
  rw [begun, State.beginCut, State.appendCut_eq h.2.2.2]
  dsimp only
  rw [State.modEntry_of_some (by exact flight_set_self ..)]
  exact congrArg (fun v => State.leaveTicket e.cls { s with
      store := s.store.appended s.proofsOn [⟨i, e.lineNumber, e.toFilm, e.toProof, false, 0,
        .cut (match e.cls with | .routine => .routine | .flash => .flash)⟩]
      flight := v
      composer := { s.composer with galleyContent := s.composer.galleyContent && !e.toFilm } }) (Vector.set_set ..)

/-- A bracketing cut, with both destinations. -/
theorem State.bracketCut_eq (h : s.Composes i e) (cls : CutClass) : s.bracketCut cls = { s with
    store := s.store.appended s.proofsOn [⟨i, e.lineNumber, true, true, false, 0, .cut cls⟩]
    flight := s.flight.set i.val (some { e with outstanding := e.outstanding + 1 })
    composer := { s.composer with galleyContent := false } } := by
  unfold State.bracketCut
  rw [h.ticketEntry]
  dsimp only
  rw [State.appendCut_eq h.2.2.2]
  exact congrArg (fun b => ({ s with
    store := s.store.appended s.proofsOn [⟨i, e.lineNumber, true, true, false, 0, .cut cls⟩]
    flight := s.flight.set i.val (some { e with outstanding := e.outstanding + 1 })
    composer := { s.composer with galleyContent := b } } : State)) (Bool.and_false _)

end

/-! ### The end of a flash chain (R41 to R43) -/

section
variable {s : State} {slot : Nat}

/-- A flash CUT ticket with a destination is in order. -/
theorem State.validate_cut {t : List Byte} (hk : byteAt t 1 = 2) (hd : byteAt t 3 &&& 3 ≠ 0) : s.validate t = none := by
  have hd' : ¬byteAt t 3 &&& 3#8 = 0#8 := hd
  unfold State.validate
  simp [hk, hd']

/-- The flash-only scan takes a flash ticket in turn as the next of its chain. -/
theorem State.takeTicket_chains (h : s.bus = none) (hf : byteAt (s.bytes (s.slotAddr slot 0) 24) 0 = 1)
    (hc : classOf (byteAt (s.bytes (s.slotAddr slot 0) 24) 2) = .flash) (hv : s.validate (s.bytes (s.slotAddr slot 0) 24) = none)
    (h0 : s.flight[(0 : Fin 8)] = none) (hp : s.composer.phase = .flashScan) :
    s.takeTicket slot .flash (halfAt (s.bytes (s.slotAddr slot 0) 24) 4) false = (.entered, { s with
      mem := (s.storeBytes (s.slotAddr slot 0) [2]).mem
      flight := s.flight.set 0 (some (entryOf slot .flash (s.bytes (s.slotAddr slot 0) 24)))
      scanner := { s.scanner with state := .locked, nextFlash := s.scanner.nextFlash + 1 }
      composer := { s.composer with ticket := some 0, phase := .begin } }) := by
  let w := (s.storeBytes (s.slotAddr slot 0) [2]).modScanner fun c => c.advance .flash
  rw [State.takeTicket_enters h hf hc hv]
  refine congrArg (Prod.mk _) ?_
  have free : w.freeEntry = some 0 := State.freeEntry_zero (by simpa [w] using h0)
  have chain : (w.composer.phase == .flashScan) = true := by simpa [w] using hp
  unfold State.enterTicket
  change (match w.freeEntry with | none => w | some i => _) = _
  rw [free]
  dsimp only
  rw [chain, State.storeBytes_eq]
  rfl

/-- The flash-only scan with every flight entry in use is passed. -/
theorem State.makeFlashScan_full (hf : s.flightFull = true) (ht : s.scanner.timerAtOne = false) :
    s.makeFlashScan = s.setPhase .readback := by
  rw [State.makeFlashScan, if_pos hf, State.expireHeldTimer_none ht]

/-- The flash-only scan takes the next flash of the chain. -/
theorem State.makeFlashScan_takes {u : State} (hf : s.flightFull = false) (ht : s.scanTray true = (.entered, u))
    (htime : u.scanner.timerAtOne = false) : s.makeFlashScan = u := by
  rw [State.makeFlashScan, if_neg (by rw [hf]; exact Bool.false_ne_true), ht]
  exact State.expireHeldTimer_none htime

/-- The Context Record is read back and taken up, and its font, not resident, is LOADING. -/
theorem State.readContext_loads {r d : List Byte} {taken : CompState × Half} {j : Fin 8} (hb : s.bus = none)
    (hr : s.bytes (s.areaAddr s.desk.areas.context 0) 64 = r) (htk : takeUp s.desk.setup (contextState r).1 = taken)
    (hd : s.bytes (s.areaAddr s.desk.areas.fontDirectory (12 * taken.1.font)) 12 = d) (hv : byteAt d 0 ≠ 0) (hs : halfAt d 2 ≠ 0)
    (habs : ∀ (k : Fin 8) (x : FontSlot), s.fonts.store[k] = some x → x.font ≠ taken.1.font) (hj : s.fonts.store[j] = none)
    (hl : ∀ k < j, s.fonts.store[k] ≠ none) (ha : s.allowed false (longAt d 4) 128 = true) :
    s.readContext = { s with composer := { s.composer with
      current := taken.1
      resumeOffset := contextOffset r
      line := ⟨[], none, taken.2 ||| condIf Cond.clamped (contextState r).2⟩
      phase := .loading ⟨taken.1.font, byteAt d 1, halfAt d 2, BitVec.ofNat 24 (longAt d 4), j, .restore⟩ } } := by
  let w := s.modComposer fun c => { c with
    current := taken.1, resumeOffset := contextOffset r, line := ⟨[], none, taken.2 ||| condIf Cond.clamped (contextState r).2⟩ }
  have selected := State.selectFont_loads (s := w) none .restore hb hd hv hs habs hj hl ha
  have read : s.readContext = w.select taken.1.font none .restore := by
    unfold State.readContext
    rw [s.busRead_none _ _ hb]
    dsimp only
    rw [hr, htk]
  rw [read, State.select, selected]
  rfl

end

/-! ### O45, wait by wait -/

section
variable {s : State} {i : Fin 8} {e : Entry}

/-- The ring has no place free. -/
theorem State.hasRoom_none (h : 16 - s.store.records.length = 0) : s.hasRoom 1 = false := State.hasRoom_full (by omega)

/-- A FLASH-OPEN cut that takes the last place; the CUT ticket after it waits. -/
theorem State.openCut_appends (h : s.Composes i e) (hp : s.composer.phase = .openCut) (hg : s.composer.galleyContent = true)
    (hk : e.kind = .cut) (hf : e.finished = false) (hroom : 16 - s.store.records.length = 1) : s.phaseReady = true ∧ s.ComposesTo 1 { s with
      store := s.store.appended s.proofsOn [⟨i, e.lineNumber, true, true, false, 0, .cut .flashOpen⟩]
      flight := s.flight.set i.val (some { e with outstanding := e.outstanding + 1 })
      composer := { s.composer with galleyContent := false, phase := .begin } } := by
  let u : State := { s with
    store := s.store.appended s.proofsOn [⟨i, e.lineNumber, true, true, false, 0, .cut .flashOpen⟩]
    flight := s.flight.set i.val (some { e with outstanding := e.outstanding + 1 })
    composer := { s.composer with galleyContent := false, phase := .begin } }
  have hu : u.Composes i { e with outstanding := e.outstanding + 1 } := ⟨h.1, h.2.1, h.2.2.1, flight_set_self ..⟩
  have full : u.hasRoom 1 = false := State.hasRoom_filled (s := s) (by omega) rfl
  have ready : s.phaseReady = true := by
    rw [State.phaseReady, hp]
    dsimp only
    rw [State.hasRoom_of (by omega), Bool.or_true]
  refine ⟨ready, State.composesTo_phase h.1 h.2.1 (by simp [State.accessInFlight, hp]) ready (u := u) ?_
    (State.composesTo_wait (.inr ⟨by exact h.2.1, (State.begin_ready hu rfl hk hf).trans full⟩))⟩
  rw [State.composerPhase, hp]
  dsimp only
  rw [State.makeOpenCut, if_pos hg, State.bracketCut_eq h]
  rfl

/-- The record of a flash CUT ticket takes the last place; the closing cut after it waits. -/
theorem State.begin_flashCut (h : s.Composes i e) (hp : s.composer.phase = .begin) (hk : e.kind = .cut) (hf : e.finished = false)
    (hc : e.cls = .flash) (hroom : 16 - s.store.records.length = 1) : s.phaseReady = true ∧ s.ComposesTo 1 { s with
      store := s.store.appended s.proofsOn [⟨i, e.lineNumber, e.toFilm, e.toProof, false, 0, .cut .flash⟩]
      flight := s.flight.set i.val (some { e with outstanding := e.outstanding + 1, finished := true })
      composer := { s.composer with galleyContent := s.composer.galleyContent && !e.toFilm, phase := .closeCut } } := by
  have ready := (State.begin_ready h hp hk hf).trans (State.hasRoom_of (by omega))
  refine ⟨ready, State.composesTo_phase h.1 h.2.1 (by simp [State.accessInFlight, hp]) ready ?_
    (State.composesTo_wait (.inr ⟨by exact h.2.1, State.hasRoom_filled (s := s) (by omega) rfl⟩))⟩
  rw [State.composerPhase, hp]
  dsimp only
  rw [State.beginTicket_cut h hk hf]
  generalize e.cls = cls at hc
  subst hc
  rfl

/-- The record of a routine CUT ticket is appended, and the ticket leaves the Composer. -/
theorem State.begin_routineCut (h : s.Composes i e) (hp : s.composer.phase = .begin) (hk : e.kind = .cut) (hf : e.finished = false)
    (hc : e.cls = .routine) (hroom : 0 < 16 - s.store.records.length) (hs : s.scanCanStart) :
    s.phaseReady = true ∧ s.ComposesTo 1 { s with
      store := s.store.appended s.proofsOn [⟨i, e.lineNumber, e.toFilm, e.toProof, false, 0, .cut .routine⟩]
      flight := s.flight.set i.val (some { e with outstanding := e.outstanding + 1, finished := true })
      composer := { s.composer with galleyContent := s.composer.galleyContent && !e.toFilm, ticket := none, phase := .idle }
      scanner := s.scanner.released } := by
  have ready := (State.begin_ready h hp hk hf).trans (State.hasRoom_of (by omega))
  refine ⟨ready, State.composesTo_phase h.1 h.2.1 (by simp [State.accessInFlight, hp]) ready ?_
    (State.composesTo_wait (.inr ⟨by exact h.2.1, rfl⟩))⟩
  rw [State.composerPhase, hp]
  dsimp only
  rw [State.beginTicket_cut h hk hf]
  obtain ⟨hr, hw, hi, j, hj⟩ := hs
  generalize e.cls = cls at hc
  subst hc
  exact State.leaveTicket_scans ⟨hr, hw, hi, j, flight_set_free h.2.2.2 hj _⟩

/-- The closing cut is appended, and the flash-only scan follows. -/
theorem State.closeCut_appends {t : State} {n : Nat} (h : s.Composes i e) (hp : s.composer.phase = .closeCut)
    (hroom : 0 < 16 - s.store.records.length)
    (ht : State.ComposesTo n { s with
      store := s.store.appended s.proofsOn [⟨i, e.lineNumber, true, true, false, 0, .cut .flashClose⟩]
      flight := s.flight.set i.val (some { e with outstanding := e.outstanding + 1 })
      composer := { s.composer with galleyContent := false, ticket := none, phase := .flashScan } } t) :
    s.phaseReady = true ∧ s.ComposesTo (n + 1) t := by
  have ready : s.phaseReady = true := by
    rw [State.phaseReady, hp]
    exact State.hasRoom_of (by omega)
  refine ⟨ready, State.composesTo_phase h.1 h.2.1 (by simp [State.accessInFlight, hp]) ready ?_ ht⟩
  rw [State.composerPhase, hp]
  dsimp only
  rw [State.makeCloseCut, State.bracketCut_eq h]
  rfl

/-- The flash-only scan is made, with no Tray operation held. -/
theorem State.flashScan_then {u t : State} {n : Nat} (hr : s.desk.controller = .running) (hn : s.composer.preempt = none)
    (hp : s.composer.phase = .flashScan) (hh : s.scanner.held = none) (hu : s.makeFlashScan = u) (ht : u.ComposesTo n t) :
    s.ComposesTo (n + 1) t := by
  refine State.composesTo_phase hr hn (by simp [State.accessInFlight, hp]) (by simp [State.phaseReady, hp, hh]) ?_ ht
  rw [State.composerPhase, hp]
  exact hu

/-- An entry counted once more is in use as before. -/
theorem flight_set_used {v : Vector (Option Entry) 8} (h : ∀ j : Fin 8, v[j] ≠ none) (i : Fin 8) (e : Entry) (j : Fin 8) :
    (v.set i.val (some e))[j] ≠ none := by
  rw [Fin.getElem_fin, Vector.getElem_set]
  split
  · exact Option.some_ne_none e
  · exact h j

end

/-- Settles O45: each wait ends where its item or its places are free, and stands where they are not. -/
theorem blockedComposerGoesOn : Obligations.BlockedComposerGoesOn := by
  intro s i e hb hr hn ht he room one counted became
  have h : s.Composes i e := ⟨hr, hn, ht, he⟩
  have appends : ∀ {n : Nat} {t : State}, s.composer.phase.appends = true → s.phaseReady = true ∧ s.ComposesTo n t → n ≤ 128 →
      became t := fun ha hc hn => congrArg Host.Outcome.next (State.appendStep_composesTo ha hc.1 hc.2 hn)
  have waits : s.phaseReady = false → exec .groupAppend s = .next s := fun hq => congrArg Host.Outcome.next (State.appendStep_waits hq)
  refine ⟨fun c g hp hc hg hroom => ⟨fun hf => ?_, fun hf => ?_⟩, fun l n hp => ⟨fun h0 => ?_, fun h0 => ?_⟩,
    fun g hp => ⟨fun h0 => ?_, fun h0 => ?_⟩, fun hp hg hk hf => ⟨fun h0 => ?_, fun h1 => ?_⟩,
    fun hp hk hf => ?_, fun hp hh htm => ?_⟩
  · exact congrArg Host.Outcome.next (State.drawStep_waits (State.placing_waits hp hc hg hroom hf))
  · have hc1 := State.placing_places hr hn hp hc hg hroom hf
    exact congrArg Host.Outcome.next ((State.drawStep_runs (by rw [hp]; rfl) (by simp [State.phaseReady, hp, State.canPlace, hf])).trans
      (State.composerRun_composesTo hc1))
  · exact waits (State.lead_waits hp (by omega))
  · exact appends (by rw [hp]; rfl) ⟨by rw [State.phaseReady, hp]; exact State.hasRoom_of (by omega), State.lead_appends h hp (by omega)⟩
      (by decide)
  · refine waits ((State.group_ready hp).trans (decide_eq_false ?_))
    rw [LineStore.room, show Config.ringPlaces = 16 from rfl]
    omega
  · intro ladder current next goesOn
    have ready : s.phaseReady = true := (State.group_ready hp).trans (State.hasRoom_of (by omega))
    have goes : ∀ {n : Nat} {t : State}, ((s.afterGroup i e g).goAfter g.after).ComposesTo n t → n ≤ 127 → became t := fun ht hn =>
      appends (by rw [hp]; rfl) ⟨ready, State.group_then hb h hp ready ht⟩ (Nat.succ_le_succ hn)
    refine ⟨fun ha => ?_, fun c x ha hc hcar hf => ?_, fun o mn op mx ha hfit => ?_⟩
    · refine goes (n := 0) ?_ (by decide)
      rw [ha]
      exact State.composesTo_wait (.inr ⟨by exact hn, rfl⟩)
    · refine goes (n := 0) ?_ (by decide)
      rw [ha]
      refine State.composesTo_wait (.inr ⟨by exact hn, ?_⟩)
      have hline : (s.composer.afterGroup g).line.codes = [] := by
        rw [Composer.afterGroup, hcar]
        rfl
      have hpass : (c.glyph?.map (passesLimit (elementsOf (s.composer.afterGroup g).line.codes))).getD false = false := by
        rw [hline, glyph?_passesLimit hc]
        rfl
      show (decide (0 < s.store.free) || (c.glyph?.map (passesLimit (elementsOf (s.composer.afterGroup g).line.codes))).getD false) = false
      rw [hpass, hf]
      rfl
    · refine goes (n := 1) ?_ (by decide)
      rw [ha]
      have hu : ((s.afterGroup i e g).setPhase (.testing (.space o mn op mx))).Composes i (e.afterGroup g) :=
        ⟨hr, hn, ht, flight_set_self ..⟩
      exact State.testing_then hu rfl (State.testTrigger_acts (by exact hfit) _) (State.composesTo_wait (.inr ⟨by exact hn, rfl⟩))
  · exact waits (by rw [State.phaseReady_openCut hp, State.hasRoom_none h0, hg]; rfl)
  · exact appends (by rw [hp]; rfl) (State.openCut_appends h hp hg hk hf h1) (by decide)
  · exact ⟨fun h0 => waits ((State.begin_ready h hp hk hf).trans (State.hasRoom_none h0)),
      fun hc h1 => appends (by rw [hp]; rfl) (State.begin_flashCut h hp hk hf hc h1) (by decide),
      fun hc h1 hs => appends (by rw [hp]; rfl) (State.begin_routineCut h hp hk hf hc h1 hs) (by decide)⟩
  · intro flight
    let u : State := { s with
      store := s.store.appended s.proofsOn [⟨i, e.lineNumber, true, true, false, 0, .cut .flashClose⟩]
      flight := flight
      composer := { s.composer with galleyContent := false, ticket := none, phase := .flashScan } }
    refine ⟨fun h0 => waits (by rw [State.phaseReady, hp]; exact State.hasRoom_none h0), fun h0 hfull => ?_, fun slot hslot h1 hfree hin => ?_⟩
    · intro r taken d j hv hs habs hj hl ha
      have full : u.flightFull = true := (State.flightFull_iff u).2 (flight_set_used hfull i counted)
      have read := State.readContext_loads (s := u.setPhase .readback) hb (r := r) rfl (taken := taken) rfl (d := d) rfl hv hs habs hj hl ha
      refine appends (by rw [hp]; rfl) (State.closeCut_appends h hp h0 (State.flashScan_then (s := u) hr hn rfl hh
        (State.makeFlashScan_full full htm) (State.composesTo_phase hr hn rfl rfl (by exact read) (State.composesTo_wait (.inl rfl))))) (by decide)
    · intro t h0 h1' h2 h3 hq hothers
      have u0 : u.flight[(0 : Fin 8)] = none := flight_set_free he hfree _
      have same : ∀ n < 6, byteAt (u.bytes (u.slotAddr slot 0) 6) n = byteAt t n := fun n hn => byteAt_bytes_eq s _ hn (by omega)
      have seq : halfAt (u.bytes (u.slotAddr slot 0) 6) 4 = halfAt t 4 := by
        rw [halfAt, halfAt, same 4 (by decide), same 5 (by decide)]
      have unused : u.slotInFlight slot = false := by
        by_contra hcon
        obtain ⟨j, f, hf, hfs⟩ := (u.slotInFlight_iff slot).1 (by simpa using hcon)
        by_cases hji : j = i
        · subst hji
          obtain rfl := Option.some.inj ((flight_set_self ..).symm.trans hf)
          exact hin j e he hfs
        · have hsame : u.flight[j] = s.flight[j] := Vector.getElem_set_ne i.isLt j.isLt fun hv => hji (Fin.ext hv.symm)
          exact hin j f (hsame ▸ hf) hfs
      have take := State.takeTicket_chains (s := u) (slot := slot) hb h0 (if_pos h2) (State.validate_cut h1' h3) u0 rfl
      have tray := State.scanTray_flash (s := u) hb (by rw [show u.desk.controller = .running from hr]; exact Controller.noConfusion) hslot
        unused hothers (by rw [same 0 (by decide), h0]) (by rw [same 2 (by decide), h2]) (by rw [seq]; exact hq) true
        (by rw [seq]; exact take)
      let v : State := { u with
        mem := (u.storeBytes (u.slotAddr slot 0) [2]).mem
        flight := u.flight.set 0 (some (entryOf slot .flash t))
        scanner := { u.scanner with state := .locked, nextFlash := u.scanner.nextFlash + 1 }
        composer := { u.composer with ticket := some 0, phase := .begin } }
      have hv : v.Composes 0 (entryOf slot .flash t) := ⟨hr, hn, rfl, flight_set_self u.flight 0 _⟩
      have vwaits : v.phaseReady = false :=
        (State.begin_ready hv rfl (if_pos h1') rfl).trans (State.hasRoom_filled (s := s) (by omega) rfl)
      have notFull : u.flightFull = false := State.flightFull_of_free u0
      refine ⟨entryOf slot .flash t, rfl, rfl, if_pos h1', rfl, rfl, rfl, ?_⟩
      refine appends (by rw [hp]; rfl) (State.closeCut_appends h hp (by omega) (State.flashScan_then (s := u) hr hn rfl hh
        (State.makeFlashScan_takes notFull tray htm) (State.composesTo_wait (.inr ⟨by exact hn, vwaits⟩)))) (by decide)

end Sys2Proof.Machine
end

section
/-! PROOFS. Justification: the slack spread over the counting spaces (spec 04, section 5.5). -/

namespace Sys2Proof.Machine

/-! ### The spread of an amount (R74, R75) -/

section
variable {total : Int} {n : Nat}

/-- What a spread leaves over the even shares: at least 0 and below the number of shares. -/
theorem spread_rest (hn : n ≠ 0) : 0 ≤ total - total.fdiv n * n ∧ total - total.fdiv n * n < n := by
  have hpos : (0 : Int) < n := by omega
  have h : total.fmod n = total - total.fdiv n * n := by rw [Int.fmod_def, Int.mul_comm]
  exact ⟨h ▸ Int.fmod_nonneg_of_pos total hpos, h ▸ Int.fmod_lt_of_pos total hpos⟩

/-- The number of shares that take 1 more, as a natural number. -/
theorem spread_rest_toNat (hn : n ≠ 0) : ∃ r : Nat, total - total.fdiv n * n = r ∧ r < n := by
  obtain ⟨h0, h1⟩ := spread_rest (total := total) hn
  exact ⟨(total - total.fdiv n * n).toNat, by omega, by omega⟩

/-- A spread, with the number of shares that take 1 more. -/
theorem spread_eq {r : Nat} (hr : total - total.fdiv n * n = r) (lineNumber : Nat) : spread total n lineNumber =
    if lineNumber % 2 = 1 then List.replicate r (total.fdiv n + 1) ++ List.replicate (n - r) (total.fdiv n)
    else List.replicate (n - r) (total.fdiv n) ++ List.replicate r (total.fdiv n + 1) := by
  rw [spread, hr, Int.toNat_natCast]

theorem spread_length (hn : n ≠ 0) (lineNumber : Nat) : (spread total n lineNumber).length = n := by
  obtain ⟨r, hr, hlt⟩ := spread_rest_toNat (total := total) hn
  rw [spread_eq hr]
  split <;> simp only [List.length_append, List.length_replicate] <;> omega

/-- The share at a place: the first ones take 1 more on an odd line number, and the last ones on an even one. -/
theorem spread_getElem? {k : Nat} (hn : n ≠ 0) (hk : k < n) (lineNumber : Nat) : (spread total n lineNumber)[k]? = some (total.fdiv n
    + if (if lineNumber % 2 = 1 then (k : Int) < total - total.fdiv n * n else n - (total - total.fdiv n * n) ≤ k) then 1 else 0) := by
  obtain ⟨r, hr, hlt⟩ := spread_rest_toNat (total := total) hn
  rw [spread_eq hr, hr]
  by_cases hodd : lineNumber % 2 = 1
  · simp only [if_pos hodd]
    by_cases hkr : k < r
    · rw [List.getElem?_append_left (by simpa using hkr), List.getElem?_replicate, if_pos hkr, if_pos (by omega)]
    · rw [List.getElem?_append_right (by simpa using Nat.le_of_not_lt hkr), List.getElem?_replicate, List.length_replicate,
        if_pos (by omega), if_neg (by omega), Int.add_zero]
  · simp only [if_neg hodd]
    by_cases hkr : k < n - r
    · rw [List.getElem?_append_left (by simpa using hkr), List.getElem?_replicate, if_pos hkr, if_neg (by omega), Int.add_zero]
    · rw [List.getElem?_append_right (by simpa using Nat.le_of_not_lt hkr), List.getElem?_replicate, List.length_replicate,
        if_pos (by omega), if_pos (by omega)]

/-- The shares together are the amount. -/
theorem spread_sum (hn : n ≠ 0) (lineNumber : Nat) : (spread total n lineNumber).sum = total := by
  obtain ⟨r, hr, hlt⟩ := spread_rest_toNat (total := total) hn
  have shares : (r : Int) * (total.fdiv n + 1) + ((n - r : Nat) : Int) * total.fdiv n = total := by
    rw [Int.natCast_sub hlt.le, ← hr]
    ring
  rw [spread_eq hr]
  split
  · rw [List.sum_append, List.sum_replicate, List.sum_replicate, nsmul_eq_mul, nsmul_eq_mul, shares]
  · rw [List.sum_append, List.sum_replicate, List.sum_replicate, nsmul_eq_mul, nsmul_eq_mul, Int.add_comm, shares]

end

/-! ### The plain distribution (R74) -/

/-- Sums of shares added place by place. -/
theorem sum_map_zip_add {α : Type} (f : α → Int) : ∀ (xs : List α) (ys : List Int), xs.length = ys.length →
    ((xs.zip ys).map fun p => f p.1 + p.2).sum = (xs.map f).sum + ys.sum
  | [], [], _ => rfl
  | x :: xs, y :: ys, h => by
    rw [List.zip_cons_cons, List.map_cons, List.sum_cons, sum_map_zip_add f xs ys (Nat.succ.inj h), List.map_cons, List.sum_cons,
      List.sum_cons]
    ring

section
variable {spaces : List (Nat × Nat × Nat)} (slack : Int) (lineNumber g : Nat) (quad : Quad)

/-- The widths of the counting spaces of a plain distribution. -/
theorem distribute_spaces : (distribute spaces slack lineNumber g quad).spaces
    = (spaces.zip (spread slack spaces.length lineNumber)).map fun p => (p.1.2.1 : Int) + p.2 := rfl

theorem distribute_length (hn : spaces.length ≠ 0) : (distribute spaces slack lineNumber g quad).spaces.length = spaces.length := by
  rw [distribute_spaces, List.length_map, List.length_zip, spread_length hn, Nat.min_self]

/-- Each counting space takes its opt width and its share of the slack. -/
theorem distribute_getElem? (hn : spaces.length ≠ 0) {k : Nat} {x : Nat × Nat × Nat} (hx : spaces[k]? = some x) :
    (distribute spaces slack lineNumber g quad).spaces[k]? = some (x.2.1 + slack.fdiv spaces.length
      + if (if lineNumber % 2 = 1 then (k : Int) < slack - slack.fdiv spaces.length * spaces.length
          else spaces.length - (slack - slack.fdiv spaces.length * spaces.length) ≤ k) then 1 else 0) := by
  obtain ⟨hk, -⟩ := List.getElem?_eq_some_iff.mp hx
  have share := spread_getElem? (total := slack) hn hk lineNumber
  generalize (if (if lineNumber % 2 = 1 then (k : Int) < slack - slack.fdiv spaces.length * spaces.length
    else spaces.length - (slack - slack.fdiv spaces.length * spaces.length) ≤ k) then (1 : Int) else 0) = more at share ⊢
  have pair : (spaces.zip (spread slack spaces.length lineNumber))[k]? = some (x, slack.fdiv spaces.length + more) :=
    List.getElem?_zip_eq_some.mpr ⟨hx, share⟩
  rw [distribute_spaces, List.getElem?_map, pair, Option.map_some, Int.add_assoc]

/-- The widths together are the opt widths and the slack. -/
theorem distribute_sum (hn : spaces.length ≠ 0) :
    (distribute spaces slack lineNumber g quad).spaces.sum = (spaces.map fun x => (x.2.1 : Int)).sum + slack := by
  rw [distribute_spaces, sum_map_zip_add (fun x : Nat × Nat × Nat => (x.2.1 : Int)) _ _ (spread_length hn lineNumber).symm, spread_sum hn]

/-- TIGHT is raised where a space lies below its min. -/
theorem distribute_tight : (distribute spaces slack lineNumber g quad).conditions.getLsbD 1 = true ↔
    ∃ (k : Nat) (x : Nat × Nat × Nat) (w : Int), spaces[k]? = some x
      ∧ (distribute spaces slack lineNumber g quad).spaces[k]? = some w ∧ w < (x.1 : Int) := by
  have bits : ∀ a b : Bool, (condIf Cond.tight a ||| condIf Cond.loose b).getLsbD 1 = a := by decide
  have tight : (distribute spaces slack lineNumber g quad).conditions.getLsbD 1
      = (spaces.zip (distribute spaces slack lineNumber g quad).spaces).any fun p => decide (p.2 < (p.1.1 : Int)) := bits _ _
  rw [tight, List.any_eq_true]
  constructor
  · rintro ⟨p, hp, hlt⟩
    obtain ⟨k, hk⟩ := List.mem_iff_getElem?.mp hp
    obtain ⟨hx, hw⟩ := List.getElem?_zip_eq_some.mp hk
    exact ⟨k, p.1, p.2, hx, hw, of_decide_eq_true hlt⟩
  · rintro ⟨k, x, w, hx, hw, hlt⟩
    exact ⟨(x, w), List.mem_iff_getElem?.mpr ⟨k, List.getElem?_zip_eq_some.mpr ⟨hx, hw⟩⟩, decide_eq_true hlt⟩

end

/-- A line in JUSTIFY mode with counting spaces that are not loose takes the plain distribution. -/
theorem settingOf_justify {es : List Element} {st : Settings} (lineNumber : Nat) (hg : glyphsOf es ≠ []) (ht : tabular es = false)
    (hf : fits es st.effective = true) (hn : (countingSpaces es).length ≠ 0)
    (hl : ∀ x ∈ countingSpaces es, (x.2.1 : Int) + (st.effective - exactOpt es).fdiv (countingSpaces es).length ≤ x.2.2) :
    settingOf es st .justify lineNumber
      = distribute (countingSpaces es) (st.effective - exactOpt es) lineNumber (gapSizes es).length .justify := by
  have loose : looseApplies (countingSpaces es) (st.effective - exactOpt es) = false := List.any_eq_false.mpr fun x hx => by
    rw [decide_eq_true_eq]
    exact Int.not_lt.mpr (hl x hx)
  have glyphs : (glyphsOf es).isEmpty = false := List.isEmpty_eq_false_iff.mpr hg
  rw [settingOf]
  simp only [glyphs, ht, hf, hn, loose, Bool.not_true, Bool.false_and, Bool.false_eq_true, if_false]

/-- Settles O48: the line takes the plain distribution, and the spread of its slack is the one the statement names. -/
theorem justificationSpreadsTheSlack : Obligations.JustificationSpreadsTheSlack := by
  intro es st lineNumber spaces n slack q r set hg ht hf hn hl
  have hset : set = distribute spaces slack lineNumber (gapSizes es).length .justify := settingOf_justify lineNumber hg ht hf hn hl
  rw [hset]
  exact ⟨rfl, rfl, fun a ha => List.eq_of_mem_replicate ha, distribute_length _ _ _ _ hn,
    fun k x hx => distribute_getElem? _ _ _ _ hn hx, distribute_sum _ _ _ _ hn, distribute_tight _ _ _ _⟩

end Sys2Proof.Machine
end

section
/-! PROOFS. The notices and the printer's readiness (spec 01, section 2.8; spec 10, section 11.5). -/

namespace Sys2Proof.Machine

/-! ### When a notice write begins (R20) -/

/-- A set stands where its record is in flight, was written so, or the part is STOPPED. -/
theorem State.notice_stands {s : State} {o : Owner} (h : s.noticeStands o) : s.notice o = s := by
  refine if_neg fun hc => ?_
  simp only [Bool.and_eq_true, bne_iff_ne, ne_eq, Option.isNone_iff_eq_none] at hc
  obtain ⟨⟨hrun, hfree⟩, hnew⟩ := hc
  rcases h with h | h | h
  · exact hrun h
  · exact h hfree
  · exact hnew h

/-- A set that does not stand has its record's write begun. -/
theorem State.notice_begins {s : State} {o : Owner} (h : ¬ s.noticeStands o) : s.notice o = s.beginNotice o := by
  simp only [State.noticeStands, not_or, not_not] at h
  obtain ⟨hrun, hfree, hnew⟩ := h
  refine if_pos ?_
  simp only [Bool.and_eq_true, bne_iff_ne, ne_eq, Option.isNone_iff_eq_none]
  exact ⟨⟨hrun, hfree⟩, hnew⟩

/-- The photo unit's set tells its three conditions, with a MOUNT condition's arguments. -/
theorem State.photoConditions_inj {s t : State} : s.conditions .photoUnit = t.conditions .photoUnit ↔
    s.pins.coverOpen = t.pins.coverOpen ∧ s.notices.drum = t.notices.drum ∧ s.notices.mount = t.notices.mount := by
  have cover : ∀ u : State, Notice.coverOpen ∈ u.conditions .photoUnit ↔ u.pins.coverOpen = true := fun u => by
    simp [State.conditions]
  have drum : ∀ u : State, Notice.drum ∈ u.conditions .photoUnit ↔ u.notices.drum = true := fun u => by
    simp [State.conditions]
  have mount : ∀ (u : State) (m : Nat × Half × Fin 8),
      Notice.mount m.1 m.2.1 m.2.2 ∈ u.conditions .photoUnit ↔ u.notices.mount = some m := fun u m => by
      simp [State.conditions, Option.map_eq_some_iff]
  constructor
  · intro h
    refine ⟨Bool.eq_iff_iff.mpr ?_, Bool.eq_iff_iff.mpr ?_, Option.ext fun m => ?_⟩
    · rw [← cover, ← cover, h]
    · rw [← drum, ← drum, h]
    · rw [← mount, ← mount, h]
  · rintro ⟨hc, hd, hm⟩
    simp only [State.conditions, hc, hd, hm]

/-- The film's set tells its two conditions. -/
theorem State.filmConditions_inj {s t : State} : s.conditions .film = t.conditions .film ↔
    s.film.filmOut = t.film.filmOut ∧ s.pins.takeup = t.pins.takeup := by
  simp only [State.conditions]
  cases s.film.filmOut <;> cases t.film.filmOut <;> cases s.pins.takeup <;> cases t.pins.takeup <;> decide

/-- The proof's set tells its two conditions. -/
theorem State.proofConditions_inj {s t : State} : s.conditions .proof = t.conditions .proof ↔
    s.proof.dropping = t.proof.dropping ∧ s.proof.printer = t.proof.printer := by
  simp only [State.conditions]
  cases s.proof.dropping <;> cases t.proof.dropping <;> cases s.proof.printer <;> cases t.proof.printer <;> decide

/-- Settles O60: each set tells its conditions, and the record shows the highest-ranked. -/
theorem noticeWritesBeginWhereTheRecordWouldChange : Obligations.NoticeWritesBeginWhereTheRecordWouldChange := by
  refine ⟨fun s o => ⟨State.notice_stands, State.notice_begins⟩, fun s before o => ?_, fun s => ?_⟩
  · intro same
    have told : s.conditions o = before.conditions o ↔ same := by
      cases o with
      | photoUnit => exact State.photoConditions_inj
      | film => exact State.filmConditions_inj
      | proof => exact State.proofConditions_inj
    exact ⟨fun h => if_pos (told.mpr h), fun h => if_neg (mt told.mp h)⟩
  · simp only [State.noticeShown, State.conditions]
    refine ⟨fun hc => by simp [hc], fun hc hd => by simp [hc, hd], fun hc hd => ⟨fun f strip p hm => by simp [hc, hd, hm],
      fun hm => by simp [hc, hd, hm]⟩, fun hf => by simp [hf], fun hf => ?_, fun hd => by simp [hd], fun hd => ?_⟩
    · cases h : s.pins.takeup <;> simp [hf]
    · cases h : s.proof.printer <;> simp [hd]

/-! ### The printer's lines (R168, R169) -/

/-- The printer timer after lines that hold a byte driven with the printer free before. -/
def State.waitTimer (s : State) : Nat :=
  if s.pins.pbusy = false ∧ s.pins.pfault = false then (s.proof.sending.map fun x => x.timeout).getD s.proof.timer else s.proof.timer

/-- The printer's lines, as they come to hold a byte. -/
def State.lined (s : State) (f : Pins → Pins) : State :=
  { s with pins := f s.pins, proof := { s.proof with timer := s.waitTimer } }

/-- The wait that begins with a byte driven loads the timer with its band's timeout. -/
theorem State.lines_timer {s : State} {f : Pins → Pins} (hh : ((f s.pins).pbusy || (f s.pins).pfault) = true) :
    (if (s.modPins f).printerWait && !s.printerWait then (s.modPins f).modProof fun p => { p with timer := p.waitTimeout }
      else s.modPins f) = s.lined f := by
  have holds : (s.modPins f).printerWait = s.proof.sending.isSome := by
    rw [State.printerWait, State.printerHolds, State.modPins_pins, hh, Bool.and_true]
    rfl
  have waited : s.printerWait = (s.proof.sending.isSome && (s.pins.pbusy || s.pins.pfault)) := rfl
  rw [holds, waited, State.lined, State.waitTimer]
  cases hs : s.proof.sending with
  | none =>
    have : ({ s.proof with timer := s.proof.timer } : ProofRenderer) = s.proof := rfl
    simp only [Option.map_none, Option.getD_none, ite_self, this]
    rfl
  | some x =>
    have loaded : s.proof.waitTimeout = x.timeout := by rw [ProofRenderer.waitTimeout, hs]; rfl
    cases hb : s.pins.pbusy <;> cases hf : s.pins.pfault <;> simp [State.modPins, State.modProof, loaded]

/-- The printer's lines make it not ready: PRINTER is posted where proofs are watched. -/
theorem State.printerLines_eq {s : State} {f : Pins → Pins} (hh : ((f s.pins).pbusy || (f s.pins).pfault) = true)
    (hn : ((f s.pins).pfault || (f s.pins).busyLong) = true) : s.printerLines f =
      if s.proofsOn = true ∧ s.desk.controller ≠ .stopped then
        State.noticeSince .proof { s.lined f with proof := { (s.lined f).proof with printer := true } } s
      else s.lined f := by
  unfold State.printerLines
  dsimp only
  rw [State.lines_timer hh]
  have watched : ((s.lined f).proofsOn && (s.lined f).desk.controller != .stopped && (s.lined f).printerNotReady) = true
      ↔ s.proofsOn = true ∧ s.desk.controller ≠ .stopped := by
    rw [show (s.lined f).printerNotReady = true from hn, show (s.lined f).proofsOn = s.proofsOn from rfl,
      show (s.lined f).desk = s.desk from rfl]
    simp
  by_cases h : s.proofsOn = true ∧ s.desk.controller ≠ .stopped
  · rw [if_pos h, if_pos (watched.mpr h)]
    rfl
  · rw [if_neg h, if_neg (mt watched.mp h)]

/-- The printer ready again: PRINTER is taken away where proofs are watched. -/
theorem State.printerReadies_eq (s : State) : s.printerReadies =
    let pins := { s.pins with pbusy := false, busyLong := false, pfault := false }
    if s.proofsOn = true ∧ s.desk.controller ≠ .stopped then
      State.noticeSince .proof { s with
        pins := pins
        proof := { s.proof with
          timer := 0, printer := false, dropping := false, separatorDue := s.proof.separatorDue || s.proof.dropping } } s
    else { s with pins := pins, proof := { s.proof with timer := 0 } } := by
  let t : State := { s with
    pins := { s.pins with pbusy := false, busyLong := false, pfault := false }, proof := { s.proof with timer := 0 } }
  have watched : (t.proofsOn && t.desk.controller != .stopped) = true ↔ s.proofsOn = true ∧ s.desk.controller ≠ .stopped := by
    rw [show t.proofsOn = s.proofsOn from rfl, show t.desk = s.desk from rfl]
    simp
  by_cases h : s.proofsOn = true ∧ s.desk.controller ≠ .stopped
  · exact (if_pos (watched.mpr h)).trans (if_pos h).symm
  · exact (if_neg (mt watched.mp h)).trans (if_neg h).symm

/-- Settles O59: the three events, with proofs watched and not. -/
theorem printerReadinessIsPosted : Obligations.PrinterReadinessIsPosted := by
  intro s timer watched late faulty ready
  have busy := State.printerLines_eq (s := s) (f := fun p => { p with pbusy := true, busyLong := true }) rfl (Bool.or_true _)
  have fault := State.printerLines_eq (s := s) (f := fun p => { p with pfault := true }) (Bool.or_true _) rfl
  have readies := s.printerReadies_eq
  refine ⟨fun hw => ⟨?_, ?_, ?_⟩, fun hw => ⟨?_, ?_, ?_⟩⟩
  · exact congrArg Host.Outcome.next (busy.trans (if_neg hw))
  · exact congrArg Host.Outcome.next (fault.trans (if_neg hw))
  · exact congrArg Host.Outcome.next (readies.trans (if_neg hw))
  · exact congrArg Host.Outcome.next (busy.trans (if_pos hw))
  · exact congrArg Host.Outcome.next (fault.trans (if_pos hw))
  · exact congrArg Host.Outcome.next (readies.trans (if_pos hw))

end Sys2Proof.Machine
end

section
/-! PROOFS. The Drum Monitor: the watch, marks, indexes and the ID scan (spec 06, section 7.5; spec 08, section 9.6). -/

namespace Sys2Proof.Machine

/-! ### The drum's states (TABLE 9-2) -/

/-- An event that has changed nothing of an owner's set writes nothing. -/
theorem State.noticeSince_same {s b : State} {o : Owner} (h : s.conditions o = b.conditions o) : s.noticeSince o b = s := if_pos h

section
variable {s : State} {d : DrumState}

/-- A change between two states that are not RUNNING, or from RUNNING to RUNNING, moves the drum alone. -/
theorem State.setDrumState_aside (h : s.drum.state = .running ↔ d = .running) :
    s.setDrumState d = s.modDrum fun x => { x with state := d } := by
  rw [State.setDrumState]
  by_cases hd : d = .running
  · rw [if_neg fun hc => hc.2 hd, if_neg fun hc => hc.1 (h.mpr hd)]
  · rw [if_neg fun hc => hd (h.mp hc.1), if_neg fun hc => hd hc.2]

/-- The drum leaves RUNNING with no item FLASHING. -/
theorem State.setDrumState_leaves (hp : s.exposure.phase = .idle) (hd : d ≠ .running) :
    s.setDrumState d = s.modDrum fun x => { x with state := d } := by
  by_cases hr : s.drum.state = .running
  · rw [State.setDrumState, if_pos ⟨hr, hd⟩, State.drumLeft]
    rw [show (s.modDrum fun x => { x with state := d }).exposure.phase = .idle from hp]
  · exact State.setDrumState_aside ⟨fun h => absurd h hr, fun h => absurd h hd⟩

/-- The drum becomes RUNNING with no DRUM condition to clear and no item in DRUM WAIT. -/
theorem State.setDrumState_runs (hp : s.exposure.phase = .idle) (hn : s.notices.drum = false) :
    s.setDrumState .running = s.modDrum fun x => { x with state := .running } := by
  by_cases hr : s.drum.state = .running
  · exact State.setDrumState_aside ⟨fun _ => rfl, fun _ => hr⟩
  · let t := s.modDrum fun x => { x with state := .running }
    have clear : (t.modNotices fun n => { n with drum := false }) = t := by
      have : ({ s.notices with drum := false } : Notices) = s.notices := by rw [← hn]
      exact congrArg (fun n => { t with notices := n }) this
    have runs : t.drumRuns = t := by
      rw [State.drumRuns, clear, State.noticeSince_same rfl, if_neg]
      rintro ⟨hw, -⟩
      rw [show t.exposure.phase = .idle from hp] at hw
      cases hw
    rw [State.setDrumState, if_neg fun hc => hr hc.1, if_pos ⟨hr, rfl⟩]
    exact runs

/-- An event that ends no scan is told to the drum's state alone. -/
theorem State.leaveScan_none (h : s.drum.state ≠ .scanning) : s.leaveScan d = s.setDrumState d := if_neg h

end

/-- Settles O52: the watch by the drum's state, and the timeout of DRUM WAIT. -/
theorem drumWatchStopsTheDrumAndDrumWaitHalts : Obligations.DrumWatchStopsTheDrumAndDrumWaitHalts := by
  intro s stopped
  have watch : s.drum.state ≠ .stopped → exec .drumWatch s = .next s.drumStops := fun h => if_neg h
  refine ⟨fun h => if_pos h, fun h => ?_, fun h => ?_, fun h hp => ?_, fun h => if_neg ?_, fun hp hc hr ht => ?_⟩
  · have notScanning : s.drum.state ≠ .scanning := by
      rcases h with h | ⟨h, -⟩ <;> rw [h] <;> exact DrumState.noConfusion
    have left : s.setDrumState .stopped = s.modDrum fun x => { x with state := .stopped } := by
      rcases h with h | ⟨-, hp⟩
      · exact State.setDrumState_aside (by rw [h]; exact ⟨DrumState.noConfusion, DrumState.noConfusion⟩)
      · exact State.setDrumState_leaves hp DrumState.noConfusion
    rw [watch (by rcases h with h | ⟨h, -⟩ <;> rw [h] <;> exact DrumState.noConfusion), State.drumStops,
      State.leaveScan_none notScanning, left]
    rfl
  · have left := State.setDrumState_aside (s := s.endIdScan) (d := .stopped)
      (by rw [show s.endIdScan.drum.state = .scanning from h]; exact ⟨DrumState.noConfusion, DrumState.noConfusion⟩)
    rw [watch (by rw [h]; exact DrumState.noConfusion), State.drumStops, State.leaveScan, if_pos h, left]
    rfl
  · have left : s.setDrumState .stopped = (s.modDrum fun x => { x with state := .stopped }).enterDrumWait := by
      rw [State.setDrumState, if_pos ⟨h, DrumState.noConfusion⟩, State.drumLeft,
        show (s.modDrum fun x => { x with state := .stopped }).exposure.phase = .flashing .awaiting from hp]
    rw [watch (by rw [h]; exact DrumState.noConfusion), State.drumStops,
      State.leaveScan_none (by rw [h]; exact DrumState.noConfusion), left]
    rfl
  · rintro ⟨hp, -, hc, -⟩
    rcases h with h | h
    · exact h hp
    · rw [h] at hc
      cases hc
  · refine (if_pos ⟨hp, hr, hc, ht⟩).trans ?_
    rw [State.fault_running (by exact hr)]
    rfl

/-! ### Marks and indexes (R139 to R141) -/

theorem intervalInStep_iff (n elapsed : Nat) : intervalInStep n (intervalOf elapsed) = true ↔ inStepWith n elapsed := by
  simp only [intervalInStep, Bool.and_eq_true, decide_eq_true_eq]
  rfl

section
variable {s : State} (n elapsed : Nat) (level : Bool)

/-- The drum as a mark leaves its levels, count and interval. -/
def Drum.afterMark (d : Drum) (level : Bool) : Drum :=
  { d.markHigh level with markCount := if d.markCount == 111 then 111 else d.markCount + 1, intervalCounter := 4095 }

/-- The drum as an index leaves its levels, count and interval. -/
def Drum.afterIndex (d : Drum) : Drum := { d.indexHigh with markCount := 0, intervalCounter := 4095 }

/-- A mark with no item FLASHING. -/
theorem State.drumMark_idle (hp : s.exposure.phase = .idle) : s.drumMark n elapsed level =
    if (s.drum.state == .stopped || intervalInStep n (intervalOf elapsed)) && !(s.drum.markCount == 111) then
      match s.drum.state with
      | .stopped => ((s.modDrum fun d => d.afterMark level).setDrumState .syncing).modDrum fun d => { d with qualifying := false }
      | .scanning => (s.modDrum fun d => d.afterMark level).modDrum fun d =>
          d.readBand (if s.drum.markCount == 111 then 111 else s.drum.markCount + 1) level
      | .syncing => s.modDrum fun d => d.afterMark level
      | .running => s.modDrum fun d => d.afterMark level
    else ((s.modDrum fun d => d.afterMark level).outOfStep).modDrum fun d => { d with qualifying := false } := by
  have waits : (s.exposure.phase == .flashing .awaiting) = false := by rw [hp]; rfl
  rw [State.drumMark]
  simp only [waits, Bool.false_eq_true, if_false]
  rfl

/-- An index with no item FLASHING. -/
theorem State.drumIndex_idle (hp : s.exposure.phase = .idle) : s.drumIndex n elapsed =
    (if (s.drum.state == .stopped || intervalInStep n (intervalOf elapsed)) && s.drum.markCount == 111 then
      (s.modDrum Drum.afterIndex).indexInStep
    else (s.modDrum Drum.afterIndex).outOfStep).modDrum fun d => { d with qualifying := true } := by
  have waits : (s.exposure.phase == .flashing .awaiting) = false := by rw [hp]; rfl
  rw [State.drumIndex]
  simp only [waits, Bool.false_eq_true, if_false]
  rfl

/-- A drum that is not SCANNING, put out of step with no item FLASHING, is SYNCING. -/
theorem State.outOfStep_idle (hp : s.exposure.phase = .idle) (hs : s.drum.state ≠ .scanning) :
    s.outOfStep = s.modDrum fun d => { d with state := .syncing } := by
  rw [State.outOfStep, State.leaveScan_none hs, State.setDrumState_leaves hp DrumState.noConfusion]

end

/-- The INDEX level at a mark of a scan, at the position that its count names (R114). -/
theorem Drum.readBand_at {d : Drum} {count : Nat} {level : Bool} {p : Fin 8}
    (hp : p.val = (if d.secondRevolution then 4 else 0) + count / 28) : d.readBand count level =
      if 8 ≤ count % 28 ∧ count % 28 ≤ 23 then
        { d with readings := if level then d.readings.set p.val (d.readings[p] ||| bit (count % 28 - 8)) else d.readings }
      else if count % 28 = 0 then { d with trackOut := p } else d := by
  obtain ⟨p, hlt⟩ := p
  dsimp only at hp
  subst hp
  unfold Drum.readBand
  dsimp only
  rw [dif_pos hlt]
  cases level with
  | true => rfl
  | false =>
    simp only [Bool.false_eq_true, if_false, Vector.set_getElem_self]

/-- The Exposure Sequencer at a wait goes on to nothing. -/
theorem State.exposureRun_waits {s : State} (h : s.exposure.phase.atOnce = false) : s.exposureRun = s := by
  rw [State.exposureRun, exposureFuel, State.exposureLoop, h]
  rfl

/-- The end of an ID scan, with the Exposure Sequencer IDLE (R115). -/
theorem State.completeIdScan_idle {s : State} (hp : s.exposure.phase = .idle) (hn : s.notices.drum = false) : s.completeIdScan = { s with
    drum := { s.drum with bandRead := false, secondRevolution := false, state := .running }
    fonts := s.fonts.scanned s.drum.readings
    exposure := { s.exposure with track := none, settled := false } } := by
  have runs := State.setDrumState_runs (s := s.endIdScan) hp hn
  unfold State.completeIdScan
  dsimp only
  rw [runs, State.recheckMount, if_neg, State.exposureRun_waits]
  · rfl
  · show s.exposure.phase.atOnce = false
    rw [hp]
    rfl
  · show ¬ s.exposure.phase = .mountWait
    rw [hp]
    exact EsPhase.noConfusion

section
variable {s : State} {n elapsed : Nat} {level : Bool}

/-- A mark in step, by the drum's state. -/
theorem State.drumMark_inStep (hp : s.exposure.phase = .idle) (hs : s.drum.state = .stopped ∨ inStepWith n elapsed)
    (hc : s.drum.markCount ≠ 111) : s.drumMark n elapsed level =
      let t := s.modDrum fun d => { d with
        intervalCounter := 4095, markLevel := true, indexLevel := level, markCount := d.markCount + 1 }
      match s.drum.state with
      | .stopped => (t.setDrumState .syncing).modDrum fun d => { d with qualifying := false }
      | .scanning => t.modDrum fun d => d.readBand (s.drum.markCount + 1) level
      | .syncing => t
      | .running => t := by
  have count : (s.drum.markCount == 111) = false := beq_eq_false_iff_ne.mpr hc
  have inStep : (s.drum.state == .stopped || intervalInStep n (intervalOf elapsed)) = true :=
    Bool.or_eq_true_iff.mpr (hs.imp beq_iff_eq.mpr (intervalInStep_iff n elapsed).mpr)
  have marked : (s.modDrum fun d => d.afterMark level) = s.modDrum fun d => { d with
      intervalCounter := 4095, markLevel := true, indexLevel := level, markCount := d.markCount + 1 } := by
    simp only [State.modDrum, Drum.afterMark, count]
    rfl
  rw [State.drumMark_idle n elapsed level hp, inStep, count, marked]
  rfl

/-- The first mark of a STOPPED drum. -/
theorem State.drumMark_first (hp : s.exposure.phase = .idle) (hs : s.drum.state = .stopped) (hc : s.drum.markCount ≠ 111) :
    s.drumMark n elapsed level = s.modDrum fun d => { d with
      intervalCounter := 4095, markLevel := true, indexLevel := level, markCount := d.markCount + 1
      state := .syncing, qualifying := false } := by
  rw [State.drumMark_inStep hp (.inl hs) hc, hs]
  dsimp only
  rw [State.setDrumState_leaves (by exact hp) (by exact DrumState.noConfusion)]
  rfl

/-- A mark in step raises the count of a SYNCING or a RUNNING drum. -/
theorem State.drumMark_counted (hp : s.exposure.phase = .idle) (hi : inStepWith n elapsed) (hc : s.drum.markCount ≠ 111)
    (hs : s.drum.state = .syncing ∨ s.drum.state = .running) : s.drumMark n elapsed level = s.modDrum fun d => { d with
      intervalCounter := 4095, markLevel := true, indexLevel := level, markCount := d.markCount + 1 } := by
  rw [State.drumMark_inStep hp (.inr hi) hc]
  rcases hs with hs | hs <;> rw [hs]

/-- A mark in step of a scan is read, too. -/
theorem State.drumMark_scanning (hp : s.exposure.phase = .idle) (hi : inStepWith n elapsed) (hc : s.drum.markCount ≠ 111)
    (hs : s.drum.state = .scanning) : s.drumMark n elapsed level = s.modDrum fun d => Drum.readBand { d with
      intervalCounter := 4095, markLevel := true, indexLevel := level, markCount := d.markCount + 1 } (d.markCount + 1) level := by
  rw [State.drumMark_inStep hp (.inr hi) hc, hs]
  rfl

/-- A mark out of step, in interval or in count, outside a scan. -/
theorem State.drumMark_outOfStep (hp : s.exposure.phase = .idle) (hs : s.drum.state = .syncing ∨ s.drum.state = .running)
    (h : ¬ inStepWith n elapsed ∨ s.drum.markCount = 111) : s.drumMark n elapsed level = s.modDrum fun d => { d with
      intervalCounter := 4095, markLevel := true, indexLevel := level
      markCount := if d.markCount = 111 then 111 else d.markCount + 1, state := .syncing, qualifying := false } := by
  have out : ((s.drum.state == .stopped || intervalInStep n (intervalOf elapsed)) && !(s.drum.markCount == 111)) = false := by
    rw [Bool.eq_false_iff, Ne, Bool.and_eq_true, Bool.or_eq_true, beq_iff_eq, intervalInStep_iff, Bool.not_eq_true', beq_eq_false_iff_ne]
    rintro ⟨hi, hc⟩
    have notStopped : s.drum.state ≠ .stopped := by rcases hs with hs | hs <;> rw [hs] <;> exact DrumState.noConfusion
    exact h.elim (fun h => h (hi.resolve_left notStopped)) hc
  have notScanning : s.drum.state ≠ .scanning := by rcases hs with hs | hs <;> rw [hs] <;> exact DrumState.noConfusion
  rw [State.drumMark_idle n elapsed level hp, out, if_neg Bool.false_ne_true,
    State.outOfStep_idle (s := s.modDrum fun d => d.afterMark level) hp notScanning]
  simp only [State.modDrum, Drum.afterMark, beq_iff_eq]
  rfl

/-- An index in step. -/
theorem State.drumIndex_inStep (hp : s.exposure.phase = .idle) (hs : s.drum.state = .stopped ∨ inStepWith n elapsed)
    (hc : s.drum.markCount = 111) :
    s.drumIndex n elapsed = (s.modDrum Drum.afterIndex).indexInStep.modDrum fun d => { d with qualifying := true } := by
  have inStep : (s.drum.state == .stopped || intervalInStep n (intervalOf elapsed)) = true :=
    Bool.or_eq_true_iff.mpr (hs.imp beq_iff_eq.mpr (intervalInStep_iff n elapsed).mpr)
  rw [State.drumIndex_idle n elapsed hp, inStep, hc]
  rfl

/-- An index out of step, in interval or in count, outside a scan. -/
theorem State.drumIndex_outOfStep (hp : s.exposure.phase = .idle) (hs : s.drum.state = .syncing ∨ s.drum.state = .running)
    (h : ¬ inStepWith n elapsed ∨ s.drum.markCount ≠ 111) : s.drumIndex n elapsed = s.modDrum fun d => { d with
      intervalCounter := 4095, markCount := 0, markLevel := false, indexLevel := true, qualifying := true, state := .syncing } := by
  have out : ((s.drum.state == .stopped || intervalInStep n (intervalOf elapsed)) && s.drum.markCount == 111) = false := by
    rw [Bool.eq_false_iff, Ne, Bool.and_eq_true, Bool.or_eq_true, beq_iff_eq, intervalInStep_iff, beq_iff_eq]
    rintro ⟨hi, hc⟩
    have notStopped : s.drum.state ≠ .stopped := by rcases hs with hs | hs <;> rw [hs] <;> exact DrumState.noConfusion
    exact h.elim (fun h => h (hi.resolve_left notStopped)) fun h => h hc
  have notScanning : s.drum.state ≠ .scanning := by rcases hs with hs | hs <;> rw [hs] <;> exact DrumState.noConfusion
  rw [State.drumIndex_idle n elapsed hp, out, if_neg Bool.false_ne_true,
    State.outOfStep_idle (s := s.modDrum Drum.afterIndex) hp notScanning]
  rfl

/-- An ID scan begins with no item FLASHING. -/
theorem State.beginIdScan_idle (hp : s.exposure.phase = .idle) : s.beginIdScan = s.modDrum fun d => { d with
    state := .scanning, secondRevolution := false, readings := Vector.replicate 8 0, trackOut := 0, bandRead := true } := by
  rw [State.beginIdScan, State.setDrumState_leaves hp DrumState.noConfusion]
  rfl

theorem State.scanDue_iff : s.scanDue = true ↔
    s.fonts.confirmed = false ∧ s.desk.controller ≠ .stopped ∧ s.pins.coverOpen = false := by
  rw [State.scanDue, Bool.and_eq_true, Bool.and_eq_true, Bool.not_eq_true', Bool.not_eq_true', bne_iff_ne, and_assoc]

theorem exec_mark (hn : s.drum.nominal = some n) : exec (.mark elapsed level) s = .next (s.drumMark n elapsed level) := by
  show execMark elapsed level s = _
  rw [execMark, hn]

/-- Before START a mark is levels alone. -/
theorem exec_mark_unset (hn : s.drum.nominal = none) : exec (.mark elapsed level) s = .next (s.modDrum fun d => d.markHigh level) := by
  show execMark elapsed level s = _
  rw [execMark, hn]

/-- Before START an index is levels alone. -/
theorem exec_index_unset (hn : s.drum.nominal = none) : exec (.index elapsed) s = .next (s.modDrum Drum.indexHigh) := by
  show execIndex elapsed s = _
  rw [execIndex, hn]

/-- Band data is levels alone. -/
theorem exec_index_band (hn : s.drum.nominal = some n) (hb : s.drum.bandData = true) :
    exec (.index elapsed) s = .next (s.modDrum Drum.indexHigh) := by
  show execIndex elapsed s = _
  rw [execIndex, hn]
  exact if_pos hb

theorem exec_index (hn : s.drum.nominal = some n) (hb : s.drum.bandData = false) :
    exec (.index elapsed) s = .next (s.drumIndex n elapsed) := by
  show execIndex elapsed s = _
  rw [execIndex, hn]
  exact if_neg (by rw [hb]; exact Bool.false_ne_true)

theorem Drum.bandData_iff {d : Drum} : d.bandData = true ↔ d.state = .scanning ∧ 1 ≤ d.markCount ∧ d.markCount ≤ 110 := by
  rw [Drum.bandData, Bool.and_eq_true, beq_iff_eq, decide_eq_true_iff]

/-- Outside a scan no INDEX edge is band data. -/
theorem Drum.bandData_outside {d : Drum} (h : d.state ≠ .scanning) : d.bandData = false :=
  Bool.eq_false_iff.mpr fun hb => h (Drum.bandData_iff.mp hb).1

/-- At count 111 no INDEX edge is band data. -/
theorem Drum.bandData_closing {d : Drum} (h : d.markCount = 111) : d.bandData = false :=
  Bool.eq_false_iff.mpr fun hb => absurd (h ▸ (Drum.bandData_iff.mp hb).2.2) (by decide)

end

/-- Settles O51, by the drum's state: without a nominal interval, STOPPED, SYNCING or RUNNING, and SCANNING. -/
theorem drumEventsAreCountedAndTested : Obligations.DrumEventsAreCountedAndTested := by
  intro s n elapsed level hp d marked indexed
  have index_inStep (hn : d.nominal = some n) (hi : inStepWith n elapsed) (hc : d.markCount = 111) :
      exec (.index elapsed) s = .next ((s.modDrum Drum.afterIndex).indexInStep.modDrum fun d => { d with qualifying := true }) := by
    rw [exec_index hn (Drum.bandData_closing hc), State.drumIndex_inStep hp (.inr hi) hc]
  refine ⟨fun hn => ?_, fun hn hs => ?_, fun hn hs => ?_, fun hn hi hc due => ?_, fun hn hi hc => ?_, fun hn hs => ?_⟩
  · constructor
    · exact exec_mark_unset hn
    · exact exec_index_unset hn
  · constructor
    · intro hc
      rw [exec_mark hn, State.drumMark_first hp hs hc]
      rfl
    · intro hc
      rw [exec_index hn (Drum.bandData_closing hc), State.drumIndex_inStep hp (.inl hs) hc, State.indexInStep,
        show (s.modDrum Drum.afterIndex).drum.state = .stopped from hs]
      dsimp only
      rw [State.setDrumState_leaves (by exact hp) (by exact DrumState.noConfusion)]
      rfl
  · have notScanning : s.drum.state ≠ .scanning := by
      rcases hs with hs | hs <;> rw [show s.drum.state = _ from hs] <;> exact DrumState.noConfusion
    refine ⟨fun hi hc => ?_, fun h => ?_, fun h => ?_⟩
    · rw [exec_mark hn, State.drumMark_counted hp hi hc hs]
      rfl
    · rw [exec_mark hn, State.drumMark_outOfStep hp hs h]
      rfl
    · rw [exec_index hn (Drum.bandData_outside notScanning), State.drumIndex_outOfStep hp hs h]
      rfl
  · have notDue : (s.modDrum Drum.afterIndex).scanDue = false := by
      refine Bool.eq_false_iff.mpr fun h => ?_
      obtain ⟨hf, hr, ho⟩ := State.scanDue_iff.mp h
      rcases due with due | due | due
      · exact absurd (hf.symm.trans due) Bool.false_ne_true
      · exact hr due
      · exact absurd (ho.symm.trans due) Bool.false_ne_true
    rw [index_inStep hn hi hc, State.indexInStep, notDue]
    refine ⟨fun hs => ?_, fun hs hq => ?_, fun hs hq hd => ?_⟩
    · rw [show (s.modDrum Drum.afterIndex).drum.state = .running from hs]
      rfl
    · rw [show (s.modDrum Drum.afterIndex).drum.state = .syncing from hs,
        show (s.modDrum Drum.afterIndex).drum.qualifying = false from hq]
      rfl
    · rw [show (s.modDrum Drum.afterIndex).drum.state = .syncing from hs,
        show (s.modDrum Drum.afterIndex).drum.qualifying = true from hq]
      dsimp only
      rw [if_pos rfl, if_neg Bool.false_ne_true, State.setDrumState_runs (by exact hp) (by exact hd)]
      rfl
  · rw [index_inStep hn hi hc, State.indexInStep]
    refine ⟨fun hf hr ho hs => ?_, fun hs hq => ?_, fun hs hq hd => ?_⟩
    · have due : (s.modDrum Drum.afterIndex).scanDue = true := State.scanDue_iff.mpr ⟨hf, hr, ho⟩
      have begun : (s.modDrum Drum.afterIndex).beginIdScan = _ := State.beginIdScan_idle hp
      rw [due, begun]
      rcases hs with hs | ⟨hs, hq⟩
      · rw [show (s.modDrum Drum.afterIndex).drum.state = .running from hs]
        rfl
      · rw [show (s.modDrum Drum.afterIndex).drum.state = .syncing from hs,
          show (s.modDrum Drum.afterIndex).drum.qualifying = true from hq]
        rfl
    · rw [show (s.modDrum Drum.afterIndex).drum.state = .scanning from hs,
        show (s.modDrum Drum.afterIndex).drum.secondRevolution = false from hq]
      rfl
    · rw [show (s.modDrum Drum.afterIndex).drum.state = .scanning from hs,
        show (s.modDrum Drum.afterIndex).drum.secondRevolution = true from hq]
      dsimp only
      rw [if_pos rfl, State.completeIdScan_idle (by exact hp) (by exact hd)]
      refine ⟨_, rfl, fun p => ?_⟩
      simp only [Fin.getElem_fin, Vector.getElem_ofFn]
      exact ⟨rfl, rfl⟩
  · constructor
    · intro hi hc count p hpos
      have notMissed : s.drum.markCount ≠ 111 := Nat.ne_of_lt hc
      rw [exec_mark hn, State.drumMark_scanning hp hi notMissed hs]
      have read := Drum.readBand_at (d := { marked with markCount := d.markCount + 1 }) (level := level) hpos
      refine ⟨fun h8 h23 => ?_, fun h0 => ?_⟩
      · rw [if_pos ⟨h8, h23⟩] at read
        exact congrArg (fun x => Host.Outcome.next { s with drum := x }) (by exact read)
      · rw [if_neg (by rw [h0]; decide), if_pos h0] at read
        exact congrArg (fun x => Host.Outcome.next { s with drum := x }) (by exact read)
    · intro h1 h110
      exact exec_index_band hn (Drum.bandData_iff.mpr ⟨hs, h1, h110⟩)

end Sys2Proof.Machine
end

section
/-! PROOFS. The Exposure Sequencer: the record in hand, its flashes and the cover (spec 08, sections 9.2, 9.4, 9.5 and 9.8). -/

namespace Sys2Proof.Machine

/-! ### The record before the film cursor -/

section
variable {s : State} {r : Record}

theorem State.filmRecord_of (h : s.nextForFilm r) : s.filmRecord = some r := h

theorem State.filmItems_text {leading : Nat} {items : List Item} {fonts : List (Nat × Half)} (h : s.nextForFilm r)
    (hw : r.work = .text leading items fonts) : s.filmItems = items := by
  rw [State.filmItems, State.filmRecord_of h]
  dsimp only
  rw [hw]

theorem State.currentItem_text {leading : Nat} {items : List Item} {fonts : List (Nat × Half)} (h : s.nextForFilm r)
    (hw : r.work = .text leading items fonts) : s.currentItem = items[s.exposure.item]? := by
  rw [State.currentItem, State.filmItems_text h hw]

theorem State.reportFilm_of (h : s.nextForFilm r) (c : Half) : s.reportFilm c = s.report r.entry r.lineNumber c := by
  rw [State.reportFilm, State.filmRecord_of h]

theorem State.reportDepth_of (h : s.nextForFilm r) (ticks : Nat) : s.reportDepth ticks = s.addDepth r.entry ticks := by
  rw [State.reportDepth, State.filmRecord_of h]

theorem State.reportGalley_of (h : s.nextForFilm r) (galley : Nat) : s.reportGalley galley = s.enterGalley r.entry galley := by
  rw [State.reportGalley, State.filmRecord_of h]

/-- No record is released before the proof cursor has passed one (R125). -/
theorem State.release_behindProof (h : s.store.proof.passed = 0) : s.release = s.settle := by
  unfold State.release
  cases hr : s.store.records with
  | nil => rfl
  | cons x rest =>
    rw [List.length_cons, State.releaseHead, hr]
    dsimp only
    rw [if_neg fun hp => absurd h (Nat.ne_of_gt hp.2)]

/-- The film cursor passes a record that the proof cursor has not passed. -/
theorem State.passFilm_stays (h : s.nextForFilm r) (hp : s.store.proof.passed = 0) :
    s.passFilm = State.settle (s.modStore LineStore.filmPast) := by
  rw [State.passFilm, State.filmRecord_of h]
  exact State.release_behindProof hp

/-! ### The phases left at once -/

/-- A phase left at once is carried out, and the sequencer goes on from there. -/
theorem State.exposureLoop_goes {t : State} {n : Nat} (h : s.exposure.phase.atOnce = true) (ht : s.exposurePhase = t) :
    s.exposureLoop (n + 1) = t.exposureLoop n := by
  rw [State.exposureLoop, if_pos h, ht]

/-- At a wait the sequencer stays. -/
theorem State.exposureLoop_waits {n : Nat} (h : s.exposure.phase.atOnce = false) : s.exposureLoop n = s := by
  cases n with
  | zero => rfl
  | succ n => rw [State.exposureLoop, if_neg (by rw [h]; exact Bool.false_ne_true)]

@[simp]
theorem State.releaseHead_exposure (n : Nat) (s : State) : (s.releaseHead n).exposure = s.exposure := by
  induction n generalizing s with
  | zero => rfl
  | succ n ih =>
    rw [State.releaseHead]
    split
    · rfl
    · split
      · rw [ih]
        rfl
      · rfl

theorem State.passFilm_exposure (s : State) : s.passFilm.exposure = s.exposure := by
  unfold State.passFilm State.release
  split <;> simp

/-- A record other than a TEXT record is finished. -/
theorem State.finishRecord_plain (h : s.nextForFilm r) (hw : ∀ leading items fonts, r.work ≠ .text leading items fonts) :
    s.finishRecord = State.passFilm { s with exposure := s.exposure.rested } := by
  unfold State.finishRecord
  rw [State.filmRecord_of h]
  dsimp only
  cases hk : r.work with
  | text leading items fonts => exact absurd hk (hw leading items fonts)
  | lead l => rfl
  | cut c => rfl

/-- A TEXT record is finished: its galley is entered for its ticket. -/
theorem State.finishRecord_text {leading : Nat} {items : List Item} {fonts : List (Nat × Half)} {e : Entry} (h : s.nextForFilm r)
    (hw : r.work = .text leading items fonts) (he : s.flight[r.entry] = some e) :
    s.finishRecord = State.passFilm { s with
      exposure := s.exposure.rested
      flight := s.flight.set r.entry.val (some { e with
        firstGalley := if e.firstGalley = 0 then s.film.galleyNumber else e.firstGalley
        lastGalley := s.film.galleyNumber }) } := by
  unfold State.finishRecord
  rw [State.filmRecord_of h]
  dsimp only
  rw [hw]
  dsimp only
  rw [if_pos rfl, State.reportGalley_of h, State.enterGalley, State.modEntry_of_some he]
  rfl

/-- With no exposable item left, the record is to be finished. -/
theorem State.nextItem_none {leading : Nat} {items : List Item} {fonts : List (Nat × Half)} (h : s.nextForFilm r)
    (hw : r.work = .text leading items fonts) (hx : ∀ x ∈ items.drop s.exposure.item, x.exposable = false) :
    s.nextItem = s.setEs .finish := by
  unfold State.nextItem
  rw [State.filmItems_text h hw, List.findIdx?_eq_none_iff.mpr hx]

/-! ### Positioning -/

theorem State.moveCarriage_there {tick : Nat} (h : s.exposure.carriageAt = some tick) : s.moveCarriage tick = s := by
  unfold State.moveCarriage
  rw [h, Option.getD_some]
  exact if_pos (by rw [beq_self_eq_true, Bool.or_true])

theorem turretDistance_self (p : Fin 8) : turretDistance p p = 0 := by
  rw [turretDistance, Nat.add_sub_cancel_left]

theorem State.moveTurret_there {lens : Fin 8} (h : s.exposure.turretAt = some lens) : s.moveTurret lens = s := by
  unfold State.moveTurret
  rw [h, Option.getD_some, turretDistance_self]
  exact if_pos (by rw [beq_self_eq_true, Bool.or_true])

/-- A channel in motion is given no second move. -/
theorem State.moveTurret_busy {lens : Fin 8} (h : s.motion.turret.busy = true) : s.moveTurret lens = s := by
  unfold State.moveTurret
  rw [h]
  exact if_pos (Bool.true_or _)

end

/-! ### The flash -/

theorem State.fireFlash_other {s : State} (h : s.exposure.phase ≠ .flashing .delay) : s.fireFlash = s := by
  unfold State.fireFlash
  split
  next hp _ _ => exact absurd hp h
  next => rfl

/-- A mark in step of a RUNNING drum while an item is FLASHING. -/
theorem State.drumMark_awaited {s : State} {n elapsed : Nat} {level : Bool} (hp : s.exposure.phase = .flashing .awaiting)
    (hs : s.drum.state = .running) (hi : inStepWith n elapsed) (hc : s.drum.markCount ≠ 111) :
    s.drumMark n elapsed level = (s.modDrum fun d => { d with
      intervalCounter := 4095, markLevel := true, indexLevel := level
      markCount := d.markCount + 1 }).flashEvent (s.drum.markCount + 1) := by
  have count : (s.drum.markCount == 111) = false := beq_eq_false_iff_ne.mpr hc
  have inStep : intervalInStep n (intervalOf elapsed) = true := (intervalInStep_iff n elapsed).mpr hi
  rw [State.drumMark]
  simp only [hp, inStep, count, Bool.or_true, Bool.not_false, Bool.and_self, if_true, beq_self_eq_true, Bool.false_eq_true, if_false]
  split
  next h => exact DrumState.noConfusion (hs.symm.trans h)
  next h => exact DrumState.noConfusion (hs.symm.trans h)
  next h => exact DrumState.noConfusion (hs.symm.trans h)
  next => rfl

/-- Settles O53: each event by what it waits for, from the settled track to the lamp-ready timer. -/
theorem flashGoesFromTrackToLamp : Obligations.FlashGoesFromTrackToLamp := by
  refine ⟨fun s => rfl, fun s => ⟨fun h => if_neg ?_, fun h => congrArg Host.Outcome.next (State.fireFlash_other h),
      fun h => if_neg h⟩,
    fun s r leading items fonts it t hr hw hit ht => ⟨fun hset hp hcb htb hca hta hd => ?_,
      fun n elapsed level hp hd hn hi hm hcode hl ho hf => ?_,
      fun hp hd ho => ?_, fun e hp hx he hpp => ?_⟩⟩
  · rintro ⟨h1, h2⟩
    rcases h with h | h
    · rw [h] at h1
      cases h1
    · rw [h] at h2
      cases h2
  · let u := s.modExposure fun x => { x with settled := true }
    have item : u.currentItem = some it := (State.currentItem_text (s := u) hr hw).trans hit
    have moved : (u.moveCarriage it.tick).moveTurret it.lens = u := by
      rw [State.moveCarriage_there (s := u) hca, State.moveTurret_there (s := u) hta]
    have placed : u.positioned it = true := by
      have at0 : u.exposure.carriageAt = some it.tick := hca
      have at1 : u.exposure.turretAt = some it.lens := hta
      rw [State.positioned, at0, at1, show u.motion.carriage.busy = false from hcb, show u.motion.turret.busy = false from htb]
      simp only [Option.getD_some, beq_self_eq_true]
      rfl
    have flashes : u.position = u.enterFlashing := by
      unfold State.position
      rw [item]
      dsimp only
      rw [moved, if_pos placed]
    have settles : exec .trackSettled s = .next u.position :=
      (if_pos ⟨by rw [ht]; rfl, hset⟩).trans (if_pos hp)
    rw [settles, flashes, State.enterFlashing, if_pos (by exact hd)]
    rfl
  · let u := s.modDrum fun d => { d with
      intervalCounter := 4095, markLevel := true, indexLevel := level, markCount := d.markCount + 1 }
    have item : u.currentItem = some it := (State.currentItem_text (s := u) hr hw).trans hit
    have starts : u.flashEvent (s.drum.markCount + 1) =
        u.modExposure fun x => { x with phase := .flashing .delay, flashTimer := u.desk.setup.flashDelay } := by
      rw [State.flashEvent, show u.exposure.phase = .flashing .awaiting from hp, item]
      exact if_pos ⟨hcode, hl, hd, ho, hf⟩
    rw [exec_mark hn, State.drumMark_awaited hp hd hi (Nat.ne_of_lt hm)]
    exact congrArg Host.Outcome.next starts
  · have item : s.currentItem = some it := (State.currentItem_text hr hw).trans hit
    show Host.Outcome.next s.fireFlash = _
    rw [State.fireFlash, hp, item, ht]
    exact congrArg Host.Outcome.next (if_pos ⟨hd, ho⟩)
  · let u := s.endPulse.modExposure fun x => { x with item := x.item + 1, phase := .nextItem }
    have none : u.nextItem = u.setEs .finish := State.nextItem_none (s := u) hr hw hx
    have done := State.finishRecord_text (s := u.setEs .finish) hr hw he
    let v : State := { u.setEs .finish with
      exposure := (u.setEs .finish).exposure.rested
      flight := s.flight.set r.entry.val (some { e with
        firstGalley := if e.firstGalley = 0 then s.film.galleyNumber else e.firstGalley
        lastGalley := s.film.galleyNumber }) }
    have passed : v.passFilm = _ := State.passFilm_stays (s := v) hr hpp
    have stays : v.passFilm.exposure.phase.atOnce = false := by rw [State.passFilm_exposure]; rfl
    have run : u.exposureRun = v.passFilm :=
      (State.exposureLoop_goes (s := u) rfl none).trans
        ((State.exposureLoop_goes (s := u.setEs .finish) rfl done).trans (State.exposureLoop_waits stays))
    have ends : exec .flashEnd s = .next u.exposureRun := if_pos hp
    rw [ends, run, passed]
    rfl

/-! ### The cover -/

/-- An event at which the cover moves has changed the photo unit's set. -/
theorem State.noticeSince_cover {s b : State} (h : s.pins.coverOpen ≠ b.pins.coverOpen) :
    s.noticeSince .photoUnit b = s.notice .photoUnit := if_neg fun hc => h (State.photoConditions_inj.mp hc).1

/-- A line begun, spoiled in POSITIONING with no move in flight, waits for its mount check (R143). -/
theorem State.spoilLine_begun {s t : State} (hp : s.exposure.phase = .positioning) (hb : s.exposure.begun = true)
    (told : s.reportFilm Cond.spoiled = { s with flight := t.flight }) (hc : s.motion.carriage.busy = false)
    (ht : s.motion.turret.busy = false) : s.spoilLine = { s with
      flight := t.flight
      exposure := { s.exposure with
        phase := .mountWait, mountNext := .spoilGap, begun := false, flashTimer := 0, drumTimer := 0 } } := by
  unfold State.spoilLine
  dsimp only
  have notPulse : ¬ s.exposure.phase = .flashing .pulse := fun h => EsPhase.noConfusion (hp.symm.trans h)
  rw [if_neg notPulse, if_pos hb, told, State.endCoverHold, if_pos ⟨rfl, hc, ht⟩]
  simp only [State.modExposure, State.setEs, hb]
  rfl

/-- Settles O54, by where the Exposure Sequencer stands as the cover opens. -/
theorem coverOpeningSpoilsALineBegun : Obligations.CoverOpeningSpoilsALineBegun := by
  intro s
  refine ⟨fun ho => ⟨if_pos ho, ?_⟩, fun hc => ?_⟩
  · let t : State := { s with pins := { s.pins with coverOpen := false } }
    have closes : exec .coverClose s = .next (t.noticeSince .photoUnit s) := if_pos ho
    rw [closes, State.noticeSince_cover (by rw [ho]; exact Bool.false_ne_true)]
  let t := (s.modPins fun p => { p with coverOpen := true }).modFonts fun c => { c with confirmed := false }
  have opens (hd : s.drum.state ≠ .scanning) (u : State) (hu : t.coverOpens = u) (hup : u.pins.coverOpen = true) :
      exec .coverOpen s = .next (u.notice .photoUnit) := by
    have scan : (if t.drum.state = .scanning then t.leaveScan .running else t) = t := if_neg hd
    have answer : exec .coverOpen s = .next (t.coverOpens.noticeSince .photoUnit s) :=
      (if_neg (by rw [hc]; exact Bool.false_ne_true)).trans
        (congrArg (fun t : State => Host.Outcome.next (t.coverOpens.noticeSince .photoUnit s)) scan)
    rw [answer, hu, State.noticeSince_cover (by rw [hc, hup]; decide)]
  refine ⟨if_neg (by rw [hc]; exact Bool.false_ne_true), fun hd hp => ?_, fun hd hp => ?_, fun r e hd hp hb hcb htb hr he => ?_⟩
  · refine opens hd _ ?_ rfl
    rw [State.coverOpens, show t.exposure.phase = .idle from hp]
    rfl
  · refine opens hd _ ?_ rfl
    rw [State.coverOpens, show t.exposure.phase = .mountReady from hp]
    rfl
  · have told : t.reportFilm Cond.spoiled = { t with flight := s.flight.set r.entry.val (some (e.report r.lineNumber 0x400)) } :=
      (State.reportFilm_of (s := t) hr _).trans (State.report_eq (s := t) he _ _)
    refine opens hd _ ?_ rfl
    rw [State.coverOpens, show t.exposure.phase = .positioning from hp]
    exact State.spoilLine_begun (s := t) (t := { t with flight := s.flight.set r.entry.val (some (e.report r.lineNumber 0x400)) })
      hp hb told hcb htb

end Sys2Proof.Machine
end

section
/-! PROOFS. The cassette, the take-up and the knife (spec 09, sections 10.2 to 10.4). -/

namespace Sys2Proof.Machine

/-! ### Film movements (R148) -/

section
variable {s : State} {m : Movement}

/-- The part with a film movement just started. -/
def State.filmMoves (s : State) (m : Movement) : State := { s with
  film := { s.film with supply := s.film.supply - m.consumes }
  motion := { s.motion with
    film := ⟨s.desk.setup.film.rate, s.desk.setup.film.high, s.desk.setup.film.low, m.forward, m.ticks, m.ticks, true, .none⟩ }
  exposure := { s.exposure with phase := .moving m } }

theorem State.startMovement_moves (hm : m.ticks ≠ 0) (ht : s.pins.takeup = true) : s.startMovement m = s.filmMoves m := by
  rw [State.startMovement, if_neg hm, ht]
  rfl

theorem State.startMovement_waits (hm : m.ticks ≠ 0) (ht : s.pins.takeup = false) : s.startMovement m = s.setEs (.takeupWait m) := by
  rw [State.startMovement, if_neg hm, ht]
  rfl

theorem State.startMovement_nothing (hm : m.ticks = 0) : s.startMovement m = s.setEs (.moved m) := if_pos hm

/-- A movement that is asked for and started ends the run. -/
theorem State.exposureLoop_moves {n : Nat} (hp : s.exposure.phase = .startMove m) (hm : m.ticks ≠ 0) (ht : s.pins.takeup = true) :
    s.exposureLoop (n + 1) = s.filmMoves m := by
  refine (State.exposureLoop_goes (by rw [hp]; rfl) ?_).trans (State.exposureLoop_waits rfl)
  rw [State.exposurePhase, hp]
  exact State.startMovement_moves hm ht

/-- A movement that finds the take-up absent ends the run, too. -/
theorem State.exposureLoop_takeupWait {n : Nat} (hp : s.exposure.phase = .startMove m) (hm : m.ticks ≠ 0) (ht : s.pins.takeup = false) :
    s.exposureLoop (n + 1) = s.setEs (.takeupWait m) := by
  refine (State.exposureLoop_goes (by rw [hp]; rfl) ?_).trans (State.exposureLoop_waits rfl)
  rw [State.exposurePhase, hp]
  exact State.startMovement_waits hm ht

end

/-! ### A wait for film answered (R149, R152) -/

section
variable {s : State} {n : Nat}

/-- A lead with the galley closed opens it, and asks for the leader. -/
theorem State.exposureLoop_opens {k : Nat} (hp : s.exposure.phase = .openLead n .advance) (hg : s.film.galleyOpen = false) :
    s.exposureLoop (k + 1) = State.exposureLoop k { s with
      film := { s.film with galleyOpen := true }
      exposure := { s.exposure with phase := .startMove (.leader s.desk.setup.leader n .advance) } } := by
  refine State.exposureLoop_goes (by rw [hp]; rfl) ?_
  rw [State.exposurePhase, hp]
  dsimp only
  rw [State.openGalley, hg]
  rfl

/-- A leader of 0 ticks is followed by the lead at once. -/
theorem State.exposureLoop_noLeader {k : Nat} (hp : s.exposure.phase = .startMove (.leader 0 n .advance)) :
    s.exposureLoop (k + 2) = State.exposureLoop k { s with
      exposure := { s.exposure with phase := .startMove (.lead n (s.film.newFilm n) .advance) } } := by
  have moved : s.exposurePhase = s.setEs (.moved (.leader 0 n .advance)) := by
    rw [State.exposurePhase, hp]
    exact State.startMovement_nothing rfl
  exact (State.exposureLoop_goes (by rw [hp]; rfl) moved).trans (State.exposureLoop_goes rfl rfl)

/-- A wait for film that does not stand is not answered. -/
theorem State.filmInserted_none (h : ∀ g, s.exposure.phase ≠ .needWait g) : s.filmInserted = s := by
  unfold State.filmInserted
  split
  next g hg => exact absurd hg (h g)
  next => rfl

/-- A wait for film by whether the new cassette answers it (R152, R154). -/
theorem State.filmInserted_waiting {g : FilmGoal} (h : s.exposure.phase = .needWait g) : s.filmInserted =
    if s.film.need s.desk.setup g.ticks ≤ s.film.supply then
      (if s.desk.controller = .running then (s.needPassed g).exposureRun else s)
    else s.modFilm fun f => { f with filmOut := true } := by
  rw [State.filmInserted, h]
  simp only [State.needFits, decide_eq_true_iff]

end

/-- Settles O55: the cassette by the wait for film, and the take-up by the wait for it. -/
theorem cassetteAndTakeupAnswerTheirWaits : Obligations.CassetteAndTakeupAnswerTheirWaits := by
  intro s
  refine ⟨rfl, fun h => if_pos h, fun hc => ?_, rfl, ?_⟩
  · intro present filled became
    let t : State := { present with film := filled }
    have inserts (hs : s.desk.controller ≠ .stopped) : exec .cassetteInsertion s = .next (t.filmInserted.noticeSince .film s) :=
      (if_neg (by rw [hc]; exact Bool.false_ne_true)).trans (if_neg hs)
    have became_of {u : State} (hs : s.desk.controller ≠ .stopped) (hu : t.filmInserted = u) : became u := by
      show exec .cassetteInsertion s = .next (u.noticeSince .film s)
      rw [inserts hs, hu]
    refine ⟨fun hs => ?_, fun hs hg => became_of hs (State.filmInserted_none (s := t) hg), fun g hs hg => ?_, fun n hr hg ho => ?_⟩
    · exact (if_neg (by rw [hc]; exact Bool.false_ne_true)).trans (if_pos hs)
    · have waiting := State.filmInserted_waiting (s := t) hg
      refine ⟨fun short => became_of hs (waiting.trans (if_neg (Nat.not_le.mpr short))), fun fits hh => became_of hs ?_⟩
      refine waiting.trans ((if_pos fits).trans (if_neg ?_))
      rw [show t.desk.controller = .halted from hh]
      exact Controller.noConfusion
    · intro leader fresh opened fits
      have notStopped : s.desk.controller ≠ .stopped := by rw [hr]; exact Controller.noConfusion
      have need : t.film.need t.desk.setup (FilmGoal.advance n).ticks ≤ t.film.supply := by
        show (if s.film.galleyOpen then 0 else leader) + fresh + s.desk.setup.trailer ≤ s.desk.setup.cassetteLength
        rw [ho]
        exact fits
      let v : State := { present with
        film := opened, exposure := { s.exposure with phase := .startMove (.leader leader n .advance) } }
      have run : t.filmInserted = v.exposureLoop 31 :=
        (State.filmInserted_waiting (s := t) hg).trans ((if_pos need).trans ((if_pos hr).trans
          (State.exposureLoop_opens (s := t.setEs (.openLead n .advance)) rfl ho)))
      refine ⟨fun hl => ⟨fun ht => became_of notStopped ?_, fun ht => became_of notStopped ?_⟩,
        fun hl hn => ?_⟩
      · exact run.trans (State.exposureLoop_moves (s := v) rfl hl ht)
      · exact run.trans (State.exposureLoop_takeupWait (s := v) rfl hl ht)
      · let w : State := { present with
          film := opened, exposure := { s.exposure with phase := .startMove (.lead n fresh .advance) } }
        have asked : v.exposure.phase = .startMove (.leader 0 n .advance) := by rw [← hl]
        have lead : t.filmInserted = w.exposureLoop 29 := run.trans (State.exposureLoop_noLeader (s := v) asked)
        exact ⟨fun ht => became_of notStopped (lead.trans (State.exposureLoop_moves (s := w) rfl hn ht)),
          fun ht => became_of notStopped (lead.trans (State.exposureLoop_takeupWait (s := w) rfl hn ht))⟩
  · intro seated
    have exposure : seated.exposure = s.exposure := by simp [seated]
    have desk : seated.desk = s.desk := by simp [seated]
    have answer : exec .takeupPresent s = match seated.exposure.phase with
      | .takeupWait m => if seated.desk.controller = .running then .next (seated.startMovement m).exposureRun else .next seated
      | _ => .next seated := rfl
    have present : seated.pins.takeup = true := by simp [seated]
    have starts {m : Movement} (hr : s.desk.controller = .running) (hp : s.exposure.phase = .takeupWait m) (hm : m.ticks ≠ 0) :
        exec .takeupPresent s = .next (seated.filmMoves m) := by
      rw [answer, exposure, hp, desk, hr]
      dsimp only
      rw [if_pos rfl, State.startMovement_moves hm present, State.exposureRun_waits (by rfl)]
    have film : seated.film = s.film := by simp [seated]
    have motion : seated.motion = s.motion := by simp [seated]
    refine ⟨fun h => ?_, fun n next lead hr hp hn => ?_, fun n fresh lead hr hp hn => ?_⟩
    · rw [answer, exposure, desk]
      split
      next m hm =>
        rcases h with h | h
        · exact absurd hm (h m)
        · exact if_neg (by rw [h]; exact Controller.noConfusion)
      next => rfl
    · rw [starts hr hp hn]
      simp only [State.filmMoves, film, motion, exposure, desk]
      rfl
    · rw [starts hr hp hn]
      simp only [State.filmMoves, film, motion, exposure, desk]
      rfl

/-! ### The knife (R156 to R158) -/

section
variable {s : State}

theorem State.starting_iff : s.starting = true ↔ s.desk.starts := by
  rw [State.starting, Bool.or_eq_true, beq_iff_eq, beq_iff_eq]

theorem State.clearing_of (hs : s.desk.starts) (hc : s.desk.startStep = some .clearingCut) : s.clearing = true := by
  rw [State.clearing, State.starting_iff.mpr hs, hc]
  rfl

/-- A step of START that fails ends its command with the step held. -/
theorem State.startFails_eq (c : HaltCause) : s.startFails c = { s with desk := { s.desk with
    controller := .halted, cause := c, result := .accepted, busy := none, events := s.desk.events ||| 4#4 ||| 8#4 } } := rfl

/-- A write of a record begins in step 4 of START where none is in flight. -/
theorem State.startNotice_begins {o : Owner} (h : (s.notices.writer o).inFlight = none) : s.startNotice o = s.beginNotice o := by
  unfold State.startNotice NoticeWriter.busy
  dsimp only
  rw [h]
  rfl

/-- Step 4 of START with no write in flight: each of the three records begins to be written (R9). -/
theorem State.startNotices_begin (h : ∀ o : Owner, (s.notices.writer o).inFlight = none) :
    s.startNotices =
      let t := { s with desk := { s.desk with startStep := some .notices } }
      { t with notices :=
        { t.notices with
          photoUnit := { t.notices.photoUnit with inFlight := some (t.noticeShown .photoUnit), held := false }
          film := { t.notices.film with inFlight := some (t.noticeShown .film), held := false }
          proof := { t.notices.proof with inFlight := some (t.noticeShown .proof), held := false } } } := by
  let t := s.atStep .notices
  have photo : t.startNotice .photoUnit = t.beginNotice .photoUnit := State.startNotice_begins (h .photoUnit)
  have film : (t.beginNotice .photoUnit).startNotice .film = (t.beginNotice .photoUnit).beginNotice .film :=
    State.startNotice_begins (h .film)
  have proof : ((t.beginNotice .photoUnit).beginNotice .film).startNotice .proof =
      ((t.beginNotice .photoUnit).beginNotice .film).beginNotice .proof := State.startNotice_begins (h .proof)
  show ((t.startNotice .photoUnit).startNotice .film).startNotice .proof = _
  rw [photo, film, proof]
  rfl

/-- KNIFE DONE completes the cut of a record that is no FLASH-OPEN (R156, R159). -/
theorem State.completeCut_record {r : Record} {c : CutClass} {e : Entry} (hr : s.nextForFilm r) (hw : r.work = .cut c)
    (hc : c ≠ .flashOpen) (he : s.flight[r.entry] = some e) : s.completeCut .record = { s.closeGalley with
      flight := s.flight.set r.entry.val (some { e with
        firstGalley := if e.firstGalley = 0 then s.film.galleyNumber else e.firstGalley
        lastGalley := s.film.galleyNumber })
      exposure := { s.exposure with phase := .finish } } := by
  have plain : s.flashOpenCut = false := by
    rw [State.flashOpenCut, State.filmRecord_of hr]
    dsimp only
    rw [hw, beq_eq_false_iff_ne]
    exact fun h => hc (Work.cut.inj h)
  have told : s.closeGalley.reportGalley s.film.galleyNumber = _ :=
    (State.reportGalley_of (s := s.closeGalley) hr _).trans (State.modEntry_of_some (s := s.closeGalley) he _)
  unfold State.completeCut
  dsimp only
  rw [plain, if_neg Bool.false_ne_true, told]
  rfl

end

/-- Settles O56: with KNIFE asserted, by what the cut is for. -/
theorem knifeClosesTheGalleyOrHalts : Obligations.KnifeClosesTheGalleyOrHalts := by
  intro s cut
  refine ⟨fun h => ?_, fun h => ⟨fun r e c hp hr hw hc he hpp => ?_, fun hp hrun => ?_, fun hp hs hst => ?_⟩⟩
  · have off : ¬ s.film.knife = true := by rw [h]; exact Bool.false_ne_true
    exact ⟨congrArg Host.Outcome.next (if_neg off), congrArg Host.Outcome.next (if_neg off)⟩
  · let u : State := { s.closeGalley with
      flight := s.flight.set r.entry.val (some { e with
        firstGalley := if e.firstGalley = 0 then s.film.galleyNumber else e.firstGalley
        lastGalley := s.film.galleyNumber })
      exposure := { s.exposure with phase := .finish } }
    have completes : exec .knifeDone s = .next u.exposureRun := by
      show Host.Outcome.next s.knifeDone = _
      rw [State.knifeDone, if_pos h, hp]
      dsimp only
      rw [State.completeCut_record hr hw hc he]
    let v : State := { u with exposure := s.exposure.rested }
    have finished : u.finishRecord = v.passFilm :=
      State.finishRecord_plain (s := u) hr fun l i f hk => by rw [hw] at hk; exact Work.noConfusion hk
    have stays : v.passFilm.exposure.phase.atOnce = false := by rw [State.passFilm_exposure]; rfl
    have run : u.exposureRun = v.passFilm := (State.exposureLoop_goes (s := u) rfl finished).trans (State.exposureLoop_waits stays)
    rw [completes, run, State.passFilm_stays (s := v) hr hpp]
    rfl
  · show Host.Outcome.next s.knifeTimesOut = _
    rw [State.knifeTimesOut, if_pos h, hp]
    exact congrArg Host.Outcome.next (State.fault_running (s := s.releaseKnife.setEs (.knifeHeld .record)) hrun .knife)
  · constructor
    · intro free t
      let u := s.closeGalley.modFilm fun f => { f with unknown := false }
      show Host.Outcome.next s.knifeDone = _
      rw [State.knifeDone, if_pos h, hp]
      dsimp only
      rw [if_pos (State.clearing_of hs hst)]
      exact congrArg Host.Outcome.next (State.startNotices_begin (s := u) free)
    · show Host.Outcome.next s.knifeTimesOut = _
      rw [State.knifeTimesOut, if_pos h, hp]
      dsimp only
      rw [if_pos (State.clearing_of hs hst)]
      rfl

end Sys2Proof.Machine
end

section
/-! PROOFS. Records taken by the Exposure Sequencer, and moves that end (spec 08, sections 9.1 to 9.4; spec 09, section 10.2). -/

namespace Sys2Proof.Machine

/-! ### Records taken (R124, R129, R130) -/

section
variable {s : State} {r : Record}

/-- Records are released only as both cursors have passed them (R125). -/
theorem State.releaseHead_stops {n : Nat} (h : s.store.film.passed = 0 ∨ s.store.proof.passed = 0) : s.releaseHead n = s := by
  cases n with
  | zero => rfl
  | succ n =>
    rw [State.releaseHead]
    split
    · rfl
    · rw [if_neg]
      rintro ⟨hf, hp⟩
      exact h.elim (Nat.ne_of_gt hf) (Nat.ne_of_gt hp)

/-- The film cursor passes the head record, which the proof cursor has passed: it is released (R125). -/
theorem State.passFilm_releases (hr : s.nextForFilm r) (hf : s.store.film.passed = 0) (hp : 0 < s.store.proof.passed) :
    s.passFilm = State.settle { s with
      store := { s.store with
        records := s.store.records.tail
        free := s.store.free + r.itemCount
        film := ⟨0, false⟩
        proof := { s.store.proof with passed := s.store.proof.passed - 1 } }
      flight := s.flight.set r.entry.val (s.flight[r.entry].map fun e => { e with outstanding := e.outstanding - 1 }) } := by
  obtain ⟨rest, hrest⟩ : ∃ rest, s.store.records = r :: rest := by
    have head : s.store.records[0]? = some r := hf ▸ hr
    cases hl : s.store.records with
    | nil => rw [hl] at head; cases head
    | cons x rest =>
      rw [hl] at head
      exact ⟨rest, by rw [Option.some.inj head]⟩
  let t := s.modStore fun l => { l with film := ⟨l.film.passed + 1, false⟩ }
  let u : State := (t.modStore fun l =>
    { l with
      records := rest
      free := l.free + r.itemCount
      film := { l.film with passed := l.film.passed - 1 }
      proof := { l.proof with passed := l.proof.passed - 1 } }).modEntry r.entry fun e => { e with outstanding := e.outstanding - 1 }
  have released : t.releaseHead (r :: rest).length = u := by
    rw [List.length_cons, State.releaseHead, show t.store.records = r :: rest from hrest]
    dsimp only
    rw [if_pos ⟨Nat.succ_pos _, hp⟩]
    exact State.releaseHead_stops (s := u) (.inl hf)
  rw [State.passFilm, State.filmRecord_of hr]
  show (t.releaseHead s.store.records.length).settle = _
  rw [hrest, released]
  simp only [u, t, State.modEntry, State.modFlight, State.modStore, hf]
  rfl

/-- The part with a record just taken, at a phase. -/
def State.filmTaken (s : State) (p : EsPhase) : State := { s with store := s.store.filmHolds, exposure := s.exposure.taken p }

theorem exec_exposureTakeRecord (hs : s.desk.controller = .running) (hp : s.exposure.phase = .idle) :
    exec .exposureTakeRecord s = .next s.takeFilmRecord := if_pos ⟨hs, hp⟩

theorem State.takeFilmRecord_skips (hr : s.nextForFilm r) (h : r.withdrawn = true ∨ r.toFilm = false) :
    s.takeFilmRecord = s.passFilm := by
  rw [State.takeFilmRecord, State.filmRecord_of hr]
  refine if_pos ?_
  rcases h with h | h <;> rw [h]
  · exact Bool.true_or _
  · exact Bool.or_true _

theorem State.takeFilmRecord_takes (hp : s.exposure.phase = .idle) (hr : s.nextForFilm r) (hw : r.withdrawn = false)
    (hf : r.toFilm = true) : s.takeFilmRecord =
      (match r.work with
        | .text leading _ _ => (s.filmTaken .idle).setEs (.need (.text leading))
        | .lead l => (s.filmTaken .idle).leadRecord l
        | .cut _ => (s.filmTaken .idle).cutRecord).exposureRun := by
  have taken : (s.modStore fun l => { l with film := { l.film with holding := true } }).modExposure
      (fun x => { x with item := 0, tracks := [], begun := false, coverSeen := false, mountNext := .leading }) = s.filmTaken .idle := by
    rw [State.filmTaken, Exposure.taken, ← hp]
    rfl
  rw [State.takeFilmRecord, State.filmRecord_of hr]
  dsimp only
  rw [hw, hf, taken]
  rfl

/-- A record other than TEXT that is to be finished is passed. -/
theorem State.exposureLoop_finish {n : Nat} (hp : s.exposure.phase = .finish) (hr : s.nextForFilm r)
    (hw : ∀ leading items fonts, r.work ≠ .text leading items fonts) (hpp : s.store.proof.passed = 0) :
    s.exposureLoop (n + 1) = State.settle { s with store := s.store.filmPast, exposure := s.exposure.rested } := by
  let t : State := { s with exposure := s.exposure.rested }
  have finished : s.exposurePhase = t.passFilm := by
    rw [State.exposurePhase, hp]
    exact State.finishRecord_plain hr hw
  have stays : t.passFilm.exposure.phase.atOnce = false := by rw [State.passFilm_exposure]; rfl
  rw [State.exposureLoop_goes (by rw [hp]; rfl) finished, State.exposureLoop_waits stays, State.passFilm_stays (s := t) hr hpp]
  rfl

/-- A need check that the film answers (R152). -/
theorem State.exposureLoop_need {n : Nat} {g : FilmGoal} (hp : s.exposure.phase = .need g) (hg : s.film.galleyOpen = true)
    (h : s.film.position + g.ticks - s.film.deepest + s.desk.setup.trailer ≤ s.film.supply) :
    s.exposureLoop (n + 1) = (s.needPassed g).exposureLoop n := by
  refine State.exposureLoop_goes (by rw [hp]; rfl) ?_
  rw [State.exposurePhase, hp]
  dsimp only
  rw [State.needCheck, State.needFits, Film.need, hg, if_pos rfl, Nat.zero_add]
  exact if_pos (decide_eq_true h)

/-- A lead with the galley open is started as it is (R149). -/
theorem State.exposureLoop_leads {n k : Nat} {lead : LeadFor} (hp : s.exposure.phase = .openLead n lead) (hg : s.film.galleyOpen = true) :
    s.exposureLoop (k + 1) = (s.setEs (.startMove (.lead n (s.film.newFilm n) lead))).exposureLoop k := by
  refine State.exposureLoop_goes (by rw [hp]; rfl) ?_
  rw [State.exposurePhase, hp]
  exact if_pos hg

/-- A REVERSE within the reverse floor goes back by its amount (R151). -/
theorem State.reverse_within {n : Nat} (h : s.film.deepest - 12000 + n ≤ s.film.position) :
    s.reverse n = s.setEs (.startMove (.back n (s.film.position - n))) := by
  have notRaised : decide (s.film.position < s.film.floor + n) = false := decide_eq_false (Nat.not_lt.mpr h)
  have back : s.film.position - (s.film.position - n) = n := Nat.sub_sub_self ((Nat.le_add_left _ _).trans h)
  unfold State.reverse
  dsimp only
  rw [notRaised, if_neg Bool.false_ne_true, if_neg Bool.false_ne_true, back]

/-- The mount check of a record with exposable items waits while the Mount Table is not confirmed (R116). -/
theorem FontControl.check_waits {c : FontControl} {items : List Item} {fonts : List (Nat × Half)} (hc : c.confirmed = false)
    (h : ∃ it ∈ items, it.exposable = true ∧ ∃ f ∈ fonts, f.1 = it.font) : c.check items fonts = .wait := by
  obtain ⟨it, hit, hx, f, hf, heq⟩ := h
  have concerned : f ∈ fontsConcerned items fonts :=
    List.mem_filter.mpr ⟨hf, List.any_eq_true.mpr ⟨it, hit, by rw [hx, heq, beq_self_eq_true]; rfl⟩⟩
  have nonempty : (fontsConcerned items fonts).isEmpty = false := List.isEmpty_eq_false_iff.mpr (List.ne_nil_of_mem concerned)
  rw [FontControl.check, nonempty, hc]
  rfl

/-- A TEXT record whose mount check must wait for the ID scan (R116, R130). -/
theorem State.exposureLoop_mountWaits {n : Nat} {leading : Nat} {items : List Item} {fonts : List (Nat × Half)}
    (hp : s.exposure.phase = .mount) (hs : s.exposure.coverSeen = false) (hr : s.nextForFilm r)
    (hw : r.work = .text leading items fonts) (hc : s.fonts.confirmed = false)
    (h : ∃ it ∈ items, it.exposable = true ∧ ∃ f ∈ fonts, f.1 = it.font) : s.exposureLoop (n + 1) = s.setEs .mountWait := by
  refine (State.exposureLoop_goes (by rw [hp]; rfl) ?_).trans (State.exposureLoop_waits rfl)
  have its : s.filmFonts = fonts := by
    rw [State.filmFonts, State.filmRecord_of hr]
    dsimp only
    rw [hw]
  rw [State.exposurePhase, hp]
  dsimp only
  rw [State.mountStep, hs, Bool.and_false, Bool.false_and, if_neg Bool.false_ne_true, State.mountCheck,
    State.filmItems_text hr hw, its, FontControl.check_waits hc h]

end

/-- Settles O49, by what the record asks for. -/
theorem exposureSequencerTakesARecord : Obligations.ExposureSequencerTakesARecord := by
  intro s r hs hp hr fresh moving
  have takes := exec_exposureTakeRecord hs hp
  refine ⟨fun skipped => ⟨fun hpp => ?_, fun hf hpp => ?_⟩, fun hw hf => ?_⟩
  · rw [takes, State.takeFilmRecord_skips hr skipped, State.passFilm_stays hr hpp]
  · rw [takes, State.takeFilmRecord_skips hr skipped, State.passFilm_releases hr hf hpp]
  have taken := State.takeFilmRecord_takes hp hr hw hf
  let t := s.filmTaken .idle
  refine ⟨fun hk hpp => ?_, fun c hk hg hpp => ?_, fun c hk hg ht => ?_, fun n hk hn hg ht hfit => ?_,
    fun n hk hn ht hfloor => ?_, fun leading items fonts hk hg hfit hc hx => ?_⟩
  · rw [hk] at taken
    let u := (t.modFilm fun f => { f with mark := some f.position }).setEs .finish
    rw [takes, taken]
    exact congrArg Host.Outcome.next 
      (State.exposureLoop_finish (s := u) rfl hr (fun l i f h => by rw [hk] at h; exact Work.noConfusion h) hpp)
  · rw [hk] at taken
    have closed : t.cutRecord = t.setEs .finish := if_neg (by rw [show t.film.galleyOpen = false from hg]; exact Bool.false_ne_true)
    rw [takes, taken]
    dsimp only
    rw [closed]
    exact congrArg Host.Outcome.next
      (State.exposureLoop_finish (s := t.setEs .finish) rfl hr (fun l i f h => by rw [hk] at h; exact Work.noConfusion h) hpp)
  · intro n hn
    rw [hk] at taken
    have asked : t.cutRecord = t.setEs (.startMove (s.runOut .record)) := if_pos hg
    rw [takes, taken]
    dsimp only
    rw [asked]
    exact congrArg Host.Outcome.next (State.exposureLoop_moves (s := t.setEs (.startMove (s.runOut .record))) rfl hn ht)
  · rw [hk] at taken
    rw [takes, taken]
    exact congrArg Host.Outcome.next
      ((State.exposureLoop_need (s := t.setEs (.need (.advance n))) rfl hg hfit).trans
        ((State.exposureLoop_leads (s := t.setEs (.openLead n .advance)) rfl hg).trans
          (State.exposureLoop_moves (s := t.setEs (.startMove (.lead n (fresh n) .advance))) rfl hn ht)))
  · rw [hk] at taken
    have asked : t.leadRecord (.reverse n) = t.setEs (.startMove (.back n (s.film.position - n))) := State.reverse_within (s := t) hfloor
    rw [takes, taken]
    dsimp only
    rw [asked]
    exact congrArg Host.Outcome.next
      (State.exposureLoop_moves (s := t.setEs (.startMove (.back n (s.film.position - n)))) rfl hn ht)
  · rw [hk] at taken
    rw [takes, taken]
    exact congrArg Host.Outcome.next
      ((State.exposureLoop_need (s := t.setEs (.need (.text leading))) rfl hg hfit).trans
        (State.exposureLoop_mountWaits (s := t.setEs .mount) rfl rfl hr hk hc hx))

/-! ### Moves that end (R132, R133) -/

section
variable {s : State}

/-- The part with both homings behind it. -/
def State.homed (s : State) : State := s.modMotion fun m =>
  { m with carriage := { m.carriage with homing := .none }, turret := { m.turret with homing := .none } }

theorem State.homingEnds_waits (h : s.motion.carriage.homing = .moving ∨ s.motion.turret.homing = .moving) : s.homingEnds = s := if_pos h

theorem State.homingEnds_found (hc : s.motion.carriage.homing = .found) (ht : s.motion.turret.homing = .found) :
    s.homingEnds = s.homed.startCut := by
  unfold State.homingEnds
  dsimp only
  rw [hc, ht]
  rfl

theorem State.homingEnds_failed (hc : s.motion.carriage.homing ≠ .moving) (ht : s.motion.turret.homing ≠ .moving)
    (h : ¬ (s.motion.carriage.homing = .found ∧ s.motion.turret.homing = .found)) : s.homingEnds = s.homed.startFails .home :=
  (if_neg fun hm => hm.elim hc ht).trans (if_neg h)

theorem State.startCut_known (h : s.film.unknown = false) : s.startCut = s.startNotices := by
  rw [State.startCut, h]
  rfl

theorem State.startCut_unknown (h : s.film.unknown = true) : s.startCut = { s with
    desk := { s.desk with startStep := some .clearingCut }, film := { s.film with knife := true, knifeTimer := 500 } } := by
  rw [State.startCut, h]
  rfl

/-- POSITIONING goes on waiting while the turret still turns (R136). -/
theorem State.position_waits {it : Item} (hi : s.currentItem = some it) (hc : s.exposure.carriageAt = some it.tick)
    (ht : s.motion.turret.busy = true) (hp : s.exposure.phase = .positioning) : s.position = s := by
  have notPlaced : s.positioned it = false := by
    rw [State.positioned, ht, Bool.not_true, Bool.and_false]
    rfl
  have same : s.setEs .positioning = s := congrArg (fun p => ({ s with exposure := { s.exposure with phase := p } } : State)) hp.symm
  unfold State.position
  rw [hi]
  dsimp only
  rw [State.moveCarriage_there hc, State.moveTurret_busy ht, notPlaced]
  exact same

theorem exec_motionComplete_homing {k : Channel} {level : Bool} (hb : (s.motion.channel k).busy = true)
    (hh : (s.motion.channel k).homing = .moving) :
    exec (.motionComplete k level) s = .next ((s.modPins fun p => p.homeInput k level).homingMoveEnds k level) :=
  congrArg Host.Outcome.next ((if_pos hb).trans (if_pos hh))

theorem exec_motionComplete_moves {k : Channel} {level : Bool} (hb : (s.motion.channel k).busy = true)
    (hh : (s.motion.channel k).homing = .none) :
    exec (.motionComplete k level) s = .next ((s.modPins fun p => p.homeInput k level).moveCompletes k) := by
  refine congrArg Host.Outcome.next ((if_pos hb).trans (if_neg ?_))
  show ¬ (s.motion.channel k).homing = .moving
  rw [hh]
  exact Homing.noConfusion

end

/-- Settles O50: homing moves by what the other channel's homing has come to, and the carriage's and the film's moves. -/
theorem movesEndAtTheirTargets : Obligations.MovesEndAtTheirTargets := by
  intro s level
  refine ⟨fun k h => ?_, fun hb hh ho => ?_, fun hb hh ho => ?_, fun x hx hb hh => ?_,
    fun r leading items fonts it p hb hh htb hp hr hw hit hat htick => ?_,
    fun r e n fresh hb hh hp hr hw he hpp => ?_⟩
  · exact congrArg Host.Outcome.next (if_neg (by rw [h]; exact Bool.false_ne_true))
  · rw [exec_motionComplete_homing (k := .carriage) hb hh, State.homingMoveEnds]
    dsimp only
    rw [State.homingEnds_waits (.inr (by exact ho))]
    cases level <;> rfl
  · rw [exec_motionComplete_homing (k := .turret) hb hh, State.homingMoveEnds]
    dsimp only
    rw [State.homingEnds_waits (.inl (by exact ho))]
    cases level <;> rfl
  · intro other motion ended
    obtain ⟨u, hu, homed, mine, others⟩ : ∃ u : State, exec (.motionComplete x.1 level) s = .next u.homingEnds ∧ u.homed = ended
        ∧ (u.motion.channel x.1).homing = (if level then .found else .failed) ∧ (u.motion.channel x.2).homing = other := by
      refine ⟨_, exec_motionComplete_homing hb hh, ?_⟩
      simp only [List.mem_cons, List.not_mem_nil, or_false] at hx
      rcases hx with rfl | rfl
      · exact ⟨by cases level <;> rfl, rfl, rfl⟩
      · exact ⟨by cases level <;> rfl, rfl, rfl⟩
    have both (f : Homing → Prop) : (f (u.motion.channel x.1).homing ∧ f (u.motion.channel x.2).homing) ↔
        f u.motion.carriage.homing ∧ f u.motion.turret.homing := by
      simp only [List.mem_cons, List.not_mem_nil, or_false] at hx
      rcases hx with rfl | rfl
      · exact Iff.rfl
      · exact and_comm
    refine ⟨fun hl ho => ?_, fun h => ?_⟩
    · have found := (both (· = .found)).mp ⟨by rw [mine, hl]; rfl, by rw [others, ho]⟩
      have goes : exec (.motionComplete x.1 level) s = .next ended.startCut := by
        rw [hu, State.homingEnds_found found.1 found.2, homed]
      refine ⟨fun hu => ?_, fun hu hn => ?_⟩
      · rw [goes, State.startCut_unknown (s := ended) hu]
      · intro t
        rw [goes, State.startCut_known (s := ended) hu]
        exact congrArg Host.Outcome.next (State.startNotices_begin (s := ended) hn)
    · have mineEnded : (u.motion.channel x.1).homing ≠ .moving := by
        rw [mine]
        cases level <;> exact Homing.noConfusion
      have otherEnded : (u.motion.channel x.2).homing ≠ .moving := by
        rw [others]
        rcases h with h | ⟨-, h⟩ <;> rw [h] <;> exact Homing.noConfusion
      have notMoving := (both (· ≠ .moving)).mp ⟨mineEnded, otherEnded⟩
      have notFound : ¬ (u.motion.carriage.homing = .found ∧ u.motion.turret.homing = .found) := by
        intro hf
        obtain ⟨h1, h2⟩ := (both (· = .found)).mpr hf
        rcases h with h | ⟨hl, -⟩
        · exact Homing.noConfusion (h.symm.trans (others.symm.trans h2))
        · rw [mine, hl] at h1
          exact Homing.noConfusion h1
      rw [hu, State.homingEnds_failed notMoving.1 notMoving.2 notFound, homed]
      rfl
  · let v : State := { s with
      pins := { s.pins with home := level }
      motion := { s.motion with carriage := { s.motion.carriage with counter := 0, busy := false } }
      exposure := { s.exposure with carriageAt := some it.tick } }
    have target : (s.exposure.moved .carriage s.motion.carriage) = v.exposure := by
      have tick : (if s.motion.carriage.forward then p + s.motion.carriage.steps else p - s.motion.carriage.steps) = it.tick := by
        split at htick
        next hf => rw [if_pos hf, htick]
        next hf => rw [if_neg hf, htick, Nat.add_sub_cancel]
      rw [Exposure.moved, hat, Option.map_some, tick]
    have completes : (s.modPins fun p => p.homeInput .carriage level).moveCompletes .carriage = v.position := by
      have arrived : (((s.modPins fun p => p.homeInput .carriage level).modMotion fun m =>
          m.modChannel .carriage MotionChannel.ended).modExposure fun x => x.moved .carriage s.motion.carriage) = v :=
        congrArg (fun x => ({ v with exposure := x } : State)) target
      unfold State.moveCompletes
      dsimp only
      rw [show ((s.modPins fun p => p.homeInput .carriage level).motion.channel .carriage) = s.motion.carriage from rfl, arrived,
        show v.exposure.phase = .positioning from hp]
    rw [exec_motionComplete_moves (k := .carriage) hb hh, completes,
      State.position_waits (s := v) ((State.currentItem_text (s := v) hr hw).trans hit) rfl htb hp]
  · let v : State := { s with
      motion := { s.motion with film := { s.motion.film with counter := 0, busy := false } }
      exposure := { s.exposure with phase := .moved (.lead n fresh .advance) } }
    let w : State := { v with
      film := { s.film with position := s.film.position + n, deepest := max s.film.deepest (s.film.position + n) }
      flight := s.flight.set r.entry.val (some { e with depth := e.depth + BitVec.ofNat 32 fresh })
      exposure := { s.exposure with phase := .finish } }
    have completes : (s.modPins fun p => p.homeInput .film level).moveCompletes .film = v.exposureRun := by
      let y : State := { s with motion := { s.motion with film := { s.motion.film with counter := 0, busy := false } } }
      have arrived : (((s.modPins fun p => p.homeInput .film level).modMotion fun m => m.modChannel .film MotionChannel.ended).modExposure
          fun x => x.moved .film s.motion.film) = y := rfl
      unfold State.moveCompletes
      dsimp only
      rw [show ((s.modPins fun p => p.homeInput .film level).motion.channel .film) = s.motion.film from rfl, arrived,
        show y.exposure.phase = .moving (.lead n fresh .advance) from hp]
      rfl
    have moved : v.exposurePhase = w := by
      let f := v.modFilm fun f => { f with position := f.position + n, deepest := max f.deepest (f.position + n) }
      have told : f.reportDepth fresh = _ := (State.reportDepth_of (s := f) hr fresh).trans (State.modEntry_of_some (s := f) he _)
      show (f.reportDepth fresh).setEs .finish = w
      rw [told]
      rfl
    rw [exec_motionComplete_moves (k := .film) hb hh, completes]
    exact congrArg Host.Outcome.next ((State.exposureLoop_goes (s := v) rfl moved).trans
      (State.exposureLoop_finish (s := w) rfl hr (fun l i f h => by rw [hw] at h; exact Work.noConfusion h) hpp))

end Sys2Proof.Machine
end

section
/-! PROOFS. The printer: the bytes of a band, and dropping (spec 10, sections 11.4 and 11.6). -/

namespace Sys2Proof.Machine

/-! ### The bytes of a sending (R167) -/

/-- The row byte of every advance pair: 255 rows, or what is left of the advance (R167). -/
theorem advanceByte_eq {advance pair : Nat} (h : pair < advancePairs advance) :
    advanceByte advance pair = min 255 (advance - 255 * pair) := by
  unfold advanceByte advancePairs at *
  split <;> omega

theorem Band.printed_getLsbD (b : Band) (row : Fin 16) (c : Nat) :
    (b.printed row.val).getLsbD c = ((b.ink[row]).getLsbD c ^^ (b.invert[row]).getLsbD c) := by
  rw [Band.printed, dif_pos row.isLt, BitVec.getLsbD_xor]
  rfl

theorem one_shiftLeft_getLsbD (r q : Nat) (hq : q < 8) : (1#8 <<< r).getLsbD q = decide (r = q) := by
  rw [BitVec.getLsbD_shiftLeft, BitVec.getLsbD_one, Bool.eq_iff_iff]
  simp only [Bool.and_eq_true, decide_eq_true_iff, Bool.not_eq_true', decide_eq_false_iff_not]
  omega

/-- A byte gathered from a list of rows shows a row in its bit where the list has it. -/
theorem foldl_rows_getLsbD (f : Nat → Bool) (q : Nat) (hq : q < 8) (rows : List Nat) (acc : Byte) :
    (rows.foldl (fun acc r => if f r then acc ||| (1#8 <<< r) else acc) acc).getLsbD q =
      (acc.getLsbD q || (rows.contains q && f q)) := by
  induction rows generalizing acc with
  | nil => rw [List.foldl_nil, List.contains_nil, Bool.false_and, Bool.or_false]
  | cons r rows ih =>
    have one : (if f r then acc ||| (1#8 <<< r) else acc).getLsbD q = (acc.getLsbD q || (q == r && f q)) := by
      by_cases hr : r = q
      · subst hr
        cases hf : f r with
        | true => rw [if_pos rfl, BitVec.getLsbD_or, one_shiftLeft_getLsbD r r hq, decide_eq_true rfl, beq_self_eq_true, Bool.true_and]
        | false => rw [if_neg Bool.false_ne_true, beq_self_eq_true, Bool.and_false, Bool.or_false]
      · have other : (q == r) = false := beq_eq_false_iff_ne.mpr (Ne.symm hr)
        split
        · rw [BitVec.getLsbD_or, one_shiftLeft_getLsbD r q hq, decide_eq_false hr, other]
          rfl
        · rw [other, Bool.false_and, Bool.or_false]
    rw [List.foldl_cons, ih, one, List.contains_cons, Bool.or_assoc, ← Bool.and_or_distrib_right]

theorem Band.columnByte_getLsbD (b : Band) (column : Nat) (n : Nat) (q : Fin 8) (row : Fin 16) (h : row.val = 8 * (n % 2) + q.val) :
    (b.columnByte column (n % 2 == 1)).getLsbD q.val = ((b.ink[row]).getLsbD column ^^ (b.invert[row]).getLsbD column) := by
  have first : (if (n % 2 == 1) = true then 8 else 0) + q.val = row.val := by
    rw [h]
    rcases Nat.mod_two_eq_zero_or_one n with hn | hn <;> rw [hn] <;> rfl
  rw [Band.columnByte, foldl_rows_getLsbD (fun r => (b.printed ((if (n % 2 == 1) = true then 8 else 0) + r)).getLsbD column) q.val q.isLt,
    List.contains_iff_mem.mpr (List.mem_range.mpr q.isLt), first, Band.printed_getLsbD, Bool.true_and]
  rw [show (0 : Byte).getLsbD q.val = false from BitVec.getLsbD_zero, Bool.false_or]

section
variable {s : State} {x : Sending}

theorem Sending.rows_eq (x : Sending) : x.rows =
    if x.sent < 2 * advancePairs x.advance ∧ x.sent % 2 = 1 then min 255 (x.advance - 255 * (x.sent / 2)) else 0 := by
  unfold Sending.rows
  split
  next h => exact advanceByte_eq (by omega)
  next => rfl

/-- The byte of an advance pair. -/
theorem ProofRenderer.sendingByte_pair {p : ProofRenderer} (h : x.sent < 2 * advancePairs x.advance) : p.sendingByte x =
    if x.sent % 2 = 0 then 0xB2 else BitVec.ofNat 8 (min 255 (x.advance - 255 * (x.sent / 2))) := by
  rw [ProofRenderer.sendingByte]
  dsimp only
  rw [if_pos h, advanceByte_eq (by omega)]

theorem ProofRenderer.sendingByte_code {p : ProofRenderer} (h : x.sent = 2 * advancePairs x.advance) : p.sendingByte x = 0xB1 :=
  (if_neg (by omega)).trans (if_pos h)

theorem ProofRenderer.sendingByte_column {p : ProofRenderer} (h : 2 * advancePairs x.advance < x.sent) : p.sendingByte x =
    (p.printing x.band).columnByte
      (if x.mirror then 1151 - (x.sent - (2 * advancePairs x.advance + 1)) / 2 else (x.sent - (2 * advancePairs x.advance + 1)) / 2)
      ((x.sent - (2 * advancePairs x.advance + 1)) % 2 == 1) := by
  rw [← Nat.sub_sub]
  exact (if_neg (by omega)).trans (if_neg (by omega))

theorem exec_printerByte {busy : Bool} (hx : s.proof.sending = some x) (hb : s.pins.pbusy = false) (hf : s.pins.pfault = false) :
    exec (.printerByte busy) s = .next (s.byteTaken busy) := by
  refine if_pos ⟨by rw [hx]; rfl, ?_⟩
  rw [State.printerHolds, hb, hf]
  rfl

/-- A byte taken before the last one of its band: the next is driven (R167, R168). -/
theorem State.byteTaken_goes {busy : Bool} (hx : s.proof.sending = some x) (hf : s.pins.pfault = false) (h : x.sent + 1 < x.total) :
    s.byteTaken busy = { s with
      pins := { s.pins with pbusy := busy, busyLong := false }
      proof := { s.proof with
        printerRow := s.proof.printerRow + x.rows
        sending := some { x with sent := x.sent + 1 }
        port := s.proof.sendingByte { x with sent := x.sent + 1 }
        timer := if busy then x.timeout else 0 } } := by
  rw [State.byteTaken, hx]
  dsimp only
  rw [if_pos h]
  unfold State.driveByte State.printerHolds
  simp only [State.modProof, State.modPins, hf, Bool.or_false]
  rfl

/-- The last byte of a band taken with the other buffer FREE: nothing more is sent (R167). -/
theorem State.byteTaken_ends {busy : Bool} (hx : s.proof.sending = some x) (h : x.total ≤ x.sent + 1) (hd : s.proof.drawing = none)
    (ha : s.proof.bandA.state = .printing x.band) (hb : s.proof.bandB.state = .free) :
    s.byteTaken busy = { s with
      pins := { s.pins with pbusy := busy, busyLong := false }
      proof := { s.proof with printerRow := 16 * x.band + 16, bandA := Band.initial, sending := none, timer := 0 } } := by
  let t : State := { s with
    pins := { s.pins with pbusy := busy, busyLong := false }
    proof := { s.proof with printerRow := 16 * x.band + 16, bandA := Band.initial, sending := none, timer := 0 } }
  have freed : ProofRenderer.bandSent x.band s.proof = t.proof := by
    rw [ProofRenderer.bandSent, Band.sent, if_pos ha, Band.sent, if_neg (by rw [hb]; exact BandState.noConfusion)]
  have quiet : t.drawOn = t := by
    rw [State.drawOn, show t.proof.drawing = none from hd]
  rw [State.byteTaken, hx]
  dsimp only
  rw [if_neg (Nat.not_lt.mpr h)]
  have sent : (State.modProof (ProofRenderer.bandSent x.band) (s.modPins fun p => { p with pbusy := busy, busyLong := false })) = t :=
    congrArg (fun p => ({ t with proof := p } : State)) freed
  rw [sent, State.proofRun, quiet]
  exact State.sendNext_free rfl hb

end

/-- Settles O58: the byte taken by its place in the band, and the drop. -/
theorem printerBytesAndDrops : Obligations.PrinterBytesAndDrops := by
  intro s busy
  refine ⟨fun h => if_neg ?_, fun x hx hb hf => ?_, fun h => if_neg ?_, fun x hx hw ht hd => ?_⟩
  · rintro ⟨h1, h2⟩
    obtain ⟨hb, hf⟩ := Bool.or_eq_false_iff.mp h2
    rcases h with h | h | h
    · rw [h] at h1
      cases h1
    · exact absurd (hb.symm.trans h) Bool.false_ne_true
    · exact absurd (hf.symm.trans h) Bool.false_ne_true
  · intro pins pairs bytes rows band sent
    refine ⟨fun h => ⟨s.proof.sendingByte { x with sent := sent }, ?_, fun hp => ?_, fun hp => ?_, fun hp => ?_⟩,
      fun h hd ha hB => ?_⟩
    · rw [exec_printerByte hx hb hf, State.byteTaken_goes hx hf h, Sending.rows_eq]
      rfl
    · exact ProofRenderer.sendingByte_pair (x := { x with sent := sent }) hp
    · exact ProofRenderer.sendingByte_code (x := { x with sent := sent }) hp
    · intro n column q row hrow
      rw [ProofRenderer.sendingByte_column (x := { x with sent := sent }) hp]
      exact Band.columnByte_getLsbD band column n q row hrow
    · rw [exec_printerByte hx hb hf, State.byteTaken_ends hx h hd ha hB]
  · rintro ⟨hw, ht⟩
    rcases h with h | h
    · rw [State.printerWait, h] at hw
      cases hw
    · exact Nat.ne_of_gt ht h
  · have waits : s.printerWait = true := by
      rw [State.printerWait, State.printerHolds, hx, Bool.or_eq_true_iff.mpr hw]
      rfl
    let t := (s.modProof fun p => { p.abandon with dropping := true }).noticeSince .proof s
    have drawn : t.loseDrawing = t := by
      have : t.proof.drawing = none := by
        simp only [t, State.noticeSince_proof]
        exact hd
      rw [State.loseDrawing, this]
    have dropped : exec .proofDrop s = .next t.loseDrawing := if_pos ⟨waits, ht⟩
    have given : (s.modProof fun p => { p.abandon with dropping := true }) = { s with proof := { s.proof with
        printerRow := 16 * x.band + 16, bandA := Band.initial, bandB := Band.initial, sending := none, timer := 0
        dropping := true } } := by
      rw [State.modProof, ProofRenderer.abandon, hx]
    rw [dropped, drawn]
    exact congrArg (fun u : State => Host.Outcome.next (u.noticeSince .proof s)) given

end Sys2Proof.Machine
end

section
/-! PROOFS. The cells of the bands: what a drawing adds to the buffers that are OPEN (spec 10, sections 11.2 and 11.3). -/

namespace Sys2Proof.Machine

/-! ### Cells of a row -/

/-- The columns of a glyph's byte (R163). -/
theorem cells_getLsbD (b : Byte) {column c : Nat} (hc : c < 1152) :
    (cells b column).getLsbD c = true ↔ column ≤ c ∧ b.getLsbD (c - column) = true := by
  have inside : c - column < 1152 := Nat.lt_of_le_of_lt (Nat.sub_le _ _) hc
  simp [cells, BitVec.getLsbD_shiftLeft, BitVec.getLsbD_setWidth, hc, inside]

/-- The columns of a highlight's bar (R164). -/
theorem columnSpan_getLsbD {lo hi c : Nat} (hc : c < 1152) : (columnSpan lo hi).getLsbD c = true ↔ lo ≤ c ∧ c ≤ hi := by
  simp only [columnSpan, BitVec.getLsbD_ofNat, Nat.testBit_mul_two_pow, Nat.testBit_two_pow_sub_one, Bool.and_eq_true,
    decide_eq_true_iff]
  omega

theorem solidRow_getLsbD {c : Nat} (hc : c < 1152) : solidRow.getLsbD c = true := by
  rw [solidRow, BitVec.getLsbD_allOnes]
  exact decide_eq_true hc

/-- The least of a list is at most a number where some member is. -/
theorem foldl_min_le (x c : Nat) (rest : List Nat) : rest.foldl min c ≤ x ↔ ∃ y ∈ c :: rest, y ≤ x := by
  induction rest generalizing c with
  | nil => simp
  | cons d rest ih =>
    rw [List.foldl_cons, ih]
    simp [or_assoc]

/-- A number is at most the greatest of a list, and 7 more, where it is for some member. -/
theorem le_foldl_max_add (x c : Nat) (rest : List Nat) : x ≤ rest.foldl max c + 7 ↔ ∃ y ∈ c :: rest, x ≤ y + 7 := by
  induction rest generalizing c with
  | nil => simp
  | cons d rest ih =>
    have both : x ≤ max c d + 7 ↔ x ≤ c + 7 ∨ x ≤ d + 7 := by omega
    rw [List.foldl_cons, ih]
    simp [both, or_assoc]

theorem Plane.orRow_getLsbD (p : Plane) (row : Nat) (h : row < 16) (x : BitVec 1152) (q : Fin 16) (c : Nat) :
    ((p.orRow row x)[q]).getLsbD c = true ↔ (p[q]).getLsbD c = true ∨ (q.val = row ∧ x.getLsbD c = true) := by
  rw [Plane.orRow, dif_pos h]
  show ((p.set row (p[row] ||| x))[q.val]).getLsbD c = true ↔ (p[q.val]).getLsbD c = true ∨ _
  rw [Vector.getElem_set]
  split
  next heq =>
    subst heq
    rw [BitVec.getLsbD_or, Bool.or_eq_true]
    exact or_congr Iff.rfl (and_iff_right rfl).symm
  next hne => exact ⟨.inl, fun h => h.resolve_right fun h => hne h.1.symm⟩

/-! ### What a drawing adds -/

/-- A buffer after a drawing of ink and invert cells: one that is OPEN has them added in its rows, and any other stands. -/
def Band.Adds (a b : Band) (ink invert : Nat → Nat → Prop) : Prop :=
  b.state = a.state
    ∧ (∀ k, a.state = .opened k → ∀ (row : Fin 16) (c : Nat), c < 1152 →
      ((b.ink[row]).getLsbD c = true ↔ (a.ink[row]).getLsbD c = true ∨ ink (16 * k + row.val) c)
      ∧ ((b.invert[row]).getLsbD c = true ↔ (a.invert[row]).getLsbD c = true ∨ invert (16 * k + row.val) c))
    ∧ ((∀ k, a.state ≠ .opened k) → b = a)

/-- Two drawings of the same cells add the same. -/
theorem Band.Adds.congr {a b : Band} {I J V W : Nat → Nat → Prop} (h : a.Adds b I V) (hI : ∀ r c, c < 1152 → (I r c ↔ J r c))
    (hV : ∀ r c, c < 1152 → (V r c ↔ W r c)) : a.Adds b J W := by
  obtain ⟨state, cells, other⟩ := h
  refine ⟨state, fun k hk row c hc => ?_, other⟩
  obtain ⟨ink, invert⟩ := cells k hk row c hc
  exact ⟨ink.trans (or_congr Iff.rfl (hI _ _ hc)), invert.trans (or_congr Iff.rfl (hV _ _ hc))⟩

/-- One drawing after another adds the cells of both. -/
theorem Band.Adds.trans {a b d : Band} {I J V W : Nat → Nat → Prop} (h : a.Adds b I V) (h' : b.Adds d J W) :
    a.Adds d (fun r c => I r c ∨ J r c) (fun r c => V r c ∨ W r c) := by
  obtain ⟨state, cells, other⟩ := h
  obtain ⟨state', cells', other'⟩ := h'
  refine ⟨state'.trans state, fun k hk row c hc => ?_, fun hk => ?_⟩
  · obtain ⟨ink, invert⟩ := cells k hk row c hc
    obtain ⟨ink', invert'⟩ := cells' k (state.trans hk) row c hc
    exact ⟨by rw [ink', ink, or_assoc], by rw [invert', invert, or_assoc]⟩
  · rw [other' (state ▸ hk), other hk]

/-- A buffer that is not OPEN for the band of the cells stands. -/
theorem Band.adds_aside {a : Band} {k : Nat} {I V : Nat → Nat → Prop} (ha : a.state ≠ .opened k)
    (hI : ∀ r c, r / 16 ≠ k → ¬ I r c) (hV : ∀ r c, r / 16 ≠ k → ¬ V r c) : a.Adds a I V := by
  refine ⟨rfl, fun j hj row c _ => ?_, fun _ => rfl⟩
  have aside : (16 * j + row.val) / 16 ≠ k := by
    intro h
    have : j = k := by omega
    exact ha (this ▸ hj)
  exact ⟨(or_iff_left (hI _ _ aside)).symm, (or_iff_left (hV _ _ aside)).symm⟩

/-- The two buffers are not OPEN for one band. -/
def ProofRenderer.Apart (p : ProofRenderer) : Prop := ∀ k, p.bandA.state = .opened k → p.bandB.state ≠ .opened k

/-- The Proof Renderer after a drawing of ink and invert cells. -/
def ProofRenderer.Adds (p q : ProofRenderer) (ink invert : Nat → Nat → Prop) : Prop :=
  q = { p with bandA := q.bandA, bandB := q.bandB } ∧ p.bandA.Adds q.bandA ink invert ∧ p.bandB.Adds q.bandB ink invert

section
variable {p q t : ProofRenderer} {I J V W : Nat → Nat → Prop}

theorem ProofRenderer.Adds.congr (h : p.Adds q I V) (hI : ∀ r c, c < 1152 → (I r c ↔ J r c))
    (hV : ∀ r c, c < 1152 → (V r c ↔ W r c)) : p.Adds q J W := by
  obtain ⟨same, a, b⟩ := h
  exact ⟨same, a.congr hI hV, b.congr hI hV⟩

theorem ProofRenderer.Adds.trans (h : p.Adds q I V) (h' : q.Adds t J W) :
    p.Adds t (fun r c => I r c ∨ J r c) (fun r c => V r c ∨ W r c) := by
  obtain ⟨same, a, b⟩ := h
  obtain ⟨same', a', b'⟩ := h'
  refine ⟨?_, a.trans a', b.trans b'⟩
  rw [same', same]

theorem ProofRenderer.Adds.baseline (h : p.Adds q I V) : q.baseline = p.baseline := by rw [h.1]

theorem ProofRenderer.Adds.glyphs (h : p.Adds q I V) : q.glyphs = p.glyphs := by rw [h.1]

theorem ProofRenderer.Adds.apart (h : p.Adds q I V) (hp : p.Apart) : q.Apart := by
  obtain ⟨-, a, b⟩ := h
  intro k
  rw [a.1, b.1]
  exact hp k

/-- A drawing of nothing. -/
theorem ProofRenderer.adds_nothing (p : ProofRenderer) : p.Adds p (fun _ _ => False) (fun _ _ => False) :=
  have stands : ∀ a : Band, a.Adds a (fun _ _ => False) (fun _ _ => False) := fun _ =>
    ⟨rfl, fun _ _ _ _ _ => ⟨(or_iff_left id).symm, (or_iff_left id).symm⟩, fun _ => rfl⟩
  ⟨rfl, stands _, stands _⟩

theorem Band.isOpen_iff {b : Band} {k : Nat} : b.isOpen k = true ↔ b.state = .opened k := by
  rw [Band.isOpen, beq_iff_eq]

/-- Cells set in the buffer that is OPEN for their band. -/
theorem ProofRenderer.modOpen_adds {k : Nat} {f : Band → Band} (hp : p.Apart)
    (hf : ∀ b : Band, b.state = .opened k → b.Adds (f b) I V) (hI : ∀ r c, r / 16 ≠ k → ¬ I r c)
    (hV : ∀ r c, r / 16 ≠ k → ¬ V r c) : p.Adds (p.modOpen k f) I V := by
  unfold ProofRenderer.modOpen
  by_cases ha : p.bandA.state = .opened k
  · rw [if_pos (Band.isOpen_iff.mpr ha)]
    exact ⟨rfl, hf _ ha, Band.adds_aside (hp k ha) hI hV⟩
  · rw [if_neg (mt Band.isOpen_iff.mp ha)]
    by_cases hb : p.bandB.state = .opened k
    · rw [if_pos (Band.isOpen_iff.mpr hb)]
      exact ⟨rfl, Band.adds_aside ha hI hV, hf _ hb⟩
    · rw [if_neg (mt Band.isOpen_iff.mp hb)]
      exact ⟨rfl, Band.adds_aside ha hI hV, Band.adds_aside hb hI hV⟩

/-- A row lies in its band. -/
theorem row_of_band {k row r : Nat} (hk : row / 16 = k) : 16 * k + r = row ↔ r = row % 16 := by omega

theorem ProofRenderer.ink_adds (hp : p.Apart) (row : Nat) (x : BitVec 1152) :
    p.Adds (p.ink row x) (fun r c => r = row ∧ x.getLsbD c = true) fun _ _ => False := by
  refine ProofRenderer.modOpen_adds hp (fun b hb => ⟨rfl, fun k hk q c _ => ⟨?_, (or_iff_left id).symm⟩, fun h => absurd hb (h _)⟩)
    (fun r c hr h => hr (by rw [h.1])) fun _ _ _ => not_false
  have band : row / 16 = k := BandState.opened.inj (hb.symm.trans hk)
  exact (Plane.orRow_getLsbD b.ink (row % 16) (Nat.mod_lt _ (by decide)) x q c).trans
    (or_congr Iff.rfl (and_congr (row_of_band band).symm Iff.rfl))

theorem ProofRenderer.invert_adds (hp : p.Apart) (row : Nat) (x : BitVec 1152) :
    p.Adds (p.invert row x) (fun _ _ => False) fun r c => r = row ∧ x.getLsbD c = true := by
  refine ProofRenderer.modOpen_adds hp (fun b hb => ⟨rfl, fun k hk q c _ => ⟨(or_iff_left id).symm, ?_⟩, fun h => absurd hb (h _)⟩)
    (fun _ _ _ => not_false) fun r c hr h => hr (by rw [h.1])
  have band : row / 16 = k := BandState.opened.inj (hb.symm.trans hk)
  exact (Plane.orRow_getLsbD b.invert (row % 16) (Nat.mod_lt _ (by decide)) x q c).trans
    (or_congr Iff.rfl (and_congr (row_of_band band).symm Iff.rfl))

/-- A list drawn member by member adds the cells of each. -/
theorem ProofRenderer.foldl_adds {α : Type} {f : ProofRenderer → α → ProofRenderer} {base : Nat} {glyphs : List Byte}
    {I V : α → Nat → Nat → Prop}
    (hf : ∀ (p : ProofRenderer) (x : α), p.baseline = base → p.glyphs = glyphs → p.Apart → p.Adds (f p x) (I x) (V x))
    (l : List α) (hb : p.baseline = base) (hg : p.glyphs = glyphs) (hp : p.Apart) :
    p.Adds (l.foldl f p) (fun r c => ∃ x ∈ l, I x r c) fun r c => ∃ x ∈ l, V x r c := by
  induction l generalizing p with
  | nil => exact (ProofRenderer.adds_nothing p).congr (fun _ _ _ => by simp) fun _ _ _ => by simp
  | cons x l ih =>
    have first := hf p x hb hg hp
    have rest := ih (first.baseline.trans hb) (first.glyphs.trans hg) (first.apart hp)
    exact (first.trans rest).congr (fun _ _ _ => by simp) fun _ _ _ => by simp

/-- A glyph at the baseline (R163). -/
theorem ProofRenderer.drawGlyph_adds (hp : p.Apart) (x : Item) : p.Adds (p.drawGlyph x)
    (fun row c => ∃ j ∈ List.range 12, row = p.baseline - 9 + j
      ∧ (cells (byteAt p.glyphs (12 * x.code + j)) x.column).getLsbD c = true)
    fun _ _ => False := by
  have rows := ProofRenderer.foldl_adds (p := p) (base := p.baseline) (glyphs := p.glyphs)
    (f := fun q j => q.ink (q.baseline - 9 + j) (cells (byteAt q.glyphs (12 * x.code + j)) x.column))
    (I := fun j row c => row = p.baseline - 9 + j ∧ (cells (byteAt p.glyphs (12 * x.code + j)) x.column).getLsbD c = true)
    (V := fun _ _ _ => False)
    (fun q j hb hg hq => by rw [hb, hg]; exact ProofRenderer.ink_adds hq _ _) (List.range 12) rfl rfl hp
  exact rows.congr (fun _ _ _ => Iff.rfl) fun _ _ _ => by simp

/-- The bar of a highlight over its items (R164). -/
theorem ProofRenderer.highlight_adds (hp : p.Apart) (items : List Item) : p.Adds (p.highlight items) (fun _ _ => False)
    fun row c => p.baseline - 9 ≤ row ∧ row < p.baseline - 9 + 12
      ∧ (∃ x ∈ items, x.column ≤ c) ∧ ∃ x ∈ items, c ≤ x.column + 7 := by
  have columns (P : Nat → Prop) : (∃ y ∈ items.map Item.column, P y) ↔ ∃ x ∈ items, P x.column := by
    simp only [List.mem_map, exists_exists_and_eq_and]
  unfold ProofRenderer.highlight
  split
  next hnil =>
    refine p.adds_nothing.congr (fun _ _ _ => Iff.rfl) fun _ c _ => ?_
    rw [← columns fun y => y ≤ c, hnil]
    simp
  next column rest hcons =>
    have rows := ProofRenderer.foldl_adds (p := p) (base := p.baseline) (glyphs := p.glyphs)
      (f := fun q j => q.invert (q.baseline - 9 + j) (columnSpan (rest.foldl min column) (rest.foldl max column + 7)))
      (I := fun _ _ _ => False)
      (V := fun j row c => row = p.baseline - 9 + j
        ∧ (columnSpan (rest.foldl min column) (rest.foldl max column + 7)).getLsbD c = true)
      (fun q j hb _ hq => by rw [hb]; exact ProofRenderer.invert_adds hq _ _) (List.range 12) rfl rfl hp
    refine rows.congr (fun _ _ _ => by simp) fun row c hc => ?_
    simp only [columnSpan_getLsbD hc, foldl_min_le, le_foldl_max_add, List.mem_range]
    rw [← hcons, columns fun y => y ≤ c, columns fun y => c ≤ y + 7]
    constructor
    · rintro ⟨j, hj, hrow, hspan⟩
      exact ⟨by omega, by omega, hspan⟩
    · rintro ⟨hlo, hhi, hspan⟩
      exact ⟨row - (p.baseline - 9), by omega, by omega, hspan⟩

/-- The glyphs and the highlight of a record (R163, R164). -/
theorem ProofRenderer.drawText_adds (hp : p.Apart) (mask : Half) (items : List Item) (conditions : Half) :
    p.Adds (p.drawText mask items conditions)
      (fun row c => ∃ x ∈ items, ∃ j ∈ List.range 12, row = p.baseline - 9 + j
        ∧ (cells (byteAt p.glyphs (12 * x.code + j)) x.column).getLsbD c = true)
      fun row c => conditions &&& mask &&& 0x03FF ≠ 0 ∧ p.baseline - 9 ≤ row ∧ row < p.baseline - 9 + 12
        ∧ (∃ x ∈ items, x.column ≤ c) ∧ ∃ x ∈ items, c ≤ x.column + 7 := by
  have glyphs := ProofRenderer.foldl_adds (p := p) (base := p.baseline) (glyphs := p.glyphs) (f := ProofRenderer.drawGlyph)
    (I := fun x row c => ∃ j ∈ List.range 12, row = p.baseline - 9 + j
      ∧ (cells (byteAt p.glyphs (12 * x.code + j)) x.column).getLsbD c = true)
    (V := fun _ _ _ => False)
    (fun q x hb hg hq => by rw [← hb, ← hg]; exact ProofRenderer.drawGlyph_adds hq x) items rfl rfl hp
  unfold ProofRenderer.drawText
  dsimp only
  split
  next hc =>
    have bar := ProofRenderer.highlight_adds (glyphs.apart hp) items
    rw [glyphs.baseline] at bar
    refine (glyphs.trans bar).congr (fun _ _ _ => by simp) fun _ _ _ => ?_
    simp only [and_false, exists_false, false_or]
    exact ⟨fun h => ⟨hc, h⟩, fun h => h.2⟩
  next hc =>
    refine glyphs.congr (fun _ _ _ => Iff.rfl) fun _ _ _ => ?_
    simp only [and_false, exists_false, false_iff]
    exact fun h => hc h.1

/-- Solid rows below the baseline (R161, R162). -/
theorem ProofRenderer.solid_adds (hp : p.Apart) (below : List Nat) :
    p.Adds (below.foldl (fun p d => p.ink (p.baseline + d) solidRow) p) (fun row _ => ∃ d ∈ below, row = p.baseline + d)
      fun _ _ => False := by
  have rows := ProofRenderer.foldl_adds (p := p) (base := p.baseline) (glyphs := p.glyphs)
    (f := fun q d => q.ink (q.baseline + d) solidRow) (I := fun d row c => row = p.baseline + d ∧ solidRow.getLsbD c = true)
    (V := fun _ _ _ => False)
    (fun q d hb _ hq => by rw [hb]; exact ProofRenderer.ink_adds hq _ _) below rfl rfl hp
  refine rows.congr (fun row c hc => ?_) fun _ _ _ => by simp
  simp only [solidRow_getLsbD hc, and_true]

end

end Sys2Proof.Machine
end

section
/-! PROOFS. The Proof Renderer: records drawn into the bands, and the bands sent (spec 10, sections 11.1 to 11.4). -/

namespace Sys2Proof.Machine

/-! ### Buffers opened for a drawing (R165) -/

/-- A buffer just opened for a band. -/
def Band.cleared (k : Nat) : Band := ⟨.opened k, Plane.clear, Plane.clear⟩

/-- The Proof Renderer with two FREE buffers opened for a band, or for two. -/
def ProofRenderer.opens (p : ProofRenderer) (first last : Nat) : ProofRenderer := { p with
  bandA := Band.cleared first
  bandB := if last = first then p.bandB else Band.cleared last }

/-- A buffer's cells, for a band. -/
def Band.Inked (b : Band) (k : Nat) (ink invert : Nat → Nat → Prop) : Prop := ∀ (row : Fin 16) (c : Nat), c < 1152 →
  ((b.ink[row]).getLsbD c = true ↔ ink (16 * k + row.val) c) ∧ ((b.invert[row]).getLsbD c = true ↔ invert (16 * k + row.val) c)

section
variable {p q : ProofRenderer} {first last : Nat} {I V : Nat → Nat → Prop}

theorem ProofRenderer.openBands_two (ha : p.bandA.state = .free) (hb : p.bandB.state = .free) :
    ProofRenderer.openBands [first, last].eraseDups p = (true, p.opens first last) := by
  have openA : p.openBand first = some { p with bandA := Band.cleared first } := by
    have none : (p.bandA.isOpen first || p.bandB.isOpen first) = false := by
      rw [Band.isOpen, Band.isOpen, ha, hb]
      rfl
    rw [ProofRenderer.openBand, none, if_neg Bool.false_ne_true, if_pos ha]
    rfl
  by_cases h : last = first
  · have one : [first, last].eraseDups = [first] := by simp [List.eraseDups_cons, h]
    rw [one, ProofRenderer.openBands, openA, ProofRenderer.opens, if_pos h]
    rfl
  · have two : [first, last].eraseDups = [first, last] := by simp [List.eraseDups_cons, h]
    have openB : ProofRenderer.openBand last { p with bandA := Band.cleared first } = some (p.opens first last) := by
      have none : ((Band.cleared first).isOpen last || p.bandB.isOpen last) = false := by
        rw [Band.isOpen, Band.isOpen, hb, Bool.or_eq_false_iff, beq_eq_false_iff_ne, beq_eq_false_iff_ne]
        exact ⟨fun hc => h (BandState.opened.inj hc).symm, BandState.noConfusion⟩
      rw [ProofRenderer.openBand, none, if_neg Bool.false_ne_true, if_neg BandState.noConfusion, if_pos hb, ProofRenderer.opens, if_neg h]
      rfl
    rw [two, ProofRenderer.openBands, openA]
    dsimp only
    rw [ProofRenderer.openBands, openB]
    rfl

theorem ProofRenderer.opens_apart (hb : p.bandB.state = .free) : (p.opens first last).Apart := by
  intro k hk
  have hk : k = first := (BandState.opened.inj hk).symm
  show (if last = first then p.bandB else Band.cleared last).state ≠ _
  split
  · rw [hb]
    exact BandState.noConfusion
  next h => exact fun hc => h ((BandState.opened.inj hc).trans hk)

/-- A buffer opened and drawn into shows the drawing alone. -/
theorem Band.inked_of_adds {b : Band} {k : Nat} (h : (Band.cleared k).Adds b I V) : b.state = .opened k ∧ b.Inked k I V := by
  have clear : ∀ (row : Fin 16) (c : Nat), ((Plane.clear)[row]).getLsbD c = true ↔ False := fun row c => by
    rw [Plane.clear, Fin.getElem_fin, Vector.getElem_replicate]
    exact iff_of_false (by rw [show (0 : BitVec 1152).getLsbD c = false from BitVec.getLsbD_zero]; exact Bool.false_ne_true) id
  refine ⟨h.1, fun row c hc => ?_⟩
  obtain ⟨ink, invert⟩ := h.2.1 k rfl row c hc
  exact ⟨ink.trans (or_iff_right (clear row c).mp), invert.trans (or_iff_right (clear row c).mp)⟩

theorem ProofRenderer.opens_adds (hb : p.bandB.state = .free) (h : (p.opens first last).Adds q I V) :
    q = { p with bandA := q.bandA, bandB := q.bandB } ∧ q.bandA.state = .opened first ∧ q.bandA.Inked first I V
      ∧ if last = first then q.bandB = p.bandB else q.bandB.state = .opened last ∧ q.bandB.Inked last I V := by
  obtain ⟨same, a, b⟩ := h
  obtain ⟨state, cells⟩ := Band.inked_of_adds a
  refine ⟨same, state, cells, ?_⟩
  change Band.Adds (if last = first then p.bandB else Band.cleared last) q.bandB I V at b
  split
  next h =>
    rw [if_pos h] at b
    exact b.2.2 fun k => by rw [hb]; exact BandState.noConfusion
  next h =>
    rw [if_neg h] at b
    exact Band.inked_of_adds b

end

/-! ### Baseline moves (R166) -/

theorem Band.afterMove_other {b : Band} (h : ∀ k, b.state ≠ .opened k) (n : Nat) : b.afterMove n = b := by
  unfold Band.afterMove
  split
  next k hk => exact absurd hk (h k)
  next => rfl

theorem Band.afterMove_free {b : Band} (h : b.state = .free) (n : Nat) : b.afterMove n = b :=
  Band.afterMove_other (fun k => by rw [h]; exact BandState.noConfusion) n

theorem Band.afterMove_stays {b : Band} {k n : Nat} (h : b.state = .opened k) (hn : n ≤ 16 * k + 24) : b.afterMove n = b := by
  rw [Band.afterMove, h]
  exact if_neg (by omega)

/-- A buffer with an ink cell set is not blank. -/
theorem Band.blank_false {b : Band} {k : Nat} {I : Nat → Nat → Prop} (hb : b.Inked k I fun _ _ => False) {row : Nat}
    (hlo : 16 * k ≤ row) (hhi : row < 16 * k + 16) (hI : I row 0) : b.blank = false := by
  let q : Fin 16 := ⟨row - 16 * k, by omega⟩
  have at_row : 16 * k + q.val = row := Nat.add_sub_of_le hlo
  obtain ⟨ink, invert⟩ := hb q 0 (by decide)
  have set : (b.ink[q]).getLsbD 0 = true := ink.mpr (at_row.symm ▸ hI)
  have unset : (b.invert[q]).getLsbD 0 = false := Bool.eq_false_iff.mpr invert.mp
  refine Bool.eq_false_iff.mpr fun h => ?_
  have none : b.printed q.val = 0 := beq_iff_eq.mp (List.all_eq_true.mp h q.val (List.mem_range.mpr q.isLt))
  have shown := Band.printed_getLsbD b q 0
  rw [none, set, unset, show (0 : BitVec 1152).getLsbD 0 = false from BitVec.getLsbD_zero] at shown
  cases shown

theorem Band.afterMove_ready {b : Band} {k n : Nat} (h : b.state = .opened k) (hn : 16 * k + 24 < n) (hb : b.blank = false) :
    b.afterMove n = { b with state := .ready k } := by
  rw [Band.afterMove, h]
  dsimp only
  rw [if_pos (by omega), hb]
  rfl

/-! ### The run of a record (R161, R165) -/

theorem State.settle_modProof (s : State) (f : ProofRenderer → ProofRenderer) : (s.modProof f).settle = s.settle.modProof f := by
  have hm : (s.modProof f).markDue = s.markDue.modProof f := by
    unfold State.markDue
    rw [State.modProof_desk]
    split <;> rfl
  rw [State.settle, State.settle, hm]
  generalize s.markDue = t
  have hc : (t.modProof f).chosenDue = t.chosenDue := rfl
  unfold State.beginResult
  rw [hc, State.modProof_resultWrite, State.modProof_flight]
  split
  · rfl
  · split
    · rfl
    · split <;> rfl

section
variable {s : State} {r : Record}

theorem State.proofRecord_of (h : s.nextForProof r) : s.proofRecord = some r := h

/-- The proof cursor passes a record that the film cursor has not passed. -/
theorem State.passProof_stays (h : s.nextForProof r) (hf : s.store.film.passed = 0) :
    s.passProof = State.settle (s.modStore LineStore.proofPast) := by
  rw [State.passProof, State.proofRecord_of h]
  exact congrArg State.settle (State.releaseHead_stops (s := s.modStore LineStore.proofPast) (.inl hf))

theorem State.proofItems_text {leading : Nat} {items : List Item} {fonts : List (Nat × Half)} (h : s.nextForProof r)
    (hw : r.work = .text leading items fonts) : s.proofItems = (items.filter Item.exposable, r.conditions) := by
  rw [State.proofItems, State.proofRecord_of h]
  dsimp only
  rw [hw]

/-- One drawing whose bands are had. -/
theorem State.drawOps_goes {op : DrawOp} {rest : List DrawOp} {p : ProofRenderer} {u : State} (hr : s.desk.controller = .running)
    (ho : s.proof.openBands (bandsNeeded s op) = (true, p))
    (hu : State.drawOp { s with proof := { p with drawing := some ⟨op :: rest, false⟩ } } op = u) :
    s.drawOps (op :: rest) = u.drawOps rest := by
  rw [State.drawOps, ho]
  dsimp only
  have running : (State.modProof (fun _ => { p with drawing := some ⟨op :: rest, false⟩ }) s).desk.controller = .running := hr
  rw [running]
  exact congrArg (fun u : State => u.drawOps rest) hu

/-- A record all drawn is passed (R123). -/
theorem State.drawOps_done (h : s.nextForProof r) (hf : s.store.film.passed = 0) : s.drawOps [] =
    State.settle { s with store := s.store.proofPast, proof := { s.proof with drawing := none } } :=
  State.passProof_stays (s := s.modProof fun p => { p with drawing := none }) h hf

/-- Nothing is sent with no band READY. -/
theorem State.sendNext_none (h : s.proof.nextReady = none) : s.sendNext = s := by
  unfold State.sendNext
  rw [h]
  split <;> rfl

/-- Nothing more is sent while a band is. -/
theorem State.sendNext_busy (h : s.proof.sending ≠ none) : s.sendNext = s := if_neg fun hc => h hc.2

/-- A band is sent from its first byte on (R167, R168). -/
def State.sending (s : State) (k : Nat) (p : ProofRenderer) : ProofRenderer := { p with
  bandA := p.bandA.startPrinting k
  bandB := p.bandB.startPrinting k
  sending := some ⟨k, 16 * k - p.printerRow, 0, s.desk.setup.proofMirror, s.desk.setup.proofTimeout⟩
  port := if p.printerRow < 16 * k then 0xB2 else 0xB1
  timer := if s.pins.pbusy = true ∨ s.pins.pfault = true then s.desk.setup.proofTimeout else 0 }

theorem State.sendNext_sends {k : Nat} (hr : s.desk.controller = .running) (hs : s.proof.sending = none) (hk : s.proof.nextReady = some k) :
    s.sendNext = s.modProof (s.sending k) := by
  let x : Sending := ⟨k, 16 * k - s.proof.printerRow, 0, s.desk.setup.proofMirror, s.desk.setup.proofTimeout⟩
  have byte (p : ProofRenderer) : p.sendingByte x = if s.proof.printerRow < 16 * k then 0xB2 else 0xB1 := by
    have pairs : x.sent < 2 * advancePairs x.advance ↔ s.proof.printerRow < 16 * k := by
      show 0 < 2 * ((16 * k - s.proof.printerRow + 254) / 255) ↔ _
      omega
    split
    next h => exact ProofRenderer.sendingByte_pair (pairs.mpr h)
    next h => exact ProofRenderer.sendingByte_code (Nat.le_antisymm (Nat.zero_le _) (Nat.not_lt.mp (mt pairs.mp h)))
  have timer : (if s.printerHolds then x.timeout else 0) =
      if s.pins.pbusy = true ∨ s.pins.pfault = true then s.desk.setup.proofTimeout else 0 := by
    simp only [State.printerHolds, Bool.or_eq_true]
    rfl
  let p : ProofRenderer := { s.proof with
    bandA := s.proof.bandA.startPrinting k, bandB := s.proof.bandB.startPrinting k, sending := some x }
  rw [State.sendNext, if_pos ⟨hr, hs⟩, hk]
  exact congrArg₂ (fun port timer => ({ s with proof := { p with port := port, timer := timer } } : State)) (byte p) timer

/-- The record before the proof cursor is taken with what it draws. -/
theorem State.takeProofRecord_takes {ops : List DrawOp} (h : s.nextForProof r) (hw : r.withdrawn = false) (ht : r.toProof = true)
    (hd : s.proof.dropping = false)
    (hops : (if s.proof.separatorDue then separatorOps ++ [.separatorDone] else []) ++ drawOpsOf r.work = ops) :
    s.takeProofRecord =
      (State.drawOps ops { s with store := { s.store with proof := { s.store.proof with holding := true } } }).sendNext := by
  rw [State.takeProofRecord, State.proofRecord_of h]
  dsimp only
  rw [hw, ht, Bool.not_true, Bool.or_false, if_neg Bool.false_ne_true, hd, if_neg Bool.false_ne_true, hops]
  rfl

/-- The record before the proof cursor taken: what its drawings leave is settled, and the first READY band sent. -/
theorem State.takeProofRecord_draws {ops : List DrawOp} {u : State} {p : ProofRenderer} (h : s.nextForProof r) (hw : r.withdrawn = false)
    (ht : r.toProof = true) (hd : s.proof.dropping = false)
    (hops : (if s.proof.separatorDue then separatorOps ++ [.separatorDone] else []) ++ drawOpsOf r.work = ops)
    (hf : s.store.film.passed = 0)
    (hu : State.drawOps ops { s with store := { s.store with proof := { s.store.proof with holding := true } } } = u.drawOps [])
    (same : u = { s with store := { s.store with proof := { s.store.proof with holding := true } }, proof := u.proof })
    (hp : ({ u.proof with drawing := none } : ProofRenderer) = p) :
    s.takeProofRecord = (State.settle { s with store := s.store.proofPast, proof := p }).sendNext := by
  have done : u.drawOps [] = State.settle { s with store := s.store.proofPast, proof := p } := by
    rw [same, State.drawOps_done (r := r) (by exact h) (by exact hf), ← hp]
    rfl
  rw [State.takeProofRecord_takes h hw ht hd hops, hu, done]

theorem State.settled_quiet {p : ProofRenderer} {l : LineStore} (hp : p.nextReady = none) :
    (State.settle { s with store := l, proof := p }).sendNext = State.settle { s with store := l, proof := p } :=
  State.sendNext_none (by rw [State.settle_proof]; exact hp)

theorem State.settled_sends {p : ProofRenderer} {l : LineStore} {k : Nat} (hr : s.desk.controller = .running) (hs : p.sending = none)
    (hp : p.nextReady = some k) : (State.settle { s with store := l, proof := p }).sendNext =
      State.settle { s with store := l, proof := s.sending k p } := by
  let t : State := { s with store := l, proof := p }
  have sends := State.sendNext_sends (s := t.settle) (by rw [State.settle_desk]; exact hr) (by rw [State.settle_proof]; exact hs)
    (by rw [State.settle_proof]; exact hp)
  have same : t.settle.sending k = s.sending k := by
    unfold State.sending
    rw [State.settle_desk, State.settle_pins]
  rw [sends, same, ← State.settle_modProof]
  rfl

theorem exec_proofTakeRecord (ho : s.proofsOn = true) (hr : s.desk.controller = .running) (hd : s.proof.drawing = none)
    (hh : s.store.proof.holding = false) : exec .proofTakeRecord s = .next s.takeProofRecord := if_pos ⟨hr, ho, hd, hh⟩

theorem State.takeProofRecord_skips (h : s.nextForProof r) (hw : r.withdrawn = true ∨ r.toProof = false) :
    s.takeProofRecord = s.passProof := by
  rw [State.takeProofRecord, State.proofRecord_of h]
  refine if_pos ?_
  rcases hw with hw | hw <;> rw [hw]
  · exact Bool.true_or _
  · exact Bool.or_true _

/-- A record passed while dropping (R171). -/
theorem State.takeProofRecord_drops {e : Entry} (h : s.nextForProof r) (hw : r.withdrawn = false) (ht : r.toProof = true)
    (hd : s.proof.dropping = true) (he : s.flight[r.entry] = some e) : s.takeProofRecord =
      State.passProof { s with flight := s.flight.set r.entry.val (some (e.report r.lineNumber 0x2000)) } := by
  have told : s.reportProofLost = s.report r.entry r.lineNumber Cond.proofLost := by
    rw [State.reportProofLost, State.proofRecord_of h]
  rw [State.takeProofRecord, State.proofRecord_of h]
  dsimp only
  rw [hw, ht, Bool.not_true, Bool.or_false, if_neg Bool.false_ne_true, hd, if_pos rfl, told, State.report_eq he]
  rfl

end

/-! ### Drawings (R161 to R164) -/

section
variable {s : State} {rest : List DrawOp}

/-- Solid rows drawn into the bands they lie in. -/
theorem State.drawOps_solid (hr : s.desk.controller = .running) (ha : s.proof.bandA.state = .free) (hb : s.proof.bandB.state = .free)
    {below : List Nat} {first last : Nat}
    (hbands : (below.map fun d => (s.proof.baseline + d) / 16).eraseDups = [first, last].eraseDups) :
    ∃ (d : Option Drawing) (A B : Band),
      s.drawOps (.solid below :: rest) = State.drawOps rest { s with proof := { s.proof with drawing := d, bandA := A, bandB := B } }
      ∧ A.state = .opened first ∧ A.Inked first (fun row _ => ∃ d ∈ below, row = s.proof.baseline + d) (fun _ _ => False)
      ∧ if last = first then B = s.proof.bandB
        else B.state = .opened last ∧ B.Inked last (fun row _ => ∃ d ∈ below, row = s.proof.baseline + d) fun _ _ => False := by
  let p : ProofRenderer := { s.proof with drawing := some ⟨.solid below :: rest, false⟩ }
  obtain ⟨same, state, cells, other⟩ := ProofRenderer.opens_adds (p := p) hb
    (ProofRenderer.solid_adds (ProofRenderer.opens_apart (p := p) (first := first) (last := last) hb) below)
  have bands : s.proof.openBands (bandsNeeded s (.solid below)) = (true, s.proof.opens first last) := by
    rw [bandsNeeded, hbands]
    exact ProofRenderer.openBands_two ha hb
  refine ⟨p.drawing, _, _, State.drawOps_goes hr bands ?_, state, cells, other⟩
  exact congrArg (fun q => ({ s with proof := q } : State)) same

/-- A rise of the baseline moves each buffer (R166). -/
theorem State.drawOps_rise (hr : s.desk.controller = .running) (n : Nat) : ∃ d : Option Drawing, s.drawOps (.rise n :: rest) =
    State.drawOps rest { s with proof := { s.proof with
      drawing := d
      baseline := s.proof.baseline + n
      bandA := s.proof.bandA.afterMove (s.proof.baseline + n)
      bandB := s.proof.bandB.afterMove (s.proof.baseline + n) } } :=
  ⟨some ⟨.rise n :: rest, false⟩, State.drawOps_goes hr rfl rfl⟩

/-- A rise with both buffers FREE. -/
theorem State.drawOps_rise_free (hr : s.desk.controller = .running) (ha : s.proof.bandA.state = .free) (hb : s.proof.bandB.state = .free)
    (n : Nat) : ∃ d : Option Drawing, s.drawOps (.rise n :: rest) =
      State.drawOps rest { s with proof := { s.proof with drawing := d, baseline := s.proof.baseline + n } } := by
  obtain ⟨d, h⟩ := State.drawOps_rise (rest := rest) hr n
  rw [Band.afterMove_free ha, Band.afterMove_free hb] at h
  exact ⟨d, h⟩

/-- A separator: one solid row, and a rise of 14 (R161). -/
theorem State.drawOps_separator (hr : s.desk.controller = .running) (ha : s.proof.bandA.state = .free) (hb : s.proof.bandB.state = .free) :
    ∃ (d : Option Drawing) (A : Band), s.drawOps (separatorOps ++ rest) =
        State.drawOps rest { s with proof := { s.proof with drawing := d, baseline := s.proof.baseline + 14, bandA := A } }
      ∧ A.Inked ((s.proof.baseline + 3) / 16) (fun row _ => row = s.proof.baseline + 3) (fun _ _ => False)
      ∧ A.state = if 16 * ((s.proof.baseline + 3) / 16) + 24 < s.proof.baseline + 14 then .ready ((s.proof.baseline + 3) / 16)
        else .opened ((s.proof.baseline + 3) / 16) := by
  obtain ⟨d, A, B, run, state, cells, other⟩ := State.drawOps_solid (rest := .rise 14 :: rest) hr ha hb (below := [3])
    (first := (s.proof.baseline + 3) / 16) (last := (s.proof.baseline + 3) / 16) (by simp [List.eraseDups_cons])
  rw [if_pos rfl] at other
  subst other
  obtain ⟨d', moved⟩ := State.drawOps_rise (s := { s with proof := { s.proof with drawing := d, bandA := A } }) (rest := rest) hr 14
  have inked : A.Inked ((s.proof.baseline + 3) / 16) (fun row _ => row = s.proof.baseline + 3) fun _ _ => False := fun row c hc =>
    ⟨(cells row c hc).1.trans (by simp), (cells row c hc).2⟩
  have standsB : s.proof.bandB.afterMove (s.proof.baseline + 14) = s.proof.bandB := Band.afterMove_free hb _
  refine ⟨d', A.afterMove (s.proof.baseline + 14), (run.trans moved).trans ?_, ?_⟩
  · dsimp only
    rw [standsB]
  · by_cases h : 16 * ((s.proof.baseline + 3) / 16) + 24 < s.proof.baseline + 14
    · have blank := Band.blank_false inked (row := s.proof.baseline + 3) (by omega) (by omega) rfl
      rw [Band.afterMove_ready state h blank, if_pos h]
      exact ⟨inked, rfl⟩
    · rw [Band.afterMove_stays state (Nat.not_lt.mp h), if_neg h]
      exact ⟨inked, state⟩

/-- The bands of a cut's three rows. -/
theorem cutBands (base : Nat) :
    ([3, 4, 5].map fun d => (base + d) / 16).eraseDups = [(base + 3) / 16, (base + 5) / 16].eraseDups := by
  have mid : (base + 4) / 16 = (base + 3) / 16 ∨ (base + 4) / 16 = (base + 5) / 16 := by omega
  rcases mid with h | h
  · simp [List.eraseDups_cons, h]
  · by_cases hs : (base + 5) / 16 = (base + 3) / 16 <;> simp [List.eraseDups_cons, h, hs]

/-- A cut: three solid rows, and a rise to a row 12 of a band (R162). -/
theorem State.drawOps_cut (hr : s.desk.controller = .running) (ha : s.proof.bandA.state = .free) (hb : s.proof.bandB.state = .free) :
    let base := s.proof.baseline
    let first := (base + 3) / 16
    let last := (base + 5) / 16
    let ink := fun row (_ : Nat) => base + 3 ≤ row ∧ row ≤ base + 5
    ∃ (d : Option Drawing) (A B : Band), s.drawOps [.solid [3, 4, 5], .cutRise] = State.drawOps [] { s with proof := { s.proof with
        drawing := d, baseline := base + 48 + (28 - (base + 48) % 16) % 16, bandA := A, bandB := B } }
      ∧ A.state = .ready first ∧ A.Inked first ink (fun _ _ => False)
      ∧ if last = first then B = s.proof.bandB else B.state = .ready last ∧ B.Inked last ink fun _ _ => False := by
  intro base first last ink
  obtain ⟨d, A, B, run, state, cells, other⟩ := State.drawOps_solid (rest := [.cutRise]) hr ha hb (cutBands s.proof.baseline)
  have rows (row c : Nat) : (∃ d ∈ [3, 4, 5], row = base + d) ↔ ink row c := by
    simp only [List.mem_cons, List.not_mem_nil, or_false, exists_eq_or_imp, exists_eq_left, ink]
    omega
  have inked {b : Band} {k : Nat} (h : b.Inked k (fun row _ => ∃ d ∈ [3, 4, 5], row = base + d) fun _ _ => False) :
      b.Inked k ink fun _ _ => False := fun row c hc => ⟨(h row c hc).1.trans (rows _ c), (h row c hc).2⟩
  let new := base + 48 + (28 - (base + 48) % 16) % 16
  have risen : base + cutRise base = new := (Nat.add_assoc _ _ _).symm
  have blankA := Band.blank_false (inked cells) (row := base + 3) (by omega) (by omega) ⟨by omega, by omega⟩
  have readyA : A.afterMove new = { A with state := .ready first } := Band.afterMove_ready state (by omega) blankA
  let t : State := { s with proof := { s.proof with drawing := d, bandA := A, bandB := B } }
  have moved : t.drawOps [.cutRise] = State.drawOps [] { s with proof := { s.proof with
      drawing := some ⟨[.cutRise], false⟩, baseline := base + cutRise base
      bandA := A.afterMove (base + cutRise base), bandB := B.afterMove (base + cutRise base) } } := State.drawOps_goes (s := t) hr rfl rfl
  rw [risen, readyA] at moved
  refine ⟨some ⟨[.cutRise], false⟩, _, B.afterMove new, run.trans moved, rfl, inked cells, ?_⟩
  split
  next h =>
    rw [if_pos h] at other
    rw [other, Band.afterMove_free hb]
  next h =>
    rw [if_neg h] at other
    have two : last = first + 1 := by omega
    have blankB := Band.blank_false (inked other.2) (row := base + 5) (by omega) (by omega) ⟨by omega, by omega⟩
    rw [Band.afterMove_ready other.1 (by omega) blankB]
    exact ⟨rfl, inked other.2⟩

/-- The glyphs of a record with no exposable item. -/
theorem State.drawOps_glyphs_none (hr : s.desk.controller = .running) (hi : s.proofItems.1 = []) : ∃ d : Option Drawing,
    s.drawOps (.glyphs :: rest) = State.drawOps rest { s with proof := { s.proof with drawing := d } } := by
  have bands : bandsNeeded s .glyphs = [] := by
    rw [bandsNeeded, hi]
    rfl
  have nothing (mask conditions : Half) (p : ProofRenderer) : p.drawText mask [] conditions = p := by
    unfold ProofRenderer.drawText
    split <;> rfl
  refine ⟨some ⟨.glyphs :: rest, false⟩, State.drawOps_goes (p := s.proof) hr (by rw [bands]; rfl) ?_⟩
  have items : State.proofItems { s with proof := { s.proof with drawing := some ⟨.glyphs :: rest, false⟩ } } = s.proofItems := rfl
  rw [State.drawOp, items, hi, State.modProof, nothing]

/-- The glyphs and the highlight of a record, drawn into the bands of its rows. -/
theorem State.drawOps_glyphs (hr : s.desk.controller = .running) (ha : s.proof.bandA.state = .free) (hb : s.proof.bandB.state = .free)
    {items : List Item} {conditions : Half} (hi : s.proofItems = (items, conditions)) (hne : items ≠ []) :
    let b := s.proof.baseline
    let first := (b - 9) / 16
    let last := (b + 2) / 16
    let ink := fun row c => ∃ x ∈ items, ∃ j ∈ List.range 12, row = b - 9 + j
      ∧ (cells (byteAt s.proof.glyphs (12 * x.code + j)) x.column).getLsbD c = true
    let invert := fun row c => conditions &&& s.desk.setup.highlightMask &&& 0x03FF ≠ 0 ∧ b - 9 ≤ row ∧ row < b - 9 + 12
      ∧ (∃ x ∈ items, x.column ≤ c) ∧ ∃ x ∈ items, c ≤ x.column + 7
    ∃ (d : Option Drawing) (A B : Band),
      s.drawOps (.glyphs :: rest) = State.drawOps rest { s with proof := { s.proof with drawing := d, bandA := A, bandB := B } }
      ∧ A.state = .opened first ∧ A.Inked first ink invert
      ∧ if last = first then B = s.proof.bandB else B.state = .opened last ∧ B.Inked last ink invert := by
  intro b first last ink invert
  let p : ProofRenderer := { s.proof with drawing := some ⟨.glyphs :: rest, false⟩ }
  obtain ⟨same, state, cells, other⟩ := ProofRenderer.opens_adds (p := p) hb
    (ProofRenderer.drawText_adds (ProofRenderer.opens_apart (p := p) (first := first) (last := last) hb)
      s.desk.setup.highlightMask items conditions)
  have bands : s.proof.openBands (bandsNeeded s .glyphs) = (true, s.proof.opens first last) := by
    rw [bandsNeeded, hi, List.isEmpty_eq_false_iff.mpr hne]
    exact ProofRenderer.openBands_two ha hb
  refine ⟨p.drawing, _, _, State.drawOps_goes hr bands ?_, state, cells, other⟩
  have its : State.proofItems { s with proof := { s.proof.opens first last with drawing := some ⟨.glyphs :: rest, false⟩ } } =
    s.proofItems := rfl
  rw [State.drawOp, its, hi]
  exact congrArg (fun q => ({ s with proof := q } : State)) same

end

end Sys2Proof.Machine
end

section
/-! PROOFS. A record taken by the Proof Renderer (spec 10, sections 11.1 to 11.4). -/

namespace Sys2Proof.Machine

section
variable {p : ProofRenderer}

theorem ProofRenderer.nextReady_none (ha : ∀ k, p.bandA.state ≠ .ready k) (hb : ∀ k, p.bandB.state ≠ .ready k) :
    p.nextReady = none := by
  have bands : p.readyBands = [] := by
    refine List.filterMap_eq_nil_iff.mpr fun b hm => ?_
    have notReady : ∀ k, b.state ≠ .ready k := by
      simp only [List.mem_cons, List.not_mem_nil, or_false] at hm
      rcases hm with rfl | rfl
      · exact ha
      · exact hb
    split
    next k hk => exact absurd hk (notReady k)
    next => rfl
  rw [ProofRenderer.nextReady, bands]

theorem ProofRenderer.nextReady_first {first : Nat} (ha : p.bandA.state = .ready first)
    (hb : p.bandB.state = .free ∨ ∃ last, p.bandB.state = .ready last ∧ first ≤ last) : p.nextReady = some first := by
  rcases hb with hb | ⟨last, hb, hle⟩
  · have bands : p.readyBands = [first] := by simp [ProofRenderer.readyBands, ha, hb]
    rw [ProofRenderer.nextReady, bands]
    rfl
  · have bands : p.readyBands = [first, last] := by simp [ProofRenderer.readyBands, ha, hb]
    rw [ProofRenderer.nextReady, bands]
    exact congrArg some (Nat.min_eq_left hle)

end

theorem Band.startPrinting_ready {b : Band} {k : Nat} (h : b.state = .ready k) :
    b.startPrinting k = { b with state := .printing k } := if_pos h

theorem Band.startPrinting_other {b : Band} {k : Nat} (h : b.state ≠ .ready k) : b.startPrinting k = b := if_neg h

/-- The cells of an item's glyph, as the bits of the glyph store's bytes (R163). -/
theorem glyph_cells (glyphs : List Byte) (x : Item) (b row : Nat) {c : Nat} (hc : c < 1152) :
    (∃ j ∈ List.range 12, row = b - 9 + j ∧ (cells (byteAt glyphs (12 * x.code + j)) x.column).getLsbD c = true) ↔
      x.tick / 16 ≤ c ∧ ∃ j < 12, row = b - 9 + j ∧ (byteAt glyphs (12 * x.code + j)).getLsbD (c - x.tick / 16) = true := by
  simp only [cells_getLsbD _ hc, List.mem_range]
  constructor
  · rintro ⟨j, hj, hrow, hlo, hbit⟩
    exact ⟨hlo, j, hj, hrow, hbit⟩
  · rintro ⟨hlo, j, hj, hrow, hbit⟩
    exact ⟨j, hj, hrow, hlo, hbit⟩

section
variable {s : State} {r : Record}

/-- A record in hand with no buffer FREE for its cut (R165). -/
theorem State.takeProofRecord_waits {c : CutClass} {j k : Nat} (h : s.nextForProof r) (hw : r.withdrawn = false) (ht : r.toProof = true)
    (hd : s.proof.dropping = false) (hsep : s.proof.separatorDue = false) (hk : r.work = .cut c) (hs : s.proof.sending ≠ none)
    (ha : s.proof.bandA.state = .printing j) (hb : s.proof.bandB.state = .ready k) : s.takeProofRecord = { s with
      store := { s.store with proof := { s.store.proof with holding := true } }
      proof := { s.proof with drawing := some ⟨[.solid [3, 4, 5], .cutRise], false⟩ } } := by
  let t : State := { s with store := { s.store with proof := { s.store.proof with holding := true } } }
  have none (n : Nat) : s.proof.openBand n = none := by
    have notOpen : (s.proof.bandA.isOpen n || s.proof.bandB.isOpen n) = false := by
      rw [Band.isOpen, Band.isOpen, ha, hb]
      rfl
    rw [ProofRenderer.openBand, notOpen, ha, hb]
    rfl
  have waits : s.proof.openBands (bandsNeeded t (.solid [3, 4, 5])) = (false, s.proof) := by
    have bands : bandsNeeded t (.solid [3, 4, 5]) = [(s.proof.baseline + 3) / 16, (s.proof.baseline + 5) / 16].eraseDups := cutBands _
    rw [bands, List.eraseDups_cons, ProofRenderer.openBands, none]
  have drawn : t.drawOps [.solid [3, 4, 5], .cutRise] =
      { t with proof := { s.proof with drawing := some ⟨[.solid [3, 4, 5], .cutRise], false⟩ } } := by
    rw [State.drawOps, show t.proof.openBands (bandsNeeded t (.solid [3, 4, 5])) = (false, s.proof) from waits]
    rfl
  have hops : (if s.proof.separatorDue then separatorOps ++ [.separatorDone] else []) ++ drawOpsOf r.work =
      [.solid [3, 4, 5], .cutRise] := by
    rw [hsep, hk]
    rfl
  rw [State.takeProofRecord_takes h hw ht hd hops]
  exact (congrArg State.sendNext drawn).trans (State.sendNext_busy hs)

end

/-- Settles O57: the record by its kind, with the separator that is due before it. -/
theorem proofRendererTakesARecord : Obligations.ProofRendererTakesARecord := by
  intro s r
  refine ⟨fun ho => if_neg fun h => absurd (ho.symm.trans h.2.1) Bool.false_ne_true, fun ho hrun hdr hh hr hf => ?_⟩
  have takes := exec_proofTakeRecord ho hrun hdr hh
  intro became
  refine ⟨fun h => ?_, fun hw hto => ⟨fun e hd he => ?_, fun hd hs ha hb => ?_, fun c j k hd hsep hk hs ha hb => ?_⟩⟩
  · show exec .proofTakeRecord s = _
    rw [takes, State.takeProofRecord_skips hr h, State.passProof_stays hr hf]
    rfl
  · rw [takes, State.takeProofRecord_drops hr hw hto hd he, State.passProof_stays (r := r) (by exact hr) (by exact hf)]
    rfl
  · intro base inked sends
    let t : State := { s with store := { s.store with proof := { s.store.proof with holding := true } } }
    -- The run of a drawing that ends in `p`, with nothing READY and with band `k` first READY.
    have ends {ops : List DrawOp} {q p : ProofRenderer}
        (hops : (if s.proof.separatorDue then separatorOps ++ [.separatorDone] else []) ++ drawOpsOf r.work = ops)
        (hrn : t.drawOps ops = State.drawOps [] { t with proof := q }) (hp : ({ q with drawing := none } : ProofRenderer) = p) :
        exec .proofTakeRecord s = .next (State.settle { s with store := s.store.proofPast, proof := p }).sendNext := by
      rw [takes, State.takeProofRecord_draws (u := { t with proof := q }) hr hw hto hd hops hf hrn rfl hp]
    have quiet {ops : List DrawOp} {q p : ProofRenderer}
        (hops : (if s.proof.separatorDue then separatorOps ++ [.separatorDone] else []) ++ drawOpsOf r.work = ops)
        (hrn : t.drawOps ops = State.drawOps [] { t with proof := q }) (hp : ({ q with drawing := none } : ProofRenderer) = p)
        (hn : p.nextReady = none) : became p :=
      (ends hops hrn hp).trans (congrArg Host.Outcome.next (State.settled_quiet hn))
    have sent {ops : List DrawOp} {q p : ProofRenderer} {k : Nat}
        (hops : (if s.proof.separatorDue then separatorOps ++ [.separatorDone] else []) ++ drawOpsOf r.work = ops)
        (hrn : t.drawOps ops = State.drawOps [] { t with proof := q }) (hp : ({ q with drawing := none } : ProofRenderer) = p)
        (hn : p.nextReady = some k) (hps : p.sending = none) : became (s.sending k p) :=
      (ends hops hrn hp).trans (congrArg Host.Outcome.next (State.settled_sends hrun hps hn))
    have undrawn {x : ProofRenderer} (hx : x.drawing = s.proof.drawing) : ({ x with drawing := none } : ProofRenderer) = x := by
      have : x.drawing = none := hx.trans hdr
      exact congrArg (fun d => ({ x with drawing := d } : ProofRenderer)) this.symm
    have notReady {b : Band} (h : b.state = .free ∨ ∃ k, b.state = .opened k) (k : Nat) : b.state ≠ .ready k := by
      rcases h with h | ⟨k, h⟩ <;> rw [h] <;> exact BandState.noConfusion
    refine ⟨fun n hsep hk => ?_, fun leading items fonts hsep hk => ?_, fun h => ?_, fun c hsep hk => ?_⟩
    · have hops : (if s.proof.separatorDue then separatorOps ++ [.separatorDone] else []) ++ drawOpsOf r.work =
          [.rise ((n + 8) / 16)] := by
        rw [hsep, hk]
        rfl
      obtain ⟨d, run⟩ := State.drawOps_rise_free (s := t) (rest := []) hrun ha hb ((n + 8) / 16)
      exact quiet hops run (undrawn (x := { s.proof with baseline := base + (n + 8) / 16 }) rfl)
        (ProofRenderer.nextReady_none (notReady (.inl ha)) (notReady (.inl hb)))
    · intro b first last ink invert
      have hops : (if s.proof.separatorDue then separatorOps ++ [.separatorDone] else []) ++ drawOpsOf r.work =
          [.rise ((leading + 8) / 16), .glyphs] := by
        rw [hsep, hk]
        rfl
      obtain ⟨d, risen⟩ := State.drawOps_rise_free (s := t) (rest := [.glyphs]) hrun ha hb ((leading + 8) / 16)
      let u : State := { t with proof := { s.proof with drawing := d, baseline := b } }
      have its : u.proofItems = (items.filter Item.exposable, r.conditions) := State.proofItems_text (s := u) hr hk
      refine ⟨fun hx => ?_, fun hx => ?_⟩
      · have none : u.proofItems.1 = [] := by
          rw [its]
          exact List.filter_eq_nil_iff.mpr fun x hm => by rw [hx x hm]; exact Bool.false_ne_true
        obtain ⟨d', run⟩ := State.drawOps_glyphs_none (s := u) (rest := []) hrun none
        exact quiet hops (risen.trans run) (undrawn (x := { s.proof with baseline := b }) rfl)
          (ProofRenderer.nextReady_none (notReady (.inl ha)) (notReady (.inl hb)))
      · have some : items.filter Item.exposable ≠ [] := by
          obtain ⟨x, hm, hxe⟩ := hx
          exact List.ne_nil_of_mem (List.mem_filter.mpr ⟨hm, hxe⟩)
        obtain ⟨d', A, B, run, stateA, cellsA, other⟩ := State.drawOps_glyphs (s := u) (rest := []) hrun ha hb its some
        have shown {k : Nat} {x : Band} (hx : x.Inked k
            (fun row c => ∃ x ∈ items.filter Item.exposable, ∃ j ∈ List.range 12, row = b - 9 + j
              ∧ (cells (byteAt s.proof.glyphs (12 * x.code + j)) x.column).getLsbD c = true)
            (fun row c => r.conditions &&& s.desk.setup.highlightMask &&& 0x03FF ≠ 0 ∧ b - 9 ≤ row ∧ row < b - 9 + 12
              ∧ (∃ x ∈ items.filter Item.exposable, x.column ≤ c) ∧ ∃ x ∈ items.filter Item.exposable, c ≤ x.column + 7)) :
            inked x k ink invert := fun row c hc => by
          obtain ⟨hi, hv⟩ := hx row c hc
          simp only [glyph_cells _ _ _ _ hc, List.mem_filter, and_assoc] at hi
          simp only [List.mem_filter, and_assoc] at hv
          exact ⟨hi, hv⟩
        refine ⟨A, B, quiet hops (risen.trans run) (undrawn (x := { s.proof with baseline := b, bandA := A, bandB := B }) rfl) ?_,
          stateA, shown cellsA, ?_⟩
        · refine ProofRenderer.nextReady_none (notReady (.inr ⟨_, stateA⟩)) (notReady ?_)
          split at other
          · rw [show B = s.proof.bandB from other]
            exact .inl hb
          · exact .inr ⟨_, other.1⟩
        · split
          next heq => exact (if_pos heq).mp other
          next hne =>
            have := (if_neg hne).mp other
            exact ⟨this.1, shown this.2⟩
    · intro k
      obtain ⟨ops, d, A, hops, run, cells, state⟩ : ∃ ops d A,
          (if s.proof.separatorDue then separatorOps ++ [.separatorDone] else []) ++ drawOpsOf r.work = ops
          ∧ t.drawOps ops = State.drawOps []
            { t with proof := { s.proof with drawing := d, baseline := base + 14, bandA := A, separatorDue := false } }
          ∧ inked A k (fun row _ => row = base + 3) (fun _ _ => False)
          ∧ A.state = if 16 * k + 24 < base + 14 then .ready k else .opened k := by
        rcases h with ⟨hsep, hk⟩ | ⟨hsep, hk⟩
        · obtain ⟨d, A, run, cells, state⟩ := State.drawOps_separator (s := t) (rest := []) hrun ha hb
          refine ⟨separatorOps ++ [], d, A, ?_, run.trans ?_, cells, state⟩
          · rw [hsep]
            rcases hk with hk | ⟨n, hk⟩ <;> rw [hk] <;> rfl
          · exact congrArg (fun due => State.drawOps []
              { t with proof := { s.proof with drawing := d, baseline := base + 14, bandA := A, separatorDue := due } }) hsep
        · obtain ⟨d, A, run, cells, state⟩ := State.drawOps_separator (s := t) (rest := [.separatorDone]) hrun ha hb
          refine ⟨separatorOps ++ [.separatorDone], some ⟨[.separatorDone], false⟩, A, ?_, run.trans ?_, cells, state⟩
          · rw [hsep, hk]
            rfl
          · exact State.drawOps_goes hrun rfl rfl
      by_cases hk : 16 * k + 24 < base + 14
      · rw [if_pos hk] at state
        refine ⟨{ A with state := .printing k }, cells, ?_⟩
        rw [if_pos hk]
        refine ⟨rfl, ?_⟩
        have sending := sent hops run (undrawn (x := { s.proof with baseline := base + 14, bandA := A, separatorDue := false }) rfl)
          (ProofRenderer.nextReady_first state (.inl hb)) hs
        rw [State.sending, Band.startPrinting_ready state, Band.startPrinting_other (notReady (.inl hb) k)] at sending
        exact sending
      · rw [if_neg hk] at state
        refine ⟨A, cells, ?_⟩
        rw [if_neg hk]
        exact ⟨state, quiet hops run (undrawn (x := { s.proof with baseline := base + 14, bandA := A, separatorDue := false }) rfl)
          (ProofRenderer.nextReady_none (notReady (.inr ⟨k, state⟩)) (notReady (.inl hb)))⟩
    · intro first last ink
      have hops : (if s.proof.separatorDue then separatorOps ++ [.separatorDone] else []) ++ drawOpsOf r.work =
          [.solid [3, 4, 5], .cutRise] := by
        rw [hsep, hk]
        rfl
      obtain ⟨d, A, B, run, state, cells, other⟩ := State.drawOps_cut (s := t) hrun ha hb
      have second : B.state = .free ∨ ∃ last, B.state = .ready last ∧ first ≤ last := by
        split at other
        · rw [show B = s.proof.bandB from other]
          exact .inl hb
        · exact .inr ⟨last, other.1, Nat.div_le_div_right (Nat.add_le_add_left (by decide) _)⟩
      have stands : B.state ≠ .ready first := by
        split at other
        · rw [show B = s.proof.bandB from other]
          exact notReady (.inl hb) first
        next hne =>
          rw [other.1]
          exact fun hc => hne (BandState.ready.inj hc)
      refine ⟨{ A with state := .printing first }, B, ?_, rfl, cells, other⟩
      have sending := sent hops run
        (undrawn (x := { s.proof with baseline := base + 48 + (28 - (base + 48) % 16) % 16, bandA := A, bandB := B }) rfl)
        (ProofRenderer.nextReady_first state second) hs
      rw [State.sending, Band.startPrinting_ready state, Band.startPrinting_other stands] at sending
      exact sending
  · rw [takes, State.takeProofRecord_waits hr hw hto hd hsep hk hs ha hb]

end Sys2Proof.Machine
end
